-- ==== Sys2Proof/Word.lean ====
section
/-! DEFINITION. The word types of the SHARC core: the widths of `spec/10_state.md` and the plainest arithmetic on them. -/

namespace Sys2Proof

/-- A 32-bit word: DAG and system registers, the fixed-point field of a data register (10_state.md R34, R40). -/
abbrev Word := BitVec 32

/-- The 40-bit contents of a data register; bits 39 to 8 are the 32-bit field (10_state.md R31, R34). -/
abbrev Ext := BitVec 40

/-- The 80-bit contents of a multiplier result register (10_state.md R37). -/
abbrev Acc := BitVec 80

/-- A 64-bit long word, PX, or the bit FIFO (10_state.md R39, R41). -/
abbrev Long := BitVec 64

/-- A 24-bit instruction address (10_state.md R43). -/
abbrev Addr24 := BitVec 24

/-- The number of one of sixteen registers. -/
abbrev RegNum := BitVec 4

/-- The number of one of the eight registers of one DAG (30_encoding.md R255). -/
abbrev DagNum := BitVec 3

/-- The 32-bit field of a data register (10_state.md R34). -/
def Ext.word (x : Ext) : Word := x.extractLsb' 8 32

/-- A 32-bit value written to a data register: the eight low bits are cleared (10_state.md R34). -/
def Word.toExt (w : Word) : Ext := w ++ (0#8)

/-- The bit `n` of a word as a proposition-free truth value. -/
def bitOf {w : Nat} (x : BitVec w) (n : Nat) : Bool := x.getLsbD n

end Sys2Proof
end

