-- ==== Sys2Proof/Syntax.lean ====
section
/-! DEFINITION. The instructions: one constructor of `Instr` for every row of `spec/opcode_table.json`, in its order,
with the operand fields of `spec/30_encoding.md`. -/

namespace Sys2Proof

/-- The status tests of condition codes 0 to 14 (30_encoding.md R300, 41_group2_program_flow.md R410). -/
inductive Test
  | eq | lt | le | ac | av | mv | ms | sv | sz | flag0 | flag1 | flag2 | flag3 | tf | bm
deriving DecidableEq, Repr

/-- A COND code: bit 4 negates a test; 01111 is NOT LCE and 11111 is TRUE (30_encoding.md R300). -/
inductive Cond
  | is (t : Test)
  | isNot (t : Test)
  | notLce
  | always
deriving DecidableEq, Repr

/-- A TERM code: as COND, but 01111 is LCE and 11111 is FOREVER (30_encoding.md R300). -/
inductive Term
  | is (t : Test)
  | isNot (t : Test)
  | lce
  | forever
deriving DecidableEq, Repr

/-- The system registers, group 111 of the register codes (30_encoding.md R290, R291). -/
inductive SReg
  | ustat1 | ustat2 | mode1 | mmask | mode2 | flags | astatx | astaty
  | stkyx | stkyy | irptl | imask | imaskp | lirptl | ustat3 | ustat4
deriving DecidableEq, Repr

/-- The universal registers (30_encoding.md R290; 10_state.md R32). -/
inductive UReg
  | r (n : RegNum) | i (n : RegNum) | m (n : RegNum) | l (n : RegNum) | b (n : RegNum) | s (n : RegNum)
  | faddr | daddr | pc | pcstk | pcstkp | laddr | curlcntr | lcntr
  | emuclk | emuclk2 | px | px1 | px2 | tperiod | tcount
  | sys (x : SReg)
deriving DecidableEq, Repr

/-- The parts of the multiplier result registers that an MR transfer names (30_encoding.md R316). -/
inductive MrPart
  | mr0f | mr1f | mr2f | mr0b | mr1b | mr2b
deriving DecidableEq, Repr

/-- The multiply modifiers mod1: signedness of x and of y, integer or fractional, rounding (30_encoding.md R315). -/
inductive MulMod
  | ssi | sui | usi | uui | ssf | suf | usf | uuf | ssfr | sufr | usfr | uufr
deriving DecidableEq, Repr

/-- The saturation modifiers mod2 (30_encoding.md R315). -/
inductive SatMod
  | si | ui | sf | uf
deriving DecidableEq, Repr

/-- Fixed-point ALU operations of two operands (30_encoding.md R312). -/
inductive FixOp2
  | add | sub | addCi | subCi | avg | and | or | xor | min | max | clip
deriving DecidableEq, Repr

/-- Fixed-point ALU operations of one operand (30_encoding.md R312). -/
inductive FixOp1
  | incCi | decCi | inc | dec | neg | abs | pass | not
deriving DecidableEq, Repr

/-- Floating-point ALU operations of two operands (30_encoding.md R313). -/
inductive FltOp2
  | add | sub | absAdd | absSub | avg | scalb | fixBy | truncBy | floatBy | copysign | min | max | clip
deriving DecidableEq, Repr

/-- Floating-point ALU operations of one operand (30_encoding.md R313). -/
inductive FltOp1
  | neg | abs | pass | rnd | mant | logb | fix | trunc | float | recips | rsqrts
deriving DecidableEq, Repr

/-- Multiplier forms whose result goes to a data register (30_encoding.md R314). -/
inductive MulRegOp
  | mul | addF | addB | subF | subB
deriving DecidableEq, Repr

/-- Multiplier forms whose result goes to a result register (30_encoding.md R314). -/
inductive MulAccOp
  | mulF | mulB | addF | addB | subF | subB
deriving DecidableEq, Repr

/-- Shifter operations with an x and a y operand and a result (30_encoding.md R317), without the field operations. -/
inductive ShiftOp
  | lshift | orLshift | ashift | orAshift | rot | bclr | bset | btgl
deriving DecidableEq, Repr

/-- Shifter field deposit and extract operations (30_encoding.md R317). -/
inductive FieldOp
  | fdep | orFdep | fdepSe | orFdepSe | fext | fextSe
deriving DecidableEq, Repr

/-- Shifter operations of one operand (30_encoding.md R317). -/
inductive ShiftOp1
  | exp | expEx | leftz | lefto | fpack | funpack
deriving DecidableEq, Repr

/-- The fixed-point ALU half of a multiplier and ALU multifunction (30_encoding.md R320). -/
inductive ParOp
  | add | sub | avg
deriving DecidableEq, Repr

/-- The two-operand floating-point ALU half of a multiplier and ALU multifunction (30_encoding.md R320). -/
inductive FParOp
  | add | sub | floatBy | fixBy | avg | max | min
deriving DecidableEq, Repr

/-- The multiplier half, with its result in a data register, of a multifunction (30_encoding.md R320). -/
inductive ParMul
  | mul | add | sub
deriving DecidableEq, Repr

/-- The content of a 23-bit COMPUTE field (30_encoding.md R310 to R321). -/
inductive Compute
  | none
  | fix2 (op : FixOp2) (rn rx ry : RegNum)
  | fix1 (op : FixOp1) (rn rx : RegNum)
  /-- COMP, or COMPU when `u`. -/
  | fixCmp (u : Bool) (rx ry : RegNum)
  | flt2 (op : FltOp2) (rn rx ry : RegNum)
  | flt1 (op : FltOp1) (rn rx : RegNum)
  | fltCmp (rx ry : RegNum)
  | mulReg (op : MulRegOp) (md : MulMod) (rn rx ry : RegNum)
  | mulAcc (op : MulAccOp) (md : MulMod) (rx ry : RegNum)
  /-- `Rn = SAT MRF` or, when `bg`, `Rn = SAT MRB`. -/
  | satReg (bg : Bool) (fmt : SatMod) (rn : RegNum)
  | satAcc (bg : Bool) (fmt : SatMod)
  /-- `Rn = RND MRF` or MRB; `sgn` is (SF), else (UF). -/
  | rndReg (bg sgn : Bool) (rn : RegNum)
  | rndAcc (bg sgn : Bool)
  | clrAcc (bg : Bool)
  | fmul (rn rx ry : RegNum)
  | mrGet (sel : MrPart) (rn : RegNum)
  | mrSet (sel : MrPart) (rn : RegNum)
  | shf (op : ShiftOp) (rn rx ry : RegNum)
  | fld (op : FieldOp) (rn rx ry : RegNum)
  | btst (rx ry : RegNum)
  | shf1 (op : ShiftOp1) (rn rx : RegNum)
  | bitdep (rx ry : RegNum)
  | bitext (nu : Bool) (rn rx : RegNum)
  | bffwrpSet (rn : RegNum)
  | bffwrpGet (rn : RegNum)
  | dualFix (ra rs rx ry : RegNum)
  | dualFlt (ra rs rx ry : RegNum)
  /-- `Rm = x * y (SSFR)`, `Rm = MRF + x * y (SSFR)` or `Rm = MRF - x * y (SSFR)`, with a fixed-point ALU operation. -/
  | mulAluReg (op : ParMul) (al : ParOp) (rm ra : RegNum) (xm ym xa ya : BitVec 2)
  /-- `MRF = MRF + x * y (SSF)` or, when `sub`, minus, with a fixed-point ALU operation. -/
  | mulAluAcc (sub : Bool) (al : ParOp) (ra : RegNum) (xm ym xa ya : BitVec 2)
  | fmulAlu (al : FParOp) (rm ra : RegNum) (xm ym xa ya : BitVec 2)
  | fmulAbs (rm ra : RegNum) (xm ym xa : BitVec 2)
  | mulDualFix (rs rm ra : RegNum) (xm ym xa ya : BitVec 2)
  | mulDualFlt (rs rm ra : RegNum) (xm ym xa ya : BitVec 2)
deriving DecidableEq, Repr

/-- The shift-immediate field of type 6, with DATAEX (30_encoding.md R265, R318). -/
inductive ShiftImm
  | by8 (op : ShiftOp) (data : BitVec 8) (rn rx : RegNum)
  | btst8 (data : BitVec 8) (rx : RegNum)
  /-- `imm` is DATAEX :: DATA, its low six bits bit6 and its high six bits len6. -/
  | field (op : FieldOp) (imm : BitVec 12) (rn rx : RegNum)
  | bitdep12 (imm : BitVec 12) (rx : RegNum)
  | bitext12 (nu : Bool) (imm : BitVec 12) (rn : RegNum)
  | bffwrp7 (data : BitVec 7)
deriving DecidableEq, Repr

/-- One constructor per row of `spec/opcode_table.json`, in its order; the docstring is the row's mnemonic. The digit
and letter at the end of a name are the instruction type. A compute row is the compute as an unconditional instruction
(log 18). -/
inductive Instr
  /-- `compute__DM_Ia_Mb___-__dreg__PM_Ic_Md___-__dreg` -/
  | dualMove1a (dmd : Bool) (dmi dmm : DagNum) (pmd : Bool) (dmdreg : RegNum) (pmi pmm : DagNum) (pmdreg : RegNum) (c : Compute)
  /-- `IF_cond_compute` -/
  | compute2a (cond : Cond) (c : Compute)
  /-- `IF_cond_compute__DM_PM_Ia_Mb___-__ureg___LW` -/
  | memUreg3a (u : Bool) (i m : DagNum) (cond : Cond) (g d l : Bool) (ureg : UReg) (c : Compute)
  /-- `IF_cond_compute__DM_PM_Ia__data6____-__dreg` -/
  | memDreg4a (i : DagNum) (g d u : Bool) (cond : Cond) (data : BitVec 6) (dreg : RegNum) (c : Compute)
  /-- `IF_cond_compute__ureg___ureg` -/
  | move5a (src : UReg) (cond : Cond) (dst : UReg) (c : Compute)
  /-- `IF_cond_compute__dreg__-__cdreg` -/
  | swap5a (cdreg : RegNum) (cond : Cond) (dreg : RegNum) (c : Compute)
  /-- `IF_cond_shiftimm__DM_PM_Ia_Mb___-__dreg` -/
  | shiftMem6a (i m : DagNum) (cond : Cond) (g d : Bool) (dreg : RegNum) (sh : ShiftImm)
  /-- `IF_cond_shiftimm` -/
  | shift6a (cond : Cond) (sh : ShiftImm)
  /-- `IF_cond_compute__MODIFY_Ia_Mb____Ic___MODIFY_Ia_Mb` -/
  | modify7a (g : Bool) (cond : Cond) (is m idx : DagNum) (c : Compute)
  /-- `IF_cond_JUMP__addr24____DB____LA____CI` -/
  | jumpDirect8a (a : Bool) (cond : Cond) (j ci : Bool) (addr : Addr24)
  /-- `IF_cond_JUMP__PC__reladdr24_____DB____LA____CI` -/
  | jumpRel8a (a : Bool) (cond : Cond) (j ci : Bool) (rel : Addr24)
  /-- `IF_cond_CALL__addr24____DB____LA____CI` -/
  | callDirect8a (a : Bool) (cond : Cond) (j ci : Bool) (addr : Addr24)
  /-- `IF_cond_CALL__PC__reladdr24_____DB____LA____CI` -/
  | callRel8a (a : Bool) (cond : Cond) (j ci : Bool) (rel : Addr24)
  /-- `IF_cond_JUMP__Md_Ic____DB____LA____CI_____ELSE__compute` -/
  | jumpInd9a (a : Bool) (cond : Cond) (pmi pmm : DagNum) (j e ci : Bool) (c : Compute)
  /-- `IF_cond_JUMP__PC__reladdr6_____DB____LA____CI_____ELSE` -/
  | jumpRel9a (a : Bool) (cond : Cond) (rel : BitVec 6) (j e ci : Bool) (c : Compute)
  /-- `IF_cond_CALL__Md_Ic____DB____LA____CI_____ELSE__compute` -/
  | callInd9a (a : Bool) (cond : Cond) (pmi pmm : DagNum) (j e ci : Bool) (c : Compute)
  /-- `IF_cond_CALL__PC__reladdr6_____DB____LA____CI_____ELSE` -/
  | callRel9a (a : Bool) (cond : Cond) (rel : BitVec 6) (j e ci : Bool) (c : Compute)
  /-- `IF_cond_JUMP__Md_Ic___ELSE_compute__DM_Ia_Mb___-__dreg` -/
  | jumpInd10a (d : Bool) (dmi dmm : DagNum) (cond : Cond) (pmi pmm : DagNum) (dreg : RegNum) (c : Compute)
  /-- `IF_cond_JUMP__PC__reladdr6____ELSE_compute__DM_Ia_Mb___-` -/
  | jumpRel10a (d : Bool) (dmi dmm : DagNum) (cond : Cond) (rel : BitVec 6) (dreg : RegNum) (c : Compute)
  /-- `IF_cond_RTS___DB____LR_____ELSE__compute` -/
  | rts11a (cond : Cond) (j e lr : Bool) (c : Compute)
  /-- `IF_cond_RTI___DB_____ELSE__compute` -/
  | rti11a (cond : Cond) (j e : Bool) (c : Compute)
  /-- `LCNTR____data16___DO__PC__reladdr24___UNTIL_LCE` -/
  | doImm12a (data : BitVec 16) (rel : Addr24)
  /-- `LCNTR___ureg__DO__PC__reladdr24___UNTIL_LCE` -/
  | doUreg12a (ureg : UReg) (rel : Addr24)
  /-- `DO__PC__reladdr24___UNTIL_termination` -/
  | doUntil13a (term : Term) (rel : Addr24)
  /-- `DM_PM__addr32____-__ureg___LW` -/
  | memDirect14a (g d l : Bool) (ureg : UReg) (addr : Word)
  /-- `DM_PM__data32__Ia___-__ureg___LW` -/
  | memOffset15a (g : Bool) (i : DagNum) (d l : Bool) (ureg : UReg) (data : Word)
  /-- `DM_PM_Ia_Mb_____data32` -/
  | storeImm16a (i m : DagNum) (g : Bool) (data : Word)
  /-- `ureg____data32` -/
  | loadImm17a (ureg : UReg) (data : Word)
  /-- `BIT_SET_sreg__data32` -/
  | bitSet18a (sreg : SReg) (data : Word)
  /-- `BIT_CLR_sreg__data32` -/
  | bitClr18a (sreg : SReg) (data : Word)
  /-- `BIT_TGL_sreg__data32` -/
  | bitTgl18a (sreg : SReg) (data : Word)
  /-- `BIT_TST_sreg__data32` -/
  | bitTst18a (sreg : SReg) (data : Word)
  /-- `BIT_XOR_sreg__data32` -/
  | bitXor18a (sreg : SReg) (data : Word)
  /-- `MODIFY__Ia__data32_____Ib___MODIFY__Ia__data32` -/
  | modifyImm19a (g : Bool) (idx is : DagNum) (data : Word)
  /-- `BITREV__Ia__data32_____Ib___BITREV__Ia__data32` -/
  | bitrev19a (g : Bool) (idx is : DagNum) (data : Word)
  /-- `PUSH_POP_LOOP__PUSH_POP_STS__PUSH_POP_PCSTK__FLUSH_CACHE` -/
  | stackOps20a (lpu lpo spu spo ppu ppo fc : Bool)
  /-- `PUSH_LOOP` -/
  | pushLoop20a
  /-- `POP_LOOP` -/
  | popLoop20a
  /-- `PUSH_STS` -/
  | pushSts20a
  /-- `POP_STS` -/
  | popSts20a
  /-- `PUSH_PCSTK` -/
  | pushPcstk20a
  /-- `POP_PCSTK` -/
  | popPcstk20a
  /-- `FLUSH_CACHE` -/
  | flushCache20a
  /-- `NOP` -/
  | nop21a
  /-- `IDLE` -/
  | idle22a
  /-- `EMUIDLE` -/
  | emuidle22a
  /-- `CJUMP__addr24___DB` -/
  | cjumpDirect25a (addr : Addr24)
  /-- `CJUMP__PC__reladdr24____DB` -/
  | cjumpRel25a (rel : Addr24)
  /-- `RFRAME` -/
  | rframe25a
  /-- `DM_Ia_Mb___-__dreg__PM_Ic_Md___-__dreg` -/
  | dualMove1b (dmd : Bool) (dmi dmm : DagNum) (pmd : Bool) (dmdreg : RegNum) (pmi pmm : DagNum) (pmdreg : RegNum)
  /-- `compute` -/
  | compute2b (c : Compute)
  /-- `IF_cond_DM_PM_Ia_Mb___-__ureg___LW` -/
  | memUreg3b (u : Bool) (i m : DagNum) (cond : Cond) (g d l : Bool) (ureg : UReg)
  /-- `IF_cond_DM_PM_Ia__data6____-__dreg` -/
  | memDreg4b (i : DagNum) (g d u : Bool) (cond : Cond) (data : BitVec 6) (dreg : RegNum)
  /-- `IF_cond_ureg___ureg` -/
  | move5b (src : UReg) (cond : Cond) (dst : UReg)
  /-- `IF_cond_dreg__-__cdreg` -/
  | swap5b (cdreg : RegNum) (cond : Cond) (dreg : RegNum)
  /-- `IF_cond_MODIFY_Ia_Mb____Ic___MODIFY_Ia_Mb` -/
  | modify7b (g : Bool) (cond : Cond) (is m idx : DagNum)
  /-- `IF_cond_JUMP__Md_Ic____DB____LA____CI` -/
  | jumpInd9b (a : Bool) (cond : Cond) (pmi pmm : DagNum) (j ci : Bool)
  /-- `IF_cond_JUMP__PC__reladdr6_____DB____LA____CI` -/
  | jumpRel9b (a : Bool) (cond : Cond) (rel : BitVec 6) (j ci : Bool)
  /-- `IF_cond_CALL__Md_Ic____DB____LA____CI` -/
  | callInd9b (a : Bool) (cond : Cond) (pmi pmm : DagNum) (j ci : Bool)
  /-- `IF_cond_CALL__PC__reladdr6_____DB____LA____CI` -/
  | callRel9b (a : Bool) (cond : Cond) (rel : BitVec 6) (j ci : Bool)
  /-- `DM_PM__data7__Ia___-__ureg___LW` -/
  | memOffset15b (i : DagNum) (d l g : Bool) (ureg : UReg) (data : BitVec 7)
  /-- `DM_PM_Ia_Mb_____data16` -/
  | storeImm16b (i m : DagNum) (g : Bool) (data : BitVec 16)
  /-- `ureg____data16` -/
  | loadImm17b (ureg : UReg) (data : BitVec 16)
  /-- `Rn___Rn_+_Rx` -/
  | shortAdd2c (rn rx : RegNum)
  /-- `Rn___Rn_-_Rx` -/
  | shortSub2c (rn rx : RegNum)
  /-- `Rn___PASS_Rx` -/
  | shortPass2c (rn rx : RegNum)
  /-- `COMP_Rn__Rx` -/
  | shortComp2c (rn rx : RegNum)
  /-- `Rn___NOT_Rx` -/
  | shortNot2c (rn rx : RegNum)
  /-- `Rn___Rx_+_1` -/
  | shortInc2c (rn rx : RegNum)
  /-- `Rn___Rx_-_1` -/
  | shortDec2c (rn rx : RegNum)
  /-- `Rn___Rn___Rx__SSI` -/
  | shortMul2c (rn rx : RegNum)
  /-- `Fn___Fn_+_Fx` -/
  | shortFAdd2c (rn rx : RegNum)
  /-- `Fn___Fn_-_Fx` -/
  | shortFSub2c (rn rx : RegNum)
  /-- `Fn___FLOAT_Rx` -/
  | shortFloat2c (rn rx : RegNum)
  /-- `COMP_Fn__Fx` -/
  | shortFComp2c (rn rx : RegNum)
  /-- `Rn___Rn_AND_Rx` -/
  | shortAnd2c (rn rx : RegNum)
  /-- `Rn___Rn_OR_Rx` -/
  | shortOr2c (rn rx : RegNum)
  /-- `Rn___Rn_XOR_Rx` -/
  | shortXor2c (rn rx : RegNum)
  /-- `Fn___Fn___Fx` -/
  | shortFMul2c (rn rx : RegNum)
  /-- `dreg__-__DM_Ia_Mb` -/
  | memDreg3c (i m : DagNum) (d : Bool) (dreg : RegNum)
  /-- `IF_cond_RTS___DB____LR` -/
  | rts11c (cond : Cond) (j lr : Bool)
  /-- `IF_cond_RTI___DB` -/
  | rti11c (cond : Cond) (j : Bool)
  /-- `NOP` -/
  | nop21c
  /-- `IDLE___EMUIDLE` -/
  | idle22c (emu : Bool)
  /-- `RFRAME` -/
  | rframe25c
  /-- `Rn___Rx_+_Ry` -/
  | aluAdd (rn rx ry : RegNum)
  /-- `Rn___Rx_-_Ry` -/
  | aluSub (rn rx ry : RegNum)
  /-- `Rn___Rx_+_Ry_+_CI` -/
  | aluAddCi (rn rx ry : RegNum)
  /-- `Rn___Rx_-_Ry_+_CI_-_1` -/
  | aluSubCi (rn rx ry : RegNum)
  /-- `Rn____Rx_+_Ry__2` -/
  | aluAvg (rn rx ry : RegNum)
  /-- `COMP_Rx__Ry` -/
  | aluComp (rx ry : RegNum)
  /-- `COMPU_Rx__Ry` -/
  | aluCompu (rx ry : RegNum)
  /-- `Rn___Rx_+_CI` -/
  | aluIncCi (rn rx : RegNum)
  /-- `Rn___Rx_+_CI_-_1` -/
  | aluDecCi (rn rx : RegNum)
  /-- `Rn___Rx_+_1` -/
  | aluInc (rn rx : RegNum)
  /-- `Rn___Rx_-_1` -/
  | aluDec (rn rx : RegNum)
  /-- `Rn___-Rx` -/
  | aluNeg (rn rx : RegNum)
  /-- `Rn___ABS_Rx` -/
  | aluAbs (rn rx : RegNum)
  /-- `Rn___PASS_Rx` -/
  | aluPass (rn rx : RegNum)
  /-- `Rn___Rx_AND_Ry` -/
  | aluAnd (rn rx ry : RegNum)
  /-- `Rn___Rx_OR_Ry` -/
  | aluOr (rn rx ry : RegNum)
  /-- `Rn___Rx_XOR_Ry` -/
  | aluXor (rn rx ry : RegNum)
  /-- `Rn___NOT_Rx` -/
  | aluNot (rn rx : RegNum)
  /-- `Rn___MIN_Rx__Ry` -/
  | aluMin (rn rx ry : RegNum)
  /-- `Rn___MAX_Rx__Ry` -/
  | aluMax (rn rx ry : RegNum)
  /-- `Rn___CLIP_Rx_BY_Ry` -/
  | aluClip (rn rx ry : RegNum)
  /-- `Fn___Fx_+_Fy` -/
  | fAdd (rn rx ry : RegNum)
  /-- `Fn___Fx_-_Fy` -/
  | fSub (rn rx ry : RegNum)
  /-- `Fn___ABS__Fx_+_Fy` -/
  | fAbsAdd (rn rx ry : RegNum)
  /-- `Fn___ABS__Fx_-_Fy` -/
  | fAbsSub (rn rx ry : RegNum)
  /-- `Fn____Fx_+_Fy__2` -/
  | fAvg (rn rx ry : RegNum)
  /-- `COMP_Fx__Fy` -/
  | fComp (rx ry : RegNum)
  /-- `Fn___-Fx` -/
  | fNeg (rn rx : RegNum)
  /-- `Fn___ABS_Fx` -/
  | fAbs (rn rx : RegNum)
  /-- `Fn___PASS_Fx` -/
  | fPass (rn rx : RegNum)
  /-- `Fn___RND_Fx` -/
  | fRnd (rn rx : RegNum)
  /-- `Fn___SCALB_Fx_BY_Ry` -/
  | fScalb (rn rx ry : RegNum)
  /-- `Rn___MANT_Fx` -/
  | fMant (rn rx : RegNum)
  /-- `Rn___LOGB_Fx` -/
  | fLogb (rn rx : RegNum)
  /-- `Rn___FIX_Fx` -/
  | fFix (rn rx : RegNum)
  /-- `Rn___FIX_Fx_BY_Ry` -/
  | fFixBy (rn rx ry : RegNum)
  /-- `Rn___TRUNC_Fx` -/
  | fTrunc (rn rx : RegNum)
  /-- `Rn___TRUNC_Fx_BY_Ry` -/
  | fTruncBy (rn rx ry : RegNum)
  /-- `Fn___FLOAT_Rx` -/
  | fFloat (rn rx : RegNum)
  /-- `Fn___FLOAT_Rx_BY_Ry` -/
  | fFloatBy (rn rx ry : RegNum)
  /-- `Fn___RECIPS_Fx` -/
  | fRecips (rn rx : RegNum)
  /-- `Fn___RSQRTS_Fx` -/
  | fRsqrts (rn rx : RegNum)
  /-- `Fn___Fx_COPYSIGN_Fy` -/
  | fCopysign (rn rx ry : RegNum)
  /-- `Fn___MIN_Fx__Fy` -/
  | fMin (rn rx ry : RegNum)
  /-- `Fn___MAX_Fx__Fy` -/
  | fMax (rn rx ry : RegNum)
  /-- `Fn___CLIP_Fx_BY_Fy` -/
  | fClip (rn rx ry : RegNum)
  /-- `Rn___Rx___Ry__mod1` -/
  | mulRn (md : MulMod) (rn rx ry : RegNum)
  /-- `MRF___Rx___Ry__mod1` -/
  | mulMrf (md : MulMod) (rx ry : RegNum)
  /-- `MRB___Rx___Ry__mod1` -/
  | mulMrb (md : MulMod) (rx ry : RegNum)
  /-- `Rn___MRF_+_Rx___Ry__mod1` -/
  | mulRnAddF (md : MulMod) (rn rx ry : RegNum)
  /-- `Rn___MRB_+_Rx___Ry__mod1` -/
  | mulRnAddB (md : MulMod) (rn rx ry : RegNum)
  /-- `MRF___MRF_+_Rx___Ry__mod1` -/
  | mulAddF (md : MulMod) (rx ry : RegNum)
  /-- `MRB___MRB_+_Rx___Ry__mod1` -/
  | mulAddB (md : MulMod) (rx ry : RegNum)
  /-- `Rn___MRF_-_Rx___Ry__mod1` -/
  | mulRnSubF (md : MulMod) (rn rx ry : RegNum)
  /-- `Rn___MRB_-_Rx___Ry__mod1` -/
  | mulRnSubB (md : MulMod) (rn rx ry : RegNum)
  /-- `MRF___MRF_-_Rx___Ry__mod1` -/
  | mulSubF (md : MulMod) (rx ry : RegNum)
  /-- `MRB___MRB_-_Rx___Ry__mod1` -/
  | mulSubB (md : MulMod) (rx ry : RegNum)
  /-- `Rn___SAT_MRF__mod2` -/
  | satRnF (fmt : SatMod) (rn : RegNum)
  /-- `Rn___SAT_MRB__mod2` -/
  | satRnB (fmt : SatMod) (rn : RegNum)
  /-- `MRF___SAT_MRF__mod2` -/
  | satF (fmt : SatMod)
  /-- `MRB___SAT_MRB__mod2` -/
  | satB (fmt : SatMod)
  /-- `Rn___RND_MRF__mod3` -/
  | rndRnF (sgn : Bool) (rn : RegNum)
  /-- `Rn___RND_MRB__mod3` -/
  | rndRnB (sgn : Bool) (rn : RegNum)
  /-- `MRF___RND_MRF__mod3` -/
  | rndF (sgn : Bool)
  /-- `MRB___RND_MRB__mod3` -/
  | rndB (sgn : Bool)
  /-- `MRF___0` -/
  | clrF
  /-- `MRB___0` -/
  | clrB
  /-- `Fn___Fx___Fy` -/
  | fMul (rn rx ry : RegNum)
  /-- `Rn___MR0F_MR1F_MR2F_MR0B_MR1B_MR2B` -/
  | mrGet (sel : MrPart) (rn : RegNum)
  /-- `MR0F_MR1F_MR2F_MR0B_MR1B_MR2B___Rn` -/
  | mrSet (sel : MrPart) (rn : RegNum)
  /-- `Rn___LSHIFT_Rx_BY_Ry` -/
  | lshift (rn rx ry : RegNum)
  /-- `Rn___Rn_OR_LSHIFT_Rx_BY_Ry` -/
  | orLshift (rn rx ry : RegNum)
  /-- `Rn___ASHIFT_Rx_BY_Ry` -/
  | ashift (rn rx ry : RegNum)
  /-- `Rn___Rn_OR_ASHIFT_Rx_BY_Ry` -/
  | orAshift (rn rx ry : RegNum)
  /-- `Rn___ROT_Rx_BY_Ry` -/
  | rot (rn rx ry : RegNum)
  /-- `Rn___BCLR_Rx_BY_Ry` -/
  | bclr (rn rx ry : RegNum)
  /-- `Rn___BSET_Rx_BY_Ry` -/
  | bset (rn rx ry : RegNum)
  /-- `Rn___BTGL_Rx_BY_Ry` -/
  | btgl (rn rx ry : RegNum)
  /-- `BTST_Rx_BY_Ry` -/
  | btst (rx ry : RegNum)
  /-- `Rn___FDEP_Rx_BY_Ry` -/
  | fdep (rn rx ry : RegNum)
  /-- `Rn___Rn_OR_FDEP_Rx_BY_Ry` -/
  | orFdep (rn rx ry : RegNum)
  /-- `Rn___FDEP_Rx_BY_Ry__SE` -/
  | fdepSe (rn rx ry : RegNum)
  /-- `Rn___Rn_OR_FDEP_Rx_BY_Ry__SE` -/
  | orFdepSe (rn rx ry : RegNum)
  /-- `Rn___FEXT_Rx_BY_Ry` -/
  | fext (rn rx ry : RegNum)
  /-- `Rn___FEXT_Rx_BY_Ry__SE` -/
  | fextSe (rn rx ry : RegNum)
  /-- `Rn___EXP_Rx` -/
  | exp (rn rx : RegNum)
  /-- `Rn___EXP_Rx__EX` -/
  | expEx (rn rx : RegNum)
  /-- `Rn___LEFTZ_Rx` -/
  | leftz (rn rx : RegNum)
  /-- `Rn___LEFTO_Rx` -/
  | lefto (rn rx : RegNum)
  /-- `Rn___FPACK_Fx` -/
  | fpack (rn rx : RegNum)
  /-- `Fn___FUNPACK_Rx` -/
  | funpack (rn rx : RegNum)
  /-- `BITDEP_Rx_BY_Ry` -/
  | bitdep (rx ry : RegNum)
  /-- `Rn___BITEXT_Rx` -/
  | bitext (rn rx : RegNum)
  /-- `Rn___BITEXT_Rx__NU` -/
  | bitextNu (rn rx : RegNum)
  /-- `BFFWRP___Rn` -/
  | bffwrpSet (rn : RegNum)
  /-- `Rn___BFFWRP` -/
  | bffwrpGet (rn : RegNum)
  /-- `Rn___LSHIFT_Rx_BY__data8` -/
  | lshiftImm (data : BitVec 8) (rn rx : RegNum)
  /-- `Rn___Rn_OR_LSHIFT_Rx_BY__data8` -/
  | orLshiftImm (data : BitVec 8) (rn rx : RegNum)
  /-- `Rn___ASHIFT_Rx_BY__data8` -/
  | ashiftImm (data : BitVec 8) (rn rx : RegNum)
  /-- `Rn___Rn_OR_ASHIFT_Rx_BY__data8` -/
  | orAshiftImm (data : BitVec 8) (rn rx : RegNum)
  /-- `Rn___ROT_Rx_BY__data8` -/
  | rotImm (data : BitVec 8) (rn rx : RegNum)
  /-- `Rn___BCLR_Rx_BY__data8` -/
  | bclrImm (data : BitVec 8) (rn rx : RegNum)
  /-- `Rn___BSET_Rx_BY__data8` -/
  | bsetImm (data : BitVec 8) (rn rx : RegNum)
  /-- `Rn___BTGL_Rx_BY__data8` -/
  | btglImm (data : BitVec 8) (rn rx : RegNum)
  /-- `BTST_Rx_BY__data8` -/
  | btstImm (data : BitVec 8) (rx : RegNum)
  /-- `Rn___FDEP_Rx_BY__bit6___len6` -/
  | fdepImm (imm : BitVec 12) (rn rx : RegNum)
  /-- `Rn___Rn_OR_FDEP_Rx_BY__bit6___len6` -/
  | orFdepImm (imm : BitVec 12) (rn rx : RegNum)
  /-- `Rn___FDEP_Rx_BY__bit6___len6___SE` -/
  | fdepSeImm (imm : BitVec 12) (rn rx : RegNum)
  /-- `Rn___Rn_OR_FDEP_Rx_BY__bit6___len6___SE` -/
  | orFdepSeImm (imm : BitVec 12) (rn rx : RegNum)
  /-- `Rn___FEXT_Rx_BY__bit6___len6` -/
  | fextImm (imm : BitVec 12) (rn rx : RegNum)
  /-- `Rn___FEXT_Rx_BY__bit6___len6___SE` -/
  | fextSeImm (imm : BitVec 12) (rn rx : RegNum)
  /-- `BITDEP_Rx_BY__bitlen12` -/
  | bitdepImm (imm : BitVec 12) (rx : RegNum)
  /-- `Rn___BITEXT__bitlen12` -/
  | bitextImm (imm : BitVec 12) (rn : RegNum)
  /-- `Rn___BITEXT__bitlen12___NU` -/
  | bitextNuImm (imm : BitVec 12) (rn : RegNum)
  /-- `BFFWRP____data7` -/
  | bffwrpImm (data : BitVec 7)
  /-- `Ra___Rx_+_Ry__Rs___Rx_-_Ry` -/
  | dualAddSub (ra rs rx ry : RegNum)
  /-- `Fa___Fx_+_Fy__Fs___Fx_-_Fy` -/
  | fDualAddSub (ra rs rx ry : RegNum)
  /-- `Rm___R3-0___R7-4__SSFR___Ra___R11-8_+_R15-12` -/
  | mulRmAdd (rm ra : RegNum) (xm ym xa ya : BitVec 2)
  /-- `Rm___R3-0___R7-4__SSFR___Ra___R11-8_-_R15-12` -/
  | mulRmSub (rm ra : RegNum) (xm ym xa ya : BitVec 2)
  /-- `Rm___R3-0___R7-4__SSFR___Ra____R11-8_+_R15-12__2` -/
  | mulRmAvg (rm ra : RegNum) (xm ym xa ya : BitVec 2)
  /-- `MRF___MRF_+_R3-0___R7-4__SSF___Ra___R11-8_+_R15-12` -/
  | macFAdd (ra : RegNum) (xm ym xa ya : BitVec 2)
  /-- `MRF___MRF_+_R3-0___R7-4__SSF___Ra___R11-8_-_R15-12` -/
  | macFSub (ra : RegNum) (xm ym xa ya : BitVec 2)
  /-- `MRF___MRF_+_R3-0___R7-4__SSF___Ra____R11-8_+_R15-12__2` -/
  | macFAvg (ra : RegNum) (xm ym xa ya : BitVec 2)
  /-- `Rm___MRF_+_R3-0___R7-4__SSFR___Ra___R11-8_+_R15-12` -/
  | macRmAdd (rm ra : RegNum) (xm ym xa ya : BitVec 2)
  /-- `Rm___MRF_+_R3-0___R7-4__SSFR___Ra___R11-8_-_R15-12` -/
  | macRmSub (rm ra : RegNum) (xm ym xa ya : BitVec 2)
  /-- `Rm___MRF_+_R3-0___R7-4__SSFR___Ra____R11-8_+_R15-12__2` -/
  | macRmAvg (rm ra : RegNum) (xm ym xa ya : BitVec 2)
  /-- `MRF___MRF_-_R3-0___R7-4__SSF___Ra___R11-8_+_R15-12` -/
  | msubFAdd (ra : RegNum) (xm ym xa ya : BitVec 2)
  /-- `MRF___MRF_-_R3-0___R7-4__SSF___Ra___R11-8_-_R15-12` -/
  | msubFSub (ra : RegNum) (xm ym xa ya : BitVec 2)
  /-- `MRF___MRF_-_R3-0___R7-4__SSF___Ra____R11-8_+_R15-12__2` -/
  | msubFAvg (ra : RegNum) (xm ym xa ya : BitVec 2)
  /-- `Rm___MRF_-_R3-0___R7-4__SSFR___Ra___R11-8_+_R15-12` -/
  | msubRmAdd (rm ra : RegNum) (xm ym xa ya : BitVec 2)
  /-- `Rm___MRF_-_R3-0___R7-4__SSFR___Ra___R11-8_-_R15-12` -/
  | msubRmSub (rm ra : RegNum) (xm ym xa ya : BitVec 2)
  /-- `Rm___MRF_-_R3-0___R7-4__SSFR___Ra____R11-8_+_R15-12__2` -/
  | msubRmAvg (rm ra : RegNum) (xm ym xa ya : BitVec 2)
  /-- `Fm___F3-0___F7-4__Fa___F11-8_+_F15-12` -/
  | fMulAdd (rm ra : RegNum) (xm ym xa ya : BitVec 2)
  /-- `Fm___F3-0___F7-4__Fa___F11-8_-_F15-12` -/
  | fMulSub (rm ra : RegNum) (xm ym xa ya : BitVec 2)
  /-- `Fm___F3-0___F7-4__Fa___FLOAT_R11-8_BY_R15-12` -/
  | fMulFloat (rm ra : RegNum) (xm ym xa ya : BitVec 2)
  /-- `Fm___F3-0___F7-4__Ra___FIX_F11-8_BY_R15-12` -/
  | fMulFix (rm ra : RegNum) (xm ym xa ya : BitVec 2)
  /-- `Fm___F3-0___F7-4__Fa____F11-8_+_F15-12__2` -/
  | fMulAvg (rm ra : RegNum) (xm ym xa ya : BitVec 2)
  /-- `Fm___F3-0___F7-4__Fa___ABS_F11-8` -/
  | fMulAbs (rm ra : RegNum) (xm ym xa : BitVec 2)
  /-- `Fm___F3-0___F7-4__Fa___MAX__F11-8__F15-12` -/
  | fMulMax (rm ra : RegNum) (xm ym xa ya : BitVec 2)
  /-- `Fm___F3-0___F7-4__Fa___MIN__F11-8__F15-12` -/
  | fMulMin (rm ra : RegNum) (xm ym xa ya : BitVec 2)
  /-- `Rm___R3-0___R7-4__SSFR___Ra___R11-8_+_R15-12__Rs___R11-8` -/
  | mulDual (rs rm ra : RegNum) (xm ym xa ya : BitVec 2)
  /-- `Fm___F3-0___F7-4__Fa___F11-8_+_F15-12__Fs___F11-8_-_F15-` -/
  | fMulDual (rs rm ra : RegNum) (xm ym xa ya : BitVec 2)
deriving DecidableEq, Repr

end Sys2Proof
end

