-- ==== Sys2Proof/WellFormed.lean ====
section
/-! DEFINITION. Which terms of `Instr` are the one reading of an encoding, and documented instructions. -/

namespace Sys2Proof

/-- A dual add/subtract names two different results (48_multifunction.md R704, 92_eei_decisions.md D42). -/
def Compute.wellFormed : Compute → Bool
  | .dualFix ra rs _ _ => ra != rs
  | .dualFlt ra rs _ _ => ra != rs
  | .mulDualFix rs _ ra _ _ _ _ => ra != rs
  | .mulDualFlt rs _ ra _ _ _ _ => ra != rs
  | _ => true

/-- The compute field an instruction of a computing type carries. -/
def Instr.computeField : Instr → Compute
  | .dualMove1a _ _ _ _ _ _ _ _ c => c
  | .compute2a _ c => c
  | .memUreg3a _ _ _ _ _ _ _ _ c => c
  | .memDreg4a _ _ _ _ _ _ _ c => c
  | .move5a _ _ _ c => c
  | .swap5a _ _ _ c => c
  | .modify7a _ _ _ _ _ c => c
  | .jumpInd9a _ _ _ _ _ _ _ c => c
  | .jumpRel9a _ _ _ _ _ _ c => c
  | .callInd9a _ _ _ _ _ _ _ c => c
  | .callRel9a _ _ _ _ _ _ c => c
  | .jumpInd10a _ _ _ _ _ _ _ c => c
  | .jumpRel10a _ _ _ _ _ _ c => c
  | .rts11a _ _ _ _ c => c
  | .rti11a _ _ _ c => c
  | .compute2b c => c
  | _ => .none

/-- `n` of the truth values hold. -/
def countTrue (l : List Bool) : Nat := l.foldr (fun b n => b.toNat + n) 0

/-- The one reading of an encoding: an unconditional type 2a with a compute, and an unconditional type 6a without a
move, are read as the compute or shift-immediate row (log 18); a type 20a with one bit set is read as the row of that
stack operation; a dual add/subtract has two results. -/
def Instr.wellFormed (i : Instr) : Bool :=
  match i with
  | .compute2a cond c => (cond != .always || c == .none) && c.wellFormed
  | .shift6a cond _ => cond != .always
  | .stackOps20a lpu lpo spu spo ppu ppo fc => countTrue [lpu, lpo, spu, spo, ppu, ppo, fc] != 1
  | .dualAddSub ra rs _ _ => ra != rs
  | .fDualAddSub ra rs _ _ => ra != rs
  | .mulDual rs _ ra _ _ _ _ => ra != rs
  | .fMulDual rs _ ra _ _ _ _ => ra != rs
  | i => i.computeField.wellFormed

end Sys2Proof
end

