-- ==== Sys2Proof/Decode.lean ====
section
/-! DEFINITION. The decoder and, after it, the encoder, from the layouts of `spec/30_encoding.md`. A layout is the list
of its field widths from the most significant bit down; `unpack` cuts a word by a layout and `pack` builds it. -/

namespace Sys2Proof

/-! ## Fields -/

/-- The fields of `x` by widths from the most significant field down. -/
def unpack : List Nat → Nat → List Nat
  | [], _ => []
  | w :: ws, x => x / 2 ^ ws.sum % 2 ^ w :: unpack ws x

/-- The word with these fields, each below two to the power of its width. -/
def pack : List Nat → List Nat → Nat
  | w :: ws, v :: vs => v % 2 ^ w * 2 ^ ws.sum + pack ws vs
  | _, _ => 0

/-- A field as a bit vector. -/
def bv {w : Nat} (x : Nat) : BitVec w := BitVec.ofNat w x

/-- A one-bit field as a truth value. -/
def flag (x : Nat) : Bool := x == 1

/-! ## Codes of 30_encoding.md R290, R291, R300 -/

/-- Codes 0 to 14 of R300. -/
def Test.code : Test → Nat
  | .eq => 0 | .lt => 1 | .le => 2 | .ac => 3 | .av => 4 | .mv => 5 | .ms => 6 | .sv => 7
  | .sz => 8 | .flag0 => 9 | .flag1 => 10 | .flag2 => 11 | .flag3 => 12 | .tf => 13 | .bm => 14

/-- The test with a code of R300. -/
def Test.ofCode : Nat → Test
  | 0 => .eq | 1 => .lt | 2 => .le | 3 => .ac | 4 => .av | 5 => .mv | 6 => .ms | 7 => .sv
  | 8 => .sz | 9 => .flag0 | 10 => .flag1 | 11 => .flag2 | 12 => .flag3 | 13 => .tf | _ => .bm

def Cond.code : Cond → Nat
  | .is t => t.code
  | .isNot t => 16 + t.code
  | .notLce => 15
  | .always => 31

/-- The condition with a 5-bit COND code. -/
def Cond.ofCode (n : Nat) : Cond :=
  if n = 31 then .always
  else if n = 15 then .notLce
  else if n < 16 then .is (.ofCode n)
  else .isNot (.ofCode (n - 16))

def Term.code : Term → Nat
  | .is t => t.code
  | .isNot t => 16 + t.code
  | .lce => 15
  | .forever => 31

/-- The termination with a 5-bit TERM code. -/
def Term.ofCode (n : Nat) : Term :=
  if n = 31 then .forever
  else if n = 15 then .lce
  else if n < 16 then .is (.ofCode n)
  else .isNot (.ofCode (n - 16))

def SReg.code : SReg → Nat
  | .ustat1 => 0 | .ustat2 => 1 | .mode1 => 2 | .mmask => 3 | .mode2 => 4 | .flags => 5 | .astatx => 6 | .astaty => 7
  | .stkyx => 8 | .stkyy => 9 | .irptl => 10 | .imask => 11 | .imaskp => 12 | .lirptl => 13 | .ustat3 => 14
  | .ustat4 => 15

/-- The system register with a 4-bit code. -/
def SReg.ofCode : Nat → SReg
  | 0 => .ustat1 | 1 => .ustat2 | 2 => .mode1 | 3 => .mmask | 4 => .mode2 | 5 => .flags | 6 => .astatx | 7 => .astaty
  | 8 => .stkyx | 9 => .stkyy | 10 => .irptl | 11 => .imask | 12 => .imaskp | 13 => .lirptl | 14 => .ustat3
  | _ => .ustat4

def UReg.code : UReg → Nat
  | .r n => n.toNat
  | .i n => 16 + n.toNat
  | .m n => 32 + n.toNat
  | .l n => 48 + n.toNat
  | .b n => 64 + n.toNat
  | .s n => 80 + n.toNat
  | .faddr => 96 | .daddr => 97 | .pc => 99 | .pcstk => 100 | .pcstkp => 101 | .laddr => 102 | .curlcntr => 103
  | .lcntr => 104 | .emuclk => 105 | .emuclk2 => 106 | .px => 107 | .px1 => 108 | .px2 => 109 | .tperiod => 110
  | .tcount => 111
  | .sys x => 112 + x.code

/-- The universal register with a 7-bit code; 110 0010 is not assigned (R290). -/
def UReg.ofCode (c : Nat) : Option UReg :=
  match c / 16 with
  | 0 => some (.r (bv (c % 16)))
  | 1 => some (.i (bv (c % 16)))
  | 2 => some (.m (bv (c % 16)))
  | 3 => some (.l (bv (c % 16)))
  | 4 => some (.b (bv (c % 16)))
  | 5 => some (.s (bv (c % 16)))
  | 6 =>
    match c % 16 with
    | 0 => some .faddr | 1 => some .daddr | 3 => some .pc | 4 => some .pcstk | 5 => some .pcstkp
    | 6 => some .laddr | 7 => some .curlcntr | 8 => some .lcntr | 9 => some .emuclk | 10 => some .emuclk2
    | 11 => some .px | 12 => some .px1 | 13 => some .px2 | 14 => some .tperiod | 15 => some .tcount
    | _ => none
  | _ => some (.sys (.ofCode (c % 16)))

/-! ## The compute field, R310 to R321 -/

/-- Fixed-point ALU opcodes of two operands (R312). -/
def FixOp2.code : FixOp2 → Nat
  | .add => 0x01 | .sub => 0x02 | .addCi => 0x05 | .subCi => 0x06 | .avg => 0x09 | .and => 0x40 | .or => 0x41
  | .xor => 0x42 | .min => 0x61 | .max => 0x62 | .clip => 0x63

/-- Fixed-point ALU opcodes of one operand (R312). -/
def FixOp1.code : FixOp1 → Nat
  | .incCi => 0x23 | .decCi => 0x26 | .inc => 0x29 | .dec => 0x2A | .neg => 0x22 | .abs => 0x30 | .pass => 0x21
  | .not => 0x43

/-- Floating-point ALU opcodes of two operands (R313). -/
def FltOp2.code : FltOp2 → Nat
  | .add => 0x81 | .sub => 0x82 | .absAdd => 0x91 | .absSub => 0x92 | .avg => 0x89 | .scalb => 0xBD | .fixBy => 0xD9
  | .truncBy => 0xDD | .floatBy => 0xDA | .copysign => 0xE0 | .min => 0xE1 | .max => 0xE2 | .clip => 0xE3

/-- Floating-point ALU opcodes of one operand (R313). -/
def FltOp1.code : FltOp1 → Nat
  | .neg => 0xA2 | .abs => 0xB0 | .pass => 0xA1 | .rnd => 0xA5 | .mant => 0xAD | .logb => 0xC1 | .fix => 0xC9
  | .trunc => 0xCD | .float => 0xCA | .recips => 0xC4 | .rsqrts => 0xC5

/-- Shifter opcodes (R317). -/
def ShiftOp.code : ShiftOp → Nat
  | .lshift => 0x00 | .orLshift => 0x20 | .ashift => 0x04 | .orAshift => 0x24 | .rot => 0x08 | .bclr => 0xC4
  | .bset => 0xC0 | .btgl => 0xC8

def FieldOp.code : FieldOp → Nat
  | .fdep => 0x44 | .orFdep => 0x64 | .fdepSe => 0x4C | .orFdepSe => 0x6C | .fext => 0x40 | .fextSe => 0x48

def ShiftOp1.code : ShiftOp1 → Nat
  | .exp => 0x80 | .expEx => 0x84 | .leftz => 0x88 | .lefto => 0x8C | .fpack => 0x90 | .funpack => 0x94

/-- The ALU opcodes of R312 and R313; `n`, `x`, `y` are the register fields. -/
def decodeAlu (op : Nat) (n x y : RegNum) : Option Compute :=
  match op with
  | 0x01 => some (.fix2 .add n x y) | 0x02 => some (.fix2 .sub n x y)
  | 0x05 => some (.fix2 .addCi n x y) | 0x06 => some (.fix2 .subCi n x y)
  | 0x09 => some (.fix2 .avg n x y) | 0x0A => some (.fixCmp false x y) | 0x0B => some (.fixCmp true x y)
  | 0x23 => some (.fix1 .incCi n x) | 0x26 => some (.fix1 .decCi n x)
  | 0x29 => some (.fix1 .inc n x) | 0x2A => some (.fix1 .dec n x) | 0x22 => some (.fix1 .neg n x)
  | 0x30 => some (.fix1 .abs n x) | 0x21 => some (.fix1 .pass n x)
  | 0x40 => some (.fix2 .and n x y) | 0x41 => some (.fix2 .or n x y) | 0x42 => some (.fix2 .xor n x y)
  | 0x43 => some (.fix1 .not n x) | 0x61 => some (.fix2 .min n x y) | 0x62 => some (.fix2 .max n x y)
  | 0x63 => some (.fix2 .clip n x y)
  | 0x81 => some (.flt2 .add n x y) | 0x82 => some (.flt2 .sub n x y)
  | 0x91 => some (.flt2 .absAdd n x y) | 0x92 => some (.flt2 .absSub n x y)
  | 0x89 => some (.flt2 .avg n x y) | 0x8A => some (.fltCmp x y)
  | 0xA2 => some (.flt1 .neg n x) | 0xB0 => some (.flt1 .abs n x) | 0xA1 => some (.flt1 .pass n x)
  | 0xA5 => some (.flt1 .rnd n x) | 0xBD => some (.flt2 .scalb n x y) | 0xAD => some (.flt1 .mant n x)
  | 0xC1 => some (.flt1 .logb n x) | 0xC9 => some (.flt1 .fix n x) | 0xD9 => some (.flt2 .fixBy n x y)
  | 0xCD => some (.flt1 .trunc n x) | 0xDD => some (.flt2 .truncBy n x y)
  | 0xCA => some (.flt1 .float n x) | 0xDA => some (.flt2 .floatBy n x y)
  | 0xC4 => some (.flt1 .recips n x) | 0xC5 => some (.flt1 .rsqrts n x)
  | 0xE0 => some (.flt2 .copysign n x y) | 0xE1 => some (.flt2 .min n x y)
  | 0xE2 => some (.flt2 .max n x y) | 0xE3 => some (.flt2 .clip n x y)
  | _ => none

/-- The bits y, x, f, r of a multiply modifier (R315). -/
def MulMod.bits : MulMod → Nat × Nat × Nat × Nat
  | .ssi => (1, 1, 0, 0) | .sui => (0, 1, 0, 0) | .usi => (1, 0, 0, 0) | .uui => (0, 0, 0, 0)
  | .ssf => (1, 1, 1, 0) | .suf => (0, 1, 1, 0) | .usf => (1, 0, 1, 0) | .uuf => (0, 0, 1, 0)
  | .ssfr => (1, 1, 1, 1) | .sufr => (0, 1, 1, 1) | .usfr => (1, 0, 1, 1) | .uufr => (0, 0, 1, 1)

/-- The multiply modifier with the bits y, x, f, r; an integer format does not round (R314, R315). -/
def MulMod.ofBits (y x f r : Nat) : Option MulMod :=
  match y, x, f, r with
  | 1, 1, 0, 0 => some .ssi | 0, 1, 0, 0 => some .sui | 1, 0, 0, 0 => some .usi | 0, 0, 0, 0 => some .uui
  | 1, 1, 1, 0 => some .ssf | 0, 1, 1, 0 => some .suf | 1, 0, 1, 0 => some .usf | 0, 0, 1, 0 => some .uuf
  | 1, 1, 1, 1 => some .ssfr | 0, 1, 1, 1 => some .sufr | 1, 0, 1, 1 => some .usfr | 0, 0, 1, 1 => some .uufr
  | _, _, _, _ => none

/-- The bits f and s of a saturation modifier (R315). -/
def SatMod.bits : SatMod → Nat × Nat
  | .si => (0, 1) | .ui => (0, 0) | .sf => (1, 1) | .uf => (1, 0)

def SatMod.ofBits (f s : Nat) : SatMod :=
  if f = 0 then (if s = 1 then .si else .ui) else (if s = 1 then .sf else .uf)

/-- The class (bits 19 and 18) and the destination (bits 14 and 13) of a multiply to a data register (R314). -/
def MulRegOp.bits : MulRegOp → Nat × Nat
  | .mul => (1, 0) | .addF => (2, 0) | .addB => (2, 1) | .subF => (3, 0) | .subB => (3, 1)

/-- The class and the destination of a multiply to a result register (R314). -/
def MulAccOp.bits : MulAccOp → Nat × Nat
  | .mulF => (1, 2) | .mulB => (1, 3) | .addF => (2, 2) | .addB => (2, 3) | .subF => (3, 2) | .subB => (3, 3)

/-- The widths of a multiplier compute field: 001, class, y, x, f, destination, r, Rn, Rx, Ry (R310, R314). -/
def mulLayout : List Nat := [3, 2, 1, 1, 1, 2, 1, 4, 4, 4]

/-- The multiplier opcodes (R314). -/
def decodeMul (k y x f d r : Nat) (rn rx ry : RegNum) : Option Compute :=
  match k, d with
  | 1, 0 => (MulMod.ofBits y x f r).map fun md => .mulReg .mul md rn rx ry
  | 1, 2 => (MulMod.ofBits y x f r).map fun md => .mulAcc .mulF md rx ry
  | 1, 3 => (MulMod.ofBits y x f r).map fun md => .mulAcc .mulB md rx ry
  | 2, 0 => (MulMod.ofBits y x f r).map fun md => .mulReg .addF md rn rx ry
  | 2, 1 => (MulMod.ofBits y x f r).map fun md => .mulReg .addB md rn rx ry
  | 2, 2 => (MulMod.ofBits y x f r).map fun md => .mulAcc .addF md rx ry
  | 2, 3 => (MulMod.ofBits y x f r).map fun md => .mulAcc .addB md rx ry
  | 3, 0 => (MulMod.ofBits y x f r).map fun md => .mulReg .subF md rn rx ry
  | 3, 1 => (MulMod.ofBits y x f r).map fun md => .mulReg .subB md rn rx ry
  | 3, 2 => (MulMod.ofBits y x f r).map fun md => .mulAcc .subF md rx ry
  | 3, 3 => (MulMod.ofBits y x f r).map fun md => .mulAcc .subB md rx ry
  | 0, d =>
    match y, x, f, d, r with
    | 0, 0, f, 0, s => some (.satReg false (.ofBits f s) rn)
    | 0, 0, f, 1, s => some (.satReg true (.ofBits f s) rn)
    | 0, 0, f, 2, s => some (.satAcc false (.ofBits f s))
    | 0, 0, f, _, s => some (.satAcc true (.ofBits f s))
    | 0, 1, 1, 0, s => some (.rndReg false (flag s) rn)
    | 0, 1, 1, 1, s => some (.rndReg true (flag s) rn)
    | 0, 1, 1, 2, s => some (.rndAcc false (flag s))
    | 0, 1, 1, _, s => some (.rndAcc true (flag s))
    | 0, 1, 0, 2, 0 => some (.clrAcc false)
    | 0, 1, 0, 3, 0 => some (.clrAcc true)
    | 1, 1, 0, 0, 0 => some (.fmul rn rx ry)
    | _, _, _, _, _ => none
  | _, _ => none

/-- The shifter opcodes (R317). -/
def decodeShifter (op : Nat) (n x y : RegNum) : Option Compute :=
  match op with
  | 0x00 => some (.shf .lshift n x y) | 0x20 => some (.shf .orLshift n x y)
  | 0x04 => some (.shf .ashift n x y) | 0x24 => some (.shf .orAshift n x y)
  | 0x08 => some (.shf .rot n x y) | 0xC4 => some (.shf .bclr n x y) | 0xC0 => some (.shf .bset n x y)
  | 0xC8 => some (.shf .btgl n x y) | 0xCC => some (.btst x y)
  | 0x44 => some (.fld .fdep n x y) | 0x64 => some (.fld .orFdep n x y) | 0x4C => some (.fld .fdepSe n x y)
  | 0x6C => some (.fld .orFdepSe n x y) | 0x40 => some (.fld .fext n x y) | 0x48 => some (.fld .fextSe n x y)
  | 0x80 => some (.shf1 .exp n x) | 0x84 => some (.shf1 .expEx n x) | 0x88 => some (.shf1 .leftz n x)
  | 0x8C => some (.shf1 .lefto n x) | 0x90 => some (.shf1 .fpack n x) | 0x94 => some (.shf1 .funpack n x)
  | 0x74 => some (.bitdep x y) | 0x50 => some (.bitext false n x) | 0x58 => some (.bitext true n x)
  | 0x7C => some (.bffwrpSet n) | 0x70 => some (.bffwrpGet n)
  | _ => none

/-- The M field of an MR transfer (R316). -/
def MrPart.code : MrPart → Nat
  | .mr0f => 0 | .mr1f => 1 | .mr2f => 2 | .mr0b => 4 | .mr1b => 5 | .mr2b => 6

def MrPart.ofCode : Nat → Option MrPart
  | 0 => some .mr0f | 1 => some .mr1f | 2 => some .mr2f | 4 => some .mr0b | 5 => some .mr1b | 6 => some .mr2b
  | _ => none

def ParOp.code : ParOp → Nat
  | .add => 0 | .sub => 1 | .avg => 2

/-- The opcode of the multiplier half, its low two bits those of `ParOp` (R320). -/
def ParMul.code : ParMul → Nat
  | .mul => 4 | .add => 12 | .sub => 20

def FParOp.code : FParOp → Nat
  | .add => 24 | .sub => 25 | .floatBy => 26 | .fixBy => 27 | .avg => 28 | .max => 30 | .min => 31

/-- The opcodes of multiplier and ALU in parallel (R320). -/
def decodePar (op : Nat) (rm ra : RegNum) (xm ym xa ya : BitVec 2) : Option Compute :=
  match op with
  | 4 => some (.mulAluReg .mul .add rm ra xm ym xa ya)
  | 5 => some (.mulAluReg .mul .sub rm ra xm ym xa ya)
  | 6 => some (.mulAluReg .mul .avg rm ra xm ym xa ya)
  | 8 => some (.mulAluAcc false .add ra xm ym xa ya)
  | 9 => some (.mulAluAcc false .sub ra xm ym xa ya)
  | 10 => some (.mulAluAcc false .avg ra xm ym xa ya)
  | 12 => some (.mulAluReg .add .add rm ra xm ym xa ya)
  | 13 => some (.mulAluReg .add .sub rm ra xm ym xa ya)
  | 14 => some (.mulAluReg .add .avg rm ra xm ym xa ya)
  | 16 => some (.mulAluAcc true .add ra xm ym xa ya)
  | 17 => some (.mulAluAcc true .sub ra xm ym xa ya)
  | 18 => some (.mulAluAcc true .avg ra xm ym xa ya)
  | 20 => some (.mulAluReg .sub .add rm ra xm ym xa ya)
  | 21 => some (.mulAluReg .sub .sub rm ra xm ym xa ya)
  | 22 => some (.mulAluReg .sub .avg rm ra xm ym xa ya)
  | 24 => some (.fmulAlu .add rm ra xm ym xa ya)
  | 25 => some (.fmulAlu .sub rm ra xm ym xa ya)
  | 26 => some (.fmulAlu .floatBy rm ra xm ym xa ya)
  | 27 => some (.fmulAlu .fixBy rm ra xm ym xa ya)
  | 28 => some (.fmulAlu .avg rm ra xm ym xa ya)
  | 29 => some (.fmulAbs rm ra xm ym xa)
  | 30 => some (.fmulAlu .max rm ra xm ym xa ya)
  | 31 => some (.fmulAlu .min rm ra xm ym xa ya)
  | _ => none

/-- Bit 22 and CU, an 8-bit opcode, Rn, Rx, Ry (R310). -/
def computeLayout : List Nat := [3, 8, 4, 4, 4]
/-- 000 and 0111 or 1111, Ra, Rs, Rx, Ry (R319). -/
def dualLayout : List Nat := [7, 4, 4, 4, 4]
/-- 100000, T, M, Dreg and eight unused bits (R316). -/
def mrLayout : List Nat := [6, 1, 4, 4, 8]
/-- Bit 22, opcode, Rm, Ra, Rxm, Rym, Rxa, Rya (R320). -/
def parLayout : List Nat := [1, 6, 4, 4, 2, 2, 2, 2]
/-- 110 or 111, Rs, Rm, Ra, Rxm, Rym, Rxa, Rya (R321). -/
def mulDualLayout : List Nat := [3, 4, 4, 4, 2, 2, 2, 2]

/-- The fixed-point and floating-point ALU formats: the dual add/subtract or a single operation (R311). -/
def decodeAluField (x : Nat) : Option Compute :=
  match unpack dualLayout x with
  | [7, ra, rs, rx, ry] => some (.dualFix (bv ra) (bv rs) (bv rx) (bv ry))
  | [15, ra, rs, rx, ry] => some (.dualFlt (bv ra) (bv rs) (bv rx) (bv ry))
  | _ =>
    match unpack computeLayout x with
    | [_, op, n, rx, ry] => decodeAlu op (bv n) (bv rx) (bv ry)
    | _ => none

def decodeMulField (x : Nat) : Option Compute :=
  match unpack mulLayout x with
  | [_, k, y, xx, f, d, r, n, rx, ry] => decodeMul k y xx f d r (bv n) (bv rx) (bv ry)
  | _ => none

def decodeShifterField (x : Nat) : Option Compute :=
  match unpack computeLayout x with
  | [_, op, n, rx, ry] => decodeShifter op (bv n) (bv rx) (bv ry)
  | _ => none

/-- MR transfers and multiplier with ALU (R311). -/
def decodeParField (x : Nat) : Option Compute :=
  match unpack mrLayout x with
  | [32, 0, m, n, 0] => (MrPart.ofCode m).map fun sel => .mrGet sel (bv n)
  | [32, 1, m, n, 0] => (MrPart.ofCode m).map fun sel => .mrSet sel (bv n)
  | _ =>
    match unpack parLayout x with
    | [_, op, rm, ra, xm, ym, xa, ya] => decodePar op (bv rm) (bv ra) (bv xm) (bv ym) (bv xa) (bv ya)
    | _ => none

/-- The 23-bit compute field (R311); the all-zero field is no operation. -/
def decodeCompute (x : Nat) : Option Compute :=
  if x = 0 then some .none
  else
    match x / 2 ^ 20 with
    | 0 => decodeAluField x
    | 1 => decodeMulField x
    | 2 => decodeShifterField x
    | 3 => none
    | 4 => decodeParField x
    | 5 => decodeParField x
    | 6 =>
      match unpack mulDualLayout x with
      | [_, rs, rm, ra, xm, ym, xa, ya] =>
        some (.mulDualFix (bv rs) (bv rm) (bv ra) (bv xm) (bv ym) (bv xa) (bv ya))
      | _ => none
    | 7 =>
      match unpack mulDualLayout x with
      | [_, rs, rm, ra, xm, ym, xa, ya] =>
        some (.mulDualFlt (bv rs) (bv rm) (bv ra) (bv xm) (bv ym) (bv xa) (bv ya))
      | _ => none
    | _ => none

/-- The shift-immediate field: 0, SHIFTIM, DATA, Rn, Rx (R318). -/
def shiftImmLayout : List Nat := [1, 6, 8, 4, 4]

/-- The shift-immediate field with DATAEX `ex`; SHIFTIM is the opcode of R317 without its two low bits (R318). -/
def decodeShiftImm (ex x : Nat) : Option ShiftImm :=
  match unpack shiftImmLayout x with
  | [0, op, data, n, rx] =>
    let imm : BitVec 12 := bv (ex * 256 + data)
    match op * 4 with
    | 0x00 => some (.by8 .lshift (bv data) (bv n) (bv rx))
    | 0x20 => some (.by8 .orLshift (bv data) (bv n) (bv rx))
    | 0x04 => some (.by8 .ashift (bv data) (bv n) (bv rx))
    | 0x24 => some (.by8 .orAshift (bv data) (bv n) (bv rx))
    | 0x08 => some (.by8 .rot (bv data) (bv n) (bv rx))
    | 0xC4 => some (.by8 .bclr (bv data) (bv n) (bv rx))
    | 0xC0 => some (.by8 .bset (bv data) (bv n) (bv rx))
    | 0xC8 => some (.by8 .btgl (bv data) (bv n) (bv rx))
    | 0xCC => some (.btst8 (bv data) (bv rx))
    | 0x44 => some (.field .fdep imm (bv n) (bv rx))
    | 0x64 => some (.field .orFdep imm (bv n) (bv rx))
    | 0x4C => some (.field .fdepSe imm (bv n) (bv rx))
    | 0x6C => some (.field .orFdepSe imm (bv n) (bv rx))
    | 0x40 => some (.field .fext imm (bv n) (bv rx))
    | 0x48 => some (.field .fextSe imm (bv n) (bv rx))
    | 0x74 => some (.bitdep12 imm (bv rx))
    | 0x50 => some (.bitext12 false imm (bv n))
    | 0x58 => some (.bitext12 true imm (bv n))
    | 0x7C => some (.bffwrp7 (bv data))
    | _ => none
  | _ => none

/-! ## The compute rows as instructions (log 18) -/

/-- The instruction that is the compute alone. -/
def Compute.instr : Compute → Instr
  | .none => .compute2a .always .none
  | .fix2 .add rn rx ry => .aluAdd rn rx ry
  | .fix2 .sub rn rx ry => .aluSub rn rx ry
  | .fix2 .addCi rn rx ry => .aluAddCi rn rx ry
  | .fix2 .subCi rn rx ry => .aluSubCi rn rx ry
  | .fix2 .avg rn rx ry => .aluAvg rn rx ry
  | .fixCmp false rx ry => .aluComp rx ry
  | .fixCmp true rx ry => .aluCompu rx ry
  | .fix1 .incCi rn rx => .aluIncCi rn rx
  | .fix1 .decCi rn rx => .aluDecCi rn rx
  | .fix1 .inc rn rx => .aluInc rn rx
  | .fix1 .dec rn rx => .aluDec rn rx
  | .fix1 .neg rn rx => .aluNeg rn rx
  | .fix1 .abs rn rx => .aluAbs rn rx
  | .fix1 .pass rn rx => .aluPass rn rx
  | .fix2 .and rn rx ry => .aluAnd rn rx ry
  | .fix2 .or rn rx ry => .aluOr rn rx ry
  | .fix2 .xor rn rx ry => .aluXor rn rx ry
  | .fix1 .not rn rx => .aluNot rn rx
  | .fix2 .min rn rx ry => .aluMin rn rx ry
  | .fix2 .max rn rx ry => .aluMax rn rx ry
  | .fix2 .clip rn rx ry => .aluClip rn rx ry
  | .flt2 .add rn rx ry => .fAdd rn rx ry
  | .flt2 .sub rn rx ry => .fSub rn rx ry
  | .flt2 .absAdd rn rx ry => .fAbsAdd rn rx ry
  | .flt2 .absSub rn rx ry => .fAbsSub rn rx ry
  | .flt2 .avg rn rx ry => .fAvg rn rx ry
  | .fltCmp rx ry => .fComp rx ry
  | .flt1 .neg rn rx => .fNeg rn rx
  | .flt1 .abs rn rx => .fAbs rn rx
  | .flt1 .pass rn rx => .fPass rn rx
  | .flt1 .rnd rn rx => .fRnd rn rx
  | .flt2 .scalb rn rx ry => .fScalb rn rx ry
  | .flt1 .mant rn rx => .fMant rn rx
  | .flt1 .logb rn rx => .fLogb rn rx
  | .flt1 .fix rn rx => .fFix rn rx
  | .flt2 .fixBy rn rx ry => .fFixBy rn rx ry
  | .flt1 .trunc rn rx => .fTrunc rn rx
  | .flt2 .truncBy rn rx ry => .fTruncBy rn rx ry
  | .flt1 .float rn rx => .fFloat rn rx
  | .flt2 .floatBy rn rx ry => .fFloatBy rn rx ry
  | .flt1 .recips rn rx => .fRecips rn rx
  | .flt1 .rsqrts rn rx => .fRsqrts rn rx
  | .flt2 .copysign rn rx ry => .fCopysign rn rx ry
  | .flt2 .min rn rx ry => .fMin rn rx ry
  | .flt2 .max rn rx ry => .fMax rn rx ry
  | .flt2 .clip rn rx ry => .fClip rn rx ry
  | .mulReg .mul md rn rx ry => .mulRn md rn rx ry
  | .mulAcc .mulF md rx ry => .mulMrf md rx ry
  | .mulAcc .mulB md rx ry => .mulMrb md rx ry
  | .mulReg .addF md rn rx ry => .mulRnAddF md rn rx ry
  | .mulReg .addB md rn rx ry => .mulRnAddB md rn rx ry
  | .mulAcc .addF md rx ry => .mulAddF md rx ry
  | .mulAcc .addB md rx ry => .mulAddB md rx ry
  | .mulReg .subF md rn rx ry => .mulRnSubF md rn rx ry
  | .mulReg .subB md rn rx ry => .mulRnSubB md rn rx ry
  | .mulAcc .subF md rx ry => .mulSubF md rx ry
  | .mulAcc .subB md rx ry => .mulSubB md rx ry
  | .satReg false fmt rn => .satRnF fmt rn
  | .satReg true fmt rn => .satRnB fmt rn
  | .satAcc false fmt => .satF fmt
  | .satAcc true fmt => .satB fmt
  | .rndReg false sgn rn => .rndRnF sgn rn
  | .rndReg true sgn rn => .rndRnB sgn rn
  | .rndAcc false sgn => .rndF sgn
  | .rndAcc true sgn => .rndB sgn
  | .clrAcc false => .clrF
  | .clrAcc true => .clrB
  | .fmul rn rx ry => .fMul rn rx ry
  | .mrGet sel rn => .mrGet sel rn
  | .mrSet sel rn => .mrSet sel rn
  | .shf .lshift rn rx ry => .lshift rn rx ry
  | .shf .orLshift rn rx ry => .orLshift rn rx ry
  | .shf .ashift rn rx ry => .ashift rn rx ry
  | .shf .orAshift rn rx ry => .orAshift rn rx ry
  | .shf .rot rn rx ry => .rot rn rx ry
  | .shf .bclr rn rx ry => .bclr rn rx ry
  | .shf .bset rn rx ry => .bset rn rx ry
  | .shf .btgl rn rx ry => .btgl rn rx ry
  | .btst rx ry => .btst rx ry
  | .fld .fdep rn rx ry => .fdep rn rx ry
  | .fld .orFdep rn rx ry => .orFdep rn rx ry
  | .fld .fdepSe rn rx ry => .fdepSe rn rx ry
  | .fld .orFdepSe rn rx ry => .orFdepSe rn rx ry
  | .fld .fext rn rx ry => .fext rn rx ry
  | .fld .fextSe rn rx ry => .fextSe rn rx ry
  | .shf1 .exp rn rx => .exp rn rx
  | .shf1 .expEx rn rx => .expEx rn rx
  | .shf1 .leftz rn rx => .leftz rn rx
  | .shf1 .lefto rn rx => .lefto rn rx
  | .shf1 .fpack rn rx => .fpack rn rx
  | .shf1 .funpack rn rx => .funpack rn rx
  | .bitdep rx ry => .bitdep rx ry
  | .bitext false rn rx => .bitext rn rx
  | .bitext true rn rx => .bitextNu rn rx
  | .bffwrpSet rn => .bffwrpSet rn
  | .bffwrpGet rn => .bffwrpGet rn
  | .dualFix ra rs rx ry => .dualAddSub ra rs rx ry
  | .dualFlt ra rs rx ry => .fDualAddSub ra rs rx ry
  | .mulAluReg .mul .add rm ra xm ym xa ya => .mulRmAdd rm ra xm ym xa ya
  | .mulAluReg .mul .sub rm ra xm ym xa ya => .mulRmSub rm ra xm ym xa ya
  | .mulAluReg .mul .avg rm ra xm ym xa ya => .mulRmAvg rm ra xm ym xa ya
  | .mulAluAcc false .add ra xm ym xa ya => .macFAdd ra xm ym xa ya
  | .mulAluAcc false .sub ra xm ym xa ya => .macFSub ra xm ym xa ya
  | .mulAluAcc false .avg ra xm ym xa ya => .macFAvg ra xm ym xa ya
  | .mulAluReg .add .add rm ra xm ym xa ya => .macRmAdd rm ra xm ym xa ya
  | .mulAluReg .add .sub rm ra xm ym xa ya => .macRmSub rm ra xm ym xa ya
  | .mulAluReg .add .avg rm ra xm ym xa ya => .macRmAvg rm ra xm ym xa ya
  | .mulAluAcc true .add ra xm ym xa ya => .msubFAdd ra xm ym xa ya
  | .mulAluAcc true .sub ra xm ym xa ya => .msubFSub ra xm ym xa ya
  | .mulAluAcc true .avg ra xm ym xa ya => .msubFAvg ra xm ym xa ya
  | .mulAluReg .sub .add rm ra xm ym xa ya => .msubRmAdd rm ra xm ym xa ya
  | .mulAluReg .sub .sub rm ra xm ym xa ya => .msubRmSub rm ra xm ym xa ya
  | .mulAluReg .sub .avg rm ra xm ym xa ya => .msubRmAvg rm ra xm ym xa ya
  | .fmulAlu .add rm ra xm ym xa ya => .fMulAdd rm ra xm ym xa ya
  | .fmulAlu .sub rm ra xm ym xa ya => .fMulSub rm ra xm ym xa ya
  | .fmulAlu .floatBy rm ra xm ym xa ya => .fMulFloat rm ra xm ym xa ya
  | .fmulAlu .fixBy rm ra xm ym xa ya => .fMulFix rm ra xm ym xa ya
  | .fmulAlu .avg rm ra xm ym xa ya => .fMulAvg rm ra xm ym xa ya
  | .fmulAbs rm ra xm ym xa => .fMulAbs rm ra xm ym xa
  | .fmulAlu .max rm ra xm ym xa ya => .fMulMax rm ra xm ym xa ya
  | .fmulAlu .min rm ra xm ym xa ya => .fMulMin rm ra xm ym xa ya
  | .mulDualFix rs rm ra xm ym xa ya => .mulDual rs rm ra xm ym xa ya
  | .mulDualFlt rs rm ra xm ym xa ya => .fMulDual rs rm ra xm ym xa ya

/-- The instruction that is the shift immediate alone. -/
def ShiftImm.instr : ShiftImm → Instr
  | .by8 .lshift data rn rx => .lshiftImm data rn rx
  | .by8 .orLshift data rn rx => .orLshiftImm data rn rx
  | .by8 .ashift data rn rx => .ashiftImm data rn rx
  | .by8 .orAshift data rn rx => .orAshiftImm data rn rx
  | .by8 .rot data rn rx => .rotImm data rn rx
  | .by8 .bclr data rn rx => .bclrImm data rn rx
  | .by8 .bset data rn rx => .bsetImm data rn rx
  | .by8 .btgl data rn rx => .btglImm data rn rx
  | .btst8 data rx => .btstImm data rx
  | .field .fdep imm rn rx => .fdepImm imm rn rx
  | .field .orFdep imm rn rx => .orFdepImm imm rn rx
  | .field .fdepSe imm rn rx => .fdepSeImm imm rn rx
  | .field .orFdepSe imm rn rx => .orFdepSeImm imm rn rx
  | .field .fext imm rn rx => .fextImm imm rn rx
  | .field .fextSe imm rn rx => .fextSeImm imm rn rx
  | .bitdep12 imm rx => .bitdepImm imm rx
  | .bitext12 false imm rn => .bitextImm imm rn
  | .bitext12 true imm rn => .bitextNuImm imm rn
  | .bffwrp7 data => .bffwrpImm data

/-- A type 2a word: an unconditional compute is the compute's own row. -/
def instr2a (cond : Cond) (c : Compute) : Instr :=
  if cond = .always then c.instr else .compute2a cond c

/-- A type 6a word without a move. -/
def instr6a (cond : Cond) (sh : ShiftImm) : Instr :=
  if cond = .always then sh.instr else .shift6a cond sh

/-- A type 20a word: one bit alone is that stack operation's row. -/
def instr20a (lpu lpo spu spo ppu ppo fc : Bool) : Instr :=
  match lpu, lpo, spu, spo, ppu, ppo, fc with
  | true, false, false, false, false, false, false => .pushLoop20a
  | false, true, false, false, false, false, false => .popLoop20a
  | false, false, true, false, false, false, false => .pushSts20a
  | false, false, false, true, false, false, false => .popSts20a
  | false, false, false, false, true, false, false => .pushPcstk20a
  | false, false, false, false, false, true, false => .popPcstk20a
  | false, false, false, false, false, false, true => .flushCache20a
  | lpu, lpo, spu, spo, ppu, ppo, fc => .stackOps20a lpu lpo spu spo ppu ppo fc

/-! ## Layouts of the 48-bit forms, R260 to R282 -/

def layout1a : List Nat := [3, 1, 3, 3, 1, 4, 3, 3, 4, 23]
def layout2a : List Nat := [8, 2, 5, 10, 23]
def layout3a : List Nat := [3, 1, 3, 3, 5, 1, 1, 1, 7, 23]
def layout4a : List Nat := [4, 3, 1, 1, 1, 5, 6, 4, 23]
def layout5aMove : List Nat := [5, 5, 5, 2, 1, 7, 23]
def layout5aSwap : List Nat := [5, 1, 4, 5, 6, 4, 23]
def layout6aMem : List Nat := [4, 3, 3, 5, 1, 1, 4, 4, 23]
def layout6a : List Nat := [8, 2, 5, 2, 4, 4, 23]
def layout7a : List Nat := [8, 1, 1, 5, 3, 3, 3, 1, 23]
def layout8a : List Nat := [8, 1, 1, 5, 6, 1, 1, 1, 24]
def layout9aInd : List Nat := [8, 1, 1, 5, 3, 3, 1, 1, 1, 1, 23]
def layout9aRel : List Nat := [8, 1, 1, 5, 6, 1, 1, 1, 1, 23]
def layout10aInd : List Nat := [3, 1, 3, 3, 5, 3, 3, 4, 23]
def layout10aRel : List Nat := [3, 1, 3, 3, 5, 6, 4, 23]
def layout11a : List Nat := [8, 2, 5, 6, 1, 1, 1, 1, 23]
def layout12aImm : List Nat := [8, 16, 24]
def layout12aUreg : List Nat := [8, 1, 7, 8, 24]
def layout13a : List Nat := [8, 2, 5, 9, 24]
def layout14a : List Nat := [6, 1, 1, 1, 7, 32]
def layout15a : List Nat := [3, 1, 3, 1, 1, 7, 32]
def layout16a : List Nat := [4, 3, 3, 1, 5, 32]
def layout17a : List Nat := [8, 1, 7, 32]
def layout18a : List Nat := [8, 3, 1, 4, 32]
def layout19a : List Nat := [8, 1, 1, 3, 3, 32]
def layout20a : List Nat := [8, 1, 1, 1, 1, 1, 1, 1, 33]
def layout25a : List Nat := [24, 24]

def decode1a (x : Nat) : Option Instr :=
  match unpack layout1a x with
  | [_, dmd, dmi, dmm, pmd, dmdreg, pmi, pmm, pmdreg, c] =>
    (decodeCompute c).map fun c =>
      .dualMove1a (flag dmd) (bv dmi) (bv dmm) (flag pmd) (bv dmdreg) (bv pmi) (bv pmm) (bv pmdreg) c
  | _ => none

def decode2a (x : Nat) : Option Instr :=
  match unpack layout2a x with
  | [_, 0, cond, 0, c] => (decodeCompute c).map (instr2a (.ofCode cond))
  | _ => none

def decode3a (x : Nat) : Option Instr :=
  match unpack layout3a x with
  | [_, u, i, m, cond, g, d, l, ureg, c] =>
    (UReg.ofCode ureg).bind fun ureg => (decodeCompute c).map fun c =>
      .memUreg3a (flag u) (bv i) (bv m) (.ofCode cond) (flag g) (flag d) (flag l) ureg c
  | _ => none

def decode4a (x : Nat) : Option Instr :=
  match unpack layout4a x with
  | [_, i, g, d, u, cond, data, dreg, c] =>
    (decodeCompute c).map fun c =>
      .memDreg4a (bv i) (flag g) (flag d) (flag u) (.ofCode cond) (bv data) (bv dreg) c
  | _ => none

def decode5aMove (x : Nat) : Option Instr :=
  match unpack layout5aMove x with
  | [_, hi, cond, su, 0, dst, c] =>
    (UReg.ofCode (hi * 4 + su)).bind fun src => (UReg.ofCode dst).bind fun dst => (decodeCompute c).map fun c =>
      .move5a src (.ofCode cond) dst c
  | _ => none

def decode5aSwap (x : Nat) : Option Instr :=
  match unpack layout5aSwap x with
  | [_, 0, cdreg, cond, 0, dreg, c] =>
    (decodeCompute c).map fun c => .swap5a (bv cdreg) (.ofCode cond) (bv dreg) c
  | _ => none

def decode6aMem (x : Nat) : Option Instr :=
  match unpack layout6aMem x with
  | [_, i, m, cond, g, d, ex, dreg, sh] =>
    (decodeShiftImm ex sh).map fun sh =>
      .shiftMem6a (bv i) (bv m) (.ofCode cond) (flag g) (flag d) (bv dreg) sh
  | _ => none

def decode6a (x : Nat) : Option Instr :=
  match unpack layout6a x with
  | [_, 0, cond, 0, ex, 0, sh] => (decodeShiftImm ex sh).map (instr6a (.ofCode cond))
  | _ => none

def decode7a (x : Nat) : Option Instr :=
  match unpack layout7a x with
  | [_, g, 0, cond, is, m, idx, 0, c] =>
    (decodeCompute c).map fun c => .modify7a (flag g) (.ofCode cond) (bv is) (bv m) (bv idx) c
  | _ => none

def decode8aDirect (x : Nat) : Option Instr :=
  match unpack layout8a x with
  | [_, 0, a, cond, 0, j, 0, ci, addr] => some (.jumpDirect8a (flag a) (.ofCode cond) (flag j) (flag ci) (bv addr))
  | [_, _, a, cond, 0, j, 0, ci, addr] => some (.callDirect8a (flag a) (.ofCode cond) (flag j) (flag ci) (bv addr))
  | _ => none

def decode8aRel (x : Nat) : Option Instr :=
  match unpack layout8a x with
  | [_, 0, a, cond, 0, j, 0, ci, rel] => some (.jumpRel8a (flag a) (.ofCode cond) (flag j) (flag ci) (bv rel))
  | [_, _, a, cond, 0, j, 0, ci, rel] => some (.callRel8a (flag a) (.ofCode cond) (flag j) (flag ci) (bv rel))
  | _ => none

def decode9aInd (x : Nat) : Option Instr :=
  match unpack layout9aInd x with
  | [_, 0, a, cond, pmi, pmm, j, e, ci, 0, c] =>
    (decodeCompute c).map fun c =>
      .jumpInd9a (flag a) (.ofCode cond) (bv pmi) (bv pmm) (flag j) (flag e) (flag ci) c
  | [_, _, a, cond, pmi, pmm, j, e, ci, 0, c] =>
    (decodeCompute c).map fun c =>
      .callInd9a (flag a) (.ofCode cond) (bv pmi) (bv pmm) (flag j) (flag e) (flag ci) c
  | _ => none

def decode9aRel (x : Nat) : Option Instr :=
  match unpack layout9aRel x with
  | [_, 0, a, cond, rel, j, e, ci, 0, c] =>
    (decodeCompute c).map fun c => .jumpRel9a (flag a) (.ofCode cond) (bv rel) (flag j) (flag e) (flag ci) c
  | [_, _, a, cond, rel, j, e, ci, 0, c] =>
    (decodeCompute c).map fun c => .callRel9a (flag a) (.ofCode cond) (bv rel) (flag j) (flag e) (flag ci) c
  | _ => none

def decode10aInd (x : Nat) : Option Instr :=
  match unpack layout10aInd x with
  | [_, d, dmi, dmm, cond, pmi, pmm, dreg, c] =>
    (decodeCompute c).map fun c =>
      .jumpInd10a (flag d) (bv dmi) (bv dmm) (.ofCode cond) (bv pmi) (bv pmm) (bv dreg) c
  | _ => none

def decode10aRel (x : Nat) : Option Instr :=
  match unpack layout10aRel x with
  | [_, d, dmi, dmm, cond, rel, dreg, c] =>
    (decodeCompute c).map fun c => .jumpRel10a (flag d) (bv dmi) (bv dmm) (.ofCode cond) (bv rel) (bv dreg) c
  | _ => none

def decode11aRts (x : Nat) : Option Instr :=
  match unpack layout11a x with
  | [_, 0, cond, 0, j, e, lr, 0, c] =>
    (decodeCompute c).map fun c => .rts11a (.ofCode cond) (flag j) (flag e) (flag lr) c
  | _ => none

def decode11aRti (x : Nat) : Option Instr :=
  match unpack layout11a x with
  | [_, 0, cond, 0, j, e, 0, 0, c] => (decodeCompute c).map fun c => .rti11a (.ofCode cond) (flag j) (flag e) c
  | _ => none

def decode12aImm (x : Nat) : Option Instr :=
  match unpack layout12aImm x with
  | [_, data, rel] => some (.doImm12a (bv data) (bv rel))
  | _ => none

def decode12aUreg (x : Nat) : Option Instr :=
  match unpack layout12aUreg x with
  | [_, 0, ureg, 0, rel] => (UReg.ofCode ureg).map fun ureg => .doUreg12a ureg (bv rel)
  | _ => none

def decode13a (x : Nat) : Option Instr :=
  match unpack layout13a x with
  | [_, 0, term, 0, rel] => some (.doUntil13a (.ofCode term) (bv rel))
  | _ => none

def decode14a (x : Nat) : Option Instr :=
  match unpack layout14a x with
  | [_, g, d, l, ureg, addr] =>
    (UReg.ofCode ureg).map fun ureg => .memDirect14a (flag g) (flag d) (flag l) ureg (bv addr)
  | _ => none

def decode15a (x : Nat) : Option Instr :=
  match unpack layout15a x with
  | [_, g, i, d, l, ureg, data] =>
    (UReg.ofCode ureg).map fun ureg => .memOffset15a (flag g) (bv i) (flag d) (flag l) ureg (bv data)
  | _ => none

def decode16a (x : Nat) : Option Instr :=
  match unpack layout16a x with
  | [_, i, m, g, 0, data] => some (.storeImm16a (bv i) (bv m) (flag g) (bv data))
  | _ => none

def decode17a (x : Nat) : Option Instr :=
  match unpack layout17a x with
  | [_, 0, ureg, data] => (UReg.ofCode ureg).map fun ureg => .loadImm17a ureg (bv data)
  | _ => none

def decode18a (x : Nat) : Option Instr :=
  match unpack layout18a x with
  | [_, 0, 0, sreg, data] => some (.bitSet18a (.ofCode sreg) (bv data))
  | [_, 1, 0, sreg, data] => some (.bitClr18a (.ofCode sreg) (bv data))
  | [_, 2, 0, sreg, data] => some (.bitTgl18a (.ofCode sreg) (bv data))
  | [_, 4, 0, sreg, data] => some (.bitTst18a (.ofCode sreg) (bv data))
  | [_, 5, 0, sreg, data] => some (.bitXor18a (.ofCode sreg) (bv data))
  | _ => none

def decode19a (x : Nat) : Option Instr :=
  match unpack layout19a x with
  | [_, 0, g, idx, is, data] => some (.modifyImm19a (flag g) (bv idx) (bv is) (bv data))
  | [_, _, g, idx, is, data] => some (.bitrev19a (flag g) (bv idx) (bv is) (bv data))
  | _ => none

def decode20a (x : Nat) : Option Instr :=
  match unpack layout20a x with
  | [_, lpu, lpo, spu, spo, ppu, ppo, fc, 0] =>
    some (instr20a (flag lpu) (flag lpo) (flag spu) (flag spo) (flag ppu) (flag ppo) (flag fc))
  | _ => none

/-- NOP, IDLE and EMUIDLE (R280, R281). -/
def decode21a (x : Nat) : Option Instr :=
  if x = 0 then some .nop21a
  else if x = 0x008000000000 then some .idle22a
  else if x = 0x00C000000000 then some .emuidle22a
  else none

/-- CJUMP (R282). -/
def decode25a (x : Nat) : Option Instr :=
  match unpack layout25a x with
  | [0x180400, addr] => some (.cjumpDirect25a (bv addr))
  | [0x184400, rel] => some (.cjumpRel25a (bv rel))
  | _ => none

/-- Words whose three high bits are 000, by bits 44 to 40 (R256). -/
def decodeGroup0 (x : Nat) : Option Instr :=
  match x / 2 ^ 40 % 32 with
  | 0 => decode21a x
  | 1 => decode2a x
  | 2 => decode6a x
  | 4 => decode7a x
  | 6 => decode8aDirect x
  | 7 => decode8aRel x
  | 8 => decode9aInd x
  | 9 => decode9aRel x
  | 10 => decode11aRts x
  | 11 => decode11aRti x
  | 12 => decode12aImm x
  | 13 => decode12aUreg x
  | 14 => decode13a x
  | 15 => decode17a x
  | 16 => decode14a x
  | 17 => decode14a x
  | 18 => decode14a x
  | 19 => decode14a x
  | 20 => decode18a x
  | 22 => decode19a x
  | 23 => decode20a x
  | 24 => decode25a x
  | 25 => if x = 0x190000000000 then some .rframe25a else none
  | _ => none

/-- The instruction of a 48-bit word (R256). -/
def decodeWord48 (x : Nat) : Option Instr :=
  match x / 2 ^ 45 with
  | 0 => decodeGroup0 x
  | 1 => decode1a x
  | 2 => decode3a x
  | 3 => if x / 2 ^ 44 % 2 = 0 then decode4a x else if x / 2 ^ 43 % 2 = 0 then decode5aMove x else decode5aSwap x
  | 4 => if x / 2 ^ 44 % 2 = 0 then decode6aMem x else decode16a x
  | 5 => decode15a x
  | 6 => decode10aInd x
  | 7 => decode10aRel x
  | _ => none

/-- The instruction of a 48-bit ISA word. -/
def decode48 (w : BitVec 48) : Option Instr := decodeWord48 w.toNat

/-- The instruction of a 48-bit VISA form: type 10 does not exist there (R269). -/
def decode48Visa (w : BitVec 48) : Option Instr :=
  if w.toNat / 2 ^ 46 = 3 then none else decode48 w

/-! ## The 32-bit and 16-bit forms, R285 to R287 and, where the layout is lost, log 13 -/

def layout1b : List Nat := [3, 1, 3, 3, 1, 4, 3, 3, 4, 7]
def layout2b : List Nat := [9, 23]
def layout3b : List Nat := [3, 1, 3, 3, 5, 1, 1, 1, 7, 7]
def layout4b : List Nat := [4, 3, 1, 1, 1, 5, 6, 4, 7]
def layout5bMove : List Nat := [5, 5, 5, 2, 1, 7, 7]
def layout5bSwap : List Nat := [5, 1, 4, 5, 6, 4, 7]
def layout7b : List Nat := [8, 1, 1, 5, 3, 3, 3, 1, 7]
def layout9bInd : List Nat := [8, 1, 1, 5, 3, 3, 1, 1, 1, 1, 7]
def layout9bRel : List Nat := [8, 1, 1, 5, 6, 1, 1, 1, 1, 7]
/-- 1001, I, D, L, 0, G, 010, 0000, UREG, DATA (log 13). -/
def layout15b : List Nat := [4, 3, 1, 1, 1, 1, 3, 4, 7, 7]
/-- 1001, I, M, G, 001, 00, DATA (log 13). -/
def layout16b : List Nat := [4, 3, 3, 1, 3, 2, 16]
def layout17b : List Nat := [9, 7, 16]
def layout2c : List Nat := [4, 4, 4, 4]
/-- 1001, I, M, D, 1, DREG (log 13). -/
def layout3c : List Nat := [4, 3, 3, 1, 1, 4]
/-- 0000101x, J, LR, COND, 1 (log 13). -/
def layout11c : List Nat := [8, 1, 1, 5, 1]

/-- Words 000 xxxxx of 32 bits. -/
def decodeGroup0Short (x : Nat) : Option Instr :=
  match x / 2 ^ 24 % 32 with
  | 1 =>
    match unpack layout2b x with
    | [3, c] => (decodeCompute c).map .compute2b
    | _ => none
  | 4 =>
    match unpack layout7b x with
    | [_, g, 0, cond, is, m, idx, 0, 63] => some (.modify7b (flag g) (.ofCode cond) (bv is) (bv m) (bv idx))
    | _ => none
  | 8 =>
    match unpack layout9bInd x with
    | [_, 0, a, cond, pmi, pmm, j, 0, ci, 0, 63] =>
      some (.jumpInd9b (flag a) (.ofCode cond) (bv pmi) (bv pmm) (flag j) (flag ci))
    | [_, _, a, cond, pmi, pmm, j, 0, ci, 0, 63] =>
      some (.callInd9b (flag a) (.ofCode cond) (bv pmi) (bv pmm) (flag j) (flag ci))
    | _ => none
  | 9 =>
    match unpack layout9bRel x with
    | [_, 0, a, cond, rel, j, 0, ci, 0, 63] => some (.jumpRel9b (flag a) (.ofCode cond) (bv rel) (flag j) (flag ci))
    | [_, _, a, cond, rel, j, 0, ci, 0, 63] => some (.callRel9b (flag a) (.ofCode cond) (bv rel) (flag j) (flag ci))
    | _ => none
  | 15 =>
    match unpack layout17b x with
    | [31, ureg, data] => (UReg.ofCode ureg).map fun ureg => .loadImm17b ureg (bv data)
    | _ => none
  | _ => none

def decode5b (x : Nat) : Option Instr :=
  if x / 2 ^ 27 % 2 = 0 then
    match unpack layout5bMove x with
    | [_, hi, cond, su, 0, dst, 63] =>
      (UReg.ofCode (hi * 4 + su)).bind fun src => (UReg.ofCode dst).map fun dst => .move5b src (.ofCode cond) dst
    | _ => none
  else
    match unpack layout5bSwap x with
    | [_, 0, cdreg, cond, 0, dreg, 63] => some (.swap5b (bv cdreg) (.ofCode cond) (bv dreg))
    | _ => none

/-- Types 15b and 16b (log 13). -/
def decode1001Short (x : Nat) : Option Instr :=
  match unpack layout15b x with
  | [9, i, d, l, 0, g, 2, 0, ureg, data] =>
    (UReg.ofCode ureg).map fun ureg => .memOffset15b (bv i) (flag d) (flag l) (flag g) ureg (bv data)
  | _ =>
    match unpack layout16b x with
    | [9, i, m, g, 1, 0, data] => some (.storeImm16b (bv i) (bv m) (flag g) (bv data))
    | _ => none

def decodeWord32 (x : Nat) : Option Instr :=
  match x / 2 ^ 29 with
  | 0 => decodeGroup0Short x
  | 1 =>
    match unpack layout1b x with
    | [_, dmd, dmi, dmm, pmd, dmdreg, pmi, pmm, pmdreg, 63] =>
      some (.dualMove1b (flag dmd) (bv dmi) (bv dmm) (flag pmd) (bv dmdreg) (bv pmi) (bv pmm) (bv pmdreg))
    | _ => none
  | 2 =>
    match unpack layout3b x with
    | [_, u, i, m, cond, g, d, l, ureg, 63] =>
      (UReg.ofCode ureg).map fun ureg =>
        .memUreg3b (flag u) (bv i) (bv m) (.ofCode cond) (flag g) (flag d) (flag l) ureg
    | _ => none
  | 3 =>
    if x / 2 ^ 28 % 2 = 0 then
      match unpack layout4b x with
      | [_, i, g, d, u, cond, data, dreg, 63] =>
        some (.memDreg4b (bv i) (flag g) (flag d) (flag u) (.ofCode cond) (bv data) (bv dreg))
      | _ => none
    else decode5b x
  | 4 => decode1001Short x
  | _ => none

/-- The instruction of a 32-bit VISA word. -/
def decode32 (w : BitVec 32) : Option Instr := decodeWord32 w.toNat

/-- The short computes of R287. -/
def decode2c (op : Nat) (n x : RegNum) : Instr :=
  match op with
  | 0 => .shortAdd2c n x | 1 => .shortSub2c n x | 2 => .shortPass2c n x | 3 => .shortComp2c n x
  | 4 => .shortNot2c n x | 5 => .shortInc2c n x | 6 => .shortDec2c n x | 7 => .shortMul2c n x
  | 8 => .shortFAdd2c n x | 9 => .shortFSub2c n x | 10 => .shortFloat2c n x | 11 => .shortFComp2c n x
  | 12 => .shortAnd2c n x | 13 => .shortOr2c n x | 14 => .shortXor2c n x | _ => .shortFMul2c n x

def decodeWord16 (x : Nat) : Option Instr :=
  match x / 2 ^ 12 with
  | 0 =>
    match unpack layout11c x with
    | [10, j, lr, cond, 1] => some (.rts11c (.ofCode cond) (flag j) (flag lr))
    | [11, j, 0, cond, 1] => some (.rti11c (.ofCode cond) (flag j))
    | _ =>
      if x = 0 then some .nop21c
      else if x = 0x0081 then some (.idle22c false)
      else if x = 0x00C1 then some (.idle22c true)
      else none
  | 1 => if x = 0x1901 then some .rframe25c else none
  | 9 =>
    match unpack layout3c x with
    | [_, i, m, d, 1, dreg] => some (.memDreg3c (bv i) (bv m) (flag d) (bv dreg))
    | _ => none
  | 12 =>
    match unpack layout2c x with
    | [_, op, n, rx] => some (decode2c op (bv n) (bv rx))
    | _ => none
  | _ => none

/-- The instruction of a 16-bit VISA word. -/
def decode16 (w : BitVec 16) : Option Instr := decodeWord16 w.toNat

/-- The VISA instruction that begins with three short words, and its length in short words (log 14). -/
def decodeVisa (w0 w1 w2 : BitVec 16) : Option (Instr × Nat) :=
  match decode16 w0 with
  | some i => some (i, 1)
  | none =>
    match decode32 (w0 ++ w1) with
    | some i => some (i, 2)
    | none => (decode48Visa (w0 ++ w1 ++ w2)).map fun i => (i, 3)

/-! ## The host's decoder -/

/-- The instruction read from `nbits` bits of a row of `spec/opcode_table.json`. A 24-bit word is the content of a
compute or shift-immediate row: it is read as the content of an unconditional type 2a word and, where that is not an
operation, of an unconditional type 6a word without a move (log 18). -/
def decodeTableWord (nbits w : Nat) : Option Instr :=
  match nbits with
  | 48 => decode48 (.ofNat 48 w)
  | 32 => (decodeVisa (.ofNat 16 (w / 2 ^ 16)) (.ofNat 16 w) 0).map (·.1)
  | 16 => (decodeVisa (.ofNat 16 w) 0 0).map (·.1)
  | 24 =>
    match (if w = 0 then none else decode48 (.ofNat 48 (0x013E00000000 + w))) with
    | some i => some i
    | none => decode48 (.ofNat 48 (0x023E00000000 + w))
  | _ => none

/-! ## The encoder -/

/-- The words of an instruction: one 48-bit word, or one of the shorter VISA forms. -/
inductive Code
  | w48 (w : BitVec 48)
  | w32 (w : BitVec 32)
  | w16 (w : BitVec 16)
deriving DecidableEq, Repr

/-- The instruction of the words of an instruction. -/
def decode : Code → Option Instr
  | .w48 w => decode48 w
  | .w32 w => decode32 w
  | .w16 w => decode16 w

/-- A multiplier compute field (R310, R314); `kd` is the class and the destination. -/
def packMul (kd : Nat × Nat) (y x f r n rx ry : Nat) : Nat :=
  pack mulLayout [1, kd.1, y, x, f, kd.2, r, n, rx, ry]

/-- The 23-bit compute field (R310 to R321); an operand field that the operation does not use is 0. -/
def Compute.encode : Compute → Nat
  | .none => 0
  | .fix2 op n x y => pack computeLayout [0, op.code, n.toNat, x.toNat, y.toNat]
  | .fix1 op n x => pack computeLayout [0, op.code, n.toNat, x.toNat, 0]
  | .fixCmp u x y => pack computeLayout [0, 0x0A + u.toNat, 0, x.toNat, y.toNat]
  | .flt2 op n x y => pack computeLayout [0, op.code, n.toNat, x.toNat, y.toNat]
  | .flt1 op n x => pack computeLayout [0, op.code, n.toNat, x.toNat, 0]
  | .fltCmp x y => pack computeLayout [0, 0x8A, 0, x.toNat, y.toNat]
  | .mulReg op md n x y =>
    packMul op.bits md.bits.1 md.bits.2.1 md.bits.2.2.1 md.bits.2.2.2 n.toNat x.toNat y.toNat
  | .mulAcc op md x y => packMul op.bits md.bits.1 md.bits.2.1 md.bits.2.2.1 md.bits.2.2.2 0 x.toNat y.toNat
  | .satReg bg fmt n => packMul (0, bg.toNat) 0 0 fmt.bits.1 fmt.bits.2 n.toNat 0 0
  | .satAcc bg fmt => packMul (0, 2 + bg.toNat) 0 0 fmt.bits.1 fmt.bits.2 0 0 0
  | .rndReg bg sgn n => packMul (0, bg.toNat) 0 1 1 sgn.toNat n.toNat 0 0
  | .rndAcc bg sgn => packMul (0, 2 + bg.toNat) 0 1 1 sgn.toNat 0 0 0
  | .clrAcc bg => packMul (0, 2 + bg.toNat) 0 1 0 0 0 0 0
  | .fmul n x y => packMul (0, 0) 1 1 0 0 n.toNat x.toNat y.toNat
  | .mrGet sel n => pack mrLayout [32, 0, sel.code, n.toNat, 0]
  | .mrSet sel n => pack mrLayout [32, 1, sel.code, n.toNat, 0]
  | .shf op n x y => pack computeLayout [2, op.code, n.toNat, x.toNat, y.toNat]
  | .fld op n x y => pack computeLayout [2, op.code, n.toNat, x.toNat, y.toNat]
  | .btst x y => pack computeLayout [2, 0xCC, 0, x.toNat, y.toNat]
  | .shf1 op n x => pack computeLayout [2, op.code, n.toNat, x.toNat, 0]
  | .bitdep x y => pack computeLayout [2, 0x74, 0, x.toNat, y.toNat]
  | .bitext nu n x => pack computeLayout [2, if nu then 0x58 else 0x50, n.toNat, x.toNat, 0]
  | .bffwrpSet n => pack computeLayout [2, 0x7C, n.toNat, 0, 0]
  | .bffwrpGet n => pack computeLayout [2, 0x70, n.toNat, 0, 0]
  | .dualFix ra rs x y => pack dualLayout [7, ra.toNat, rs.toNat, x.toNat, y.toNat]
  | .dualFlt ra rs x y => pack dualLayout [15, ra.toNat, rs.toNat, x.toNat, y.toNat]
  | .mulAluReg op al rm ra xm ym xa ya =>
    pack parLayout [1, op.code + al.code, rm.toNat, ra.toNat, xm.toNat, ym.toNat, xa.toNat, ya.toNat]
  | .mulAluAcc sub al ra xm ym xa ya =>
    pack parLayout [1, (if sub then 16 else 8) + al.code, 0, ra.toNat, xm.toNat, ym.toNat, xa.toNat, ya.toNat]
  | .fmulAlu al rm ra xm ym xa ya =>
    pack parLayout [1, al.code, rm.toNat, ra.toNat, xm.toNat, ym.toNat, xa.toNat, ya.toNat]
  | .fmulAbs rm ra xm ym xa => pack parLayout [1, 29, rm.toNat, ra.toNat, xm.toNat, ym.toNat, xa.toNat, 0]
  | .mulDualFix rs rm ra xm ym xa ya =>
    pack mulDualLayout [6, rs.toNat, rm.toNat, ra.toNat, xm.toNat, ym.toNat, xa.toNat, ya.toNat]
  | .mulDualFlt rs rm ra xm ym xa ya =>
    pack mulDualLayout [7, rs.toNat, rm.toNat, ra.toNat, xm.toNat, ym.toNat, xa.toNat, ya.toNat]

/-- The DATAEX field of a shift immediate (R265). -/
def ShiftImm.dataex : ShiftImm → Nat
  | .field _ imm _ _ => imm.toNat / 256
  | .bitdep12 imm _ => imm.toNat / 256
  | .bitext12 _ imm _ => imm.toNat / 256
  | _ => 0

/-- The low 23 bits of a type 6a word (R318). -/
def ShiftImm.encode : ShiftImm → Nat
  | .by8 op data n x => pack shiftImmLayout [0, op.code / 4, data.toNat, n.toNat, x.toNat]
  | .btst8 data x => pack shiftImmLayout [0, 0x33, data.toNat, 0, x.toNat]
  | .field op imm n x => pack shiftImmLayout [0, op.code / 4, imm.toNat % 256, n.toNat, x.toNat]
  | .bitdep12 imm x => pack shiftImmLayout [0, 0x1D, imm.toNat % 256, 0, x.toNat]
  | .bitext12 nu imm n => pack shiftImmLayout [0, if nu then 0x16 else 0x14, imm.toNat % 256, n.toNat, 0]
  | .bffwrp7 data => pack shiftImmLayout [0, 0x1F, data.toNat, 0, 0]

/-- A type 2a word. -/
def pack2a (cond : Cond) (c : Compute) : BitVec 48 := bv (pack layout2a [1, 0, cond.code, 0, c.encode])

/-- A type 6a word without a move. -/
def pack6a (cond : Cond) (sh : ShiftImm) : BitVec 48 :=
  bv (pack layout6a [2, 0, cond.code, 0, sh.dataex, 0, sh.encode])

/-- A type 20a word. -/
def pack20a (lpu lpo spu spo ppu ppo fc : Bool) : BitVec 48 :=
  bv (pack layout20a [23, lpu.toNat, lpo.toNat, spu.toNat, spo.toNat, ppu.toNat, ppo.toNat, fc.toNat, 0])

/-- The words of a well-formed instruction. -/
def encode : Instr → Code
  | .dualMove1a dmd dmi dmm pmd dmdreg pmi pmm pmdreg c =>
    .w48 (bv (pack layout1a
      [1, dmd.toNat, dmi.toNat, dmm.toNat, pmd.toNat, dmdreg.toNat, pmi.toNat, pmm.toNat, pmdreg.toNat, c.encode]))
  | .compute2a cond c => .w48 (pack2a cond c)
  | .memUreg3a u i m cond g d l ureg c =>
    .w48 (bv (pack layout3a
      [2, u.toNat, i.toNat, m.toNat, cond.code, g.toNat, d.toNat, l.toNat, ureg.code, c.encode]))
  | .memDreg4a i g d u cond data dreg c =>
    .w48 (bv (pack layout4a
      [6, i.toNat, g.toNat, d.toNat, u.toNat, cond.code, data.toNat, dreg.toNat, c.encode]))
  | .move5a src cond dst c =>
    .w48 (bv (pack layout5aMove
      [14, src.code / 4, cond.code, src.code % 4, 0, dst.code, c.encode]))
  | .swap5a cdreg cond dreg c =>
    .w48 (bv (pack layout5aSwap
      [15, 0, cdreg.toNat, cond.code, 0, dreg.toNat, c.encode]))
  | .shiftMem6a i m cond g d dreg sh =>
    .w48 (bv (pack layout6aMem
      [8, i.toNat, m.toNat, cond.code, g.toNat, d.toNat, sh.dataex, dreg.toNat, sh.encode]))
  | .shift6a cond sh => .w48 (pack6a cond sh)
  | .modify7a g cond is m idx c =>
    .w48 (bv (pack layout7a
      [4, g.toNat, 0, cond.code, is.toNat, m.toNat, idx.toNat, 0, c.encode]))
  | .jumpDirect8a a cond j ci addr =>
    .w48 (bv (pack layout8a
      [6, 0, a.toNat, cond.code, 0, j.toNat, 0, ci.toNat, addr.toNat]))
  | .jumpRel8a a cond j ci rel =>
    .w48 (bv (pack layout8a
      [7, 0, a.toNat, cond.code, 0, j.toNat, 0, ci.toNat, rel.toNat]))
  | .callDirect8a a cond j ci addr =>
    .w48 (bv (pack layout8a
      [6, 1, a.toNat, cond.code, 0, j.toNat, 0, ci.toNat, addr.toNat]))
  | .callRel8a a cond j ci rel =>
    .w48 (bv (pack layout8a
      [7, 1, a.toNat, cond.code, 0, j.toNat, 0, ci.toNat, rel.toNat]))
  | .jumpInd9a a cond pmi pmm j e ci c =>
    .w48 (bv (pack layout9aInd
      [8, 0, a.toNat, cond.code, pmi.toNat, pmm.toNat, j.toNat, e.toNat, ci.toNat, 0, c.encode]))
  | .jumpRel9a a cond rel j e ci c =>
    .w48 (bv (pack layout9aRel
      [9, 0, a.toNat, cond.code, rel.toNat, j.toNat, e.toNat, ci.toNat, 0, c.encode]))
  | .callInd9a a cond pmi pmm j e ci c =>
    .w48 (bv (pack layout9aInd
      [8, 1, a.toNat, cond.code, pmi.toNat, pmm.toNat, j.toNat, e.toNat, ci.toNat, 0, c.encode]))
  | .callRel9a a cond rel j e ci c =>
    .w48 (bv (pack layout9aRel
      [9, 1, a.toNat, cond.code, rel.toNat, j.toNat, e.toNat, ci.toNat, 0, c.encode]))
  | .jumpInd10a d dmi dmm cond pmi pmm dreg c =>
    .w48 (bv (pack layout10aInd
      [6, d.toNat, dmi.toNat, dmm.toNat, cond.code, pmi.toNat, pmm.toNat, dreg.toNat, c.encode]))
  | .jumpRel10a d dmi dmm cond rel dreg c =>
    .w48 (bv (pack layout10aRel
      [7, d.toNat, dmi.toNat, dmm.toNat, cond.code, rel.toNat, dreg.toNat, c.encode]))
  | .rts11a cond j e lr c => .w48 (bv (pack layout11a [10, 0, cond.code, 0, j.toNat, e.toNat, lr.toNat, 0, c.encode]))
  | .rti11a cond j e c => .w48 (bv (pack layout11a [11, 0, cond.code, 0, j.toNat, e.toNat, 0, 0, c.encode]))
  | .doImm12a data rel => .w48 (bv (pack layout12aImm [12, data.toNat, rel.toNat]))
  | .doUreg12a ureg rel => .w48 (bv (pack layout12aUreg [13, 0, ureg.code, 0, rel.toNat]))
  | .doUntil13a term rel => .w48 (bv (pack layout13a [14, 0, term.code, 0, rel.toNat]))
  | .memDirect14a g d l ureg addr => .w48 (bv (pack layout14a [4, g.toNat, d.toNat, l.toNat, ureg.code, addr.toNat]))
  | .memOffset15a g i d l ureg data =>
    .w48 (bv (pack layout15a
      [5, g.toNat, i.toNat, d.toNat, l.toNat, ureg.code, data.toNat]))
  | .storeImm16a i m g data => .w48 (bv (pack layout16a [9, i.toNat, m.toNat, g.toNat, 0, data.toNat]))
  | .loadImm17a ureg data => .w48 (bv (pack layout17a [15, 0, ureg.code, data.toNat]))
  | .bitSet18a sreg data => .w48 (bv (pack layout18a [20, 0, 0, sreg.code, data.toNat]))
  | .bitClr18a sreg data => .w48 (bv (pack layout18a [20, 1, 0, sreg.code, data.toNat]))
  | .bitTgl18a sreg data => .w48 (bv (pack layout18a [20, 2, 0, sreg.code, data.toNat]))
  | .bitTst18a sreg data => .w48 (bv (pack layout18a [20, 4, 0, sreg.code, data.toNat]))
  | .bitXor18a sreg data => .w48 (bv (pack layout18a [20, 5, 0, sreg.code, data.toNat]))
  | .modifyImm19a g idx is data => .w48 (bv (pack layout19a [22, 0, g.toNat, idx.toNat, is.toNat, data.toNat]))
  | .bitrev19a g idx is data => .w48 (bv (pack layout19a [22, 1, g.toNat, idx.toNat, is.toNat, data.toNat]))
  | .stackOps20a lpu lpo spu spo ppu ppo fc => .w48 (pack20a lpu lpo spu spo ppu ppo fc)
  | .pushLoop20a => .w48 (pack20a true false false false false false false)
  | .popLoop20a => .w48 (pack20a false true false false false false false)
  | .pushSts20a => .w48 (pack20a false false true false false false false)
  | .popSts20a => .w48 (pack20a false false false true false false false)
  | .pushPcstk20a => .w48 (pack20a false false false false true false false)
  | .popPcstk20a => .w48 (pack20a false false false false false true false)
  | .flushCache20a => .w48 (pack20a false false false false false false true)
  | .nop21a => .w48 0
  | .idle22a => .w48 0x008000000000
  | .emuidle22a => .w48 0x00C000000000
  | .cjumpDirect25a addr => .w48 (bv (pack layout25a [0x180400, addr.toNat]))
  | .cjumpRel25a rel => .w48 (bv (pack layout25a [0x184400, rel.toNat]))
  | .rframe25a => .w48 0x190000000000
  | .dualMove1b dmd dmi dmm pmd dmdreg pmi pmm pmdreg =>
    .w32 (bv (pack layout1b
      [1, dmd.toNat, dmi.toNat, dmm.toNat, pmd.toNat, dmdreg.toNat, pmi.toNat, pmm.toNat, pmdreg.toNat, 63]))
  | .compute2b c => .w32 (bv (pack layout2b [3, c.encode]))
  | .memUreg3b u i m cond g d l ureg =>
    .w32 (bv (pack layout3b
      [2, u.toNat, i.toNat, m.toNat, cond.code, g.toNat, d.toNat, l.toNat, ureg.code, 63]))
  | .memDreg4b i g d u cond data dreg =>
    .w32 (bv (pack layout4b
      [6, i.toNat, g.toNat, d.toNat, u.toNat, cond.code, data.toNat, dreg.toNat, 63]))
  | .move5b src cond dst => .w32 (bv (pack layout5bMove [14, src.code / 4, cond.code, src.code % 4, 0, dst.code, 63]))
  | .swap5b cdreg cond dreg => .w32 (bv (pack layout5bSwap [15, 0, cdreg.toNat, cond.code, 0, dreg.toNat, 63]))
  | .modify7b g cond is m idx =>
    .w32 (bv (pack layout7b
      [4, g.toNat, 0, cond.code, is.toNat, m.toNat, idx.toNat, 0, 63]))
  | .jumpInd9b a cond pmi pmm j ci =>
    .w32 (bv (pack layout9bInd
      [8, 0, a.toNat, cond.code, pmi.toNat, pmm.toNat, j.toNat, 0, ci.toNat, 0, 63]))
  | .jumpRel9b a cond rel j ci =>
    .w32 (bv (pack layout9bRel
      [9, 0, a.toNat, cond.code, rel.toNat, j.toNat, 0, ci.toNat, 0, 63]))
  | .callInd9b a cond pmi pmm j ci =>
    .w32 (bv (pack layout9bInd
      [8, 1, a.toNat, cond.code, pmi.toNat, pmm.toNat, j.toNat, 0, ci.toNat, 0, 63]))
  | .callRel9b a cond rel j ci =>
    .w32 (bv (pack layout9bRel
      [9, 1, a.toNat, cond.code, rel.toNat, j.toNat, 0, ci.toNat, 0, 63]))
  | .memOffset15b i d l g ureg data =>
    .w32 (bv (pack layout15b
      [9, i.toNat, d.toNat, l.toNat, 0, g.toNat, 2, 0, ureg.code, data.toNat]))
  | .storeImm16b i m g data => .w32 (bv (pack layout16b [9, i.toNat, m.toNat, g.toNat, 1, 0, data.toNat]))
  | .loadImm17b ureg data => .w32 (bv (pack layout17b [31, ureg.code, data.toNat]))
  | .shortAdd2c rn rx => .w16 (bv (pack layout2c [12, 0, rn.toNat, rx.toNat]))
  | .shortSub2c rn rx => .w16 (bv (pack layout2c [12, 1, rn.toNat, rx.toNat]))
  | .shortPass2c rn rx => .w16 (bv (pack layout2c [12, 2, rn.toNat, rx.toNat]))
  | .shortComp2c rn rx => .w16 (bv (pack layout2c [12, 3, rn.toNat, rx.toNat]))
  | .shortNot2c rn rx => .w16 (bv (pack layout2c [12, 4, rn.toNat, rx.toNat]))
  | .shortInc2c rn rx => .w16 (bv (pack layout2c [12, 5, rn.toNat, rx.toNat]))
  | .shortDec2c rn rx => .w16 (bv (pack layout2c [12, 6, rn.toNat, rx.toNat]))
  | .shortMul2c rn rx => .w16 (bv (pack layout2c [12, 7, rn.toNat, rx.toNat]))
  | .shortFAdd2c rn rx => .w16 (bv (pack layout2c [12, 8, rn.toNat, rx.toNat]))
  | .shortFSub2c rn rx => .w16 (bv (pack layout2c [12, 9, rn.toNat, rx.toNat]))
  | .shortFloat2c rn rx => .w16 (bv (pack layout2c [12, 10, rn.toNat, rx.toNat]))
  | .shortFComp2c rn rx => .w16 (bv (pack layout2c [12, 11, rn.toNat, rx.toNat]))
  | .shortAnd2c rn rx => .w16 (bv (pack layout2c [12, 12, rn.toNat, rx.toNat]))
  | .shortOr2c rn rx => .w16 (bv (pack layout2c [12, 13, rn.toNat, rx.toNat]))
  | .shortXor2c rn rx => .w16 (bv (pack layout2c [12, 14, rn.toNat, rx.toNat]))
  | .shortFMul2c rn rx => .w16 (bv (pack layout2c [12, 15, rn.toNat, rx.toNat]))
  | .memDreg3c i m d dreg => .w16 (bv (pack layout3c [9, i.toNat, m.toNat, d.toNat, 1, dreg.toNat]))
  | .rts11c cond j lr => .w16 (bv (pack layout11c [10, j.toNat, lr.toNat, cond.code, 1]))
  | .rti11c cond j => .w16 (bv (pack layout11c [11, j.toNat, 0, cond.code, 1]))
  | .nop21c => .w16 0
  | .idle22c emu => .w16 (if emu then 0x00C1 else 0x0081)
  | .rframe25c => .w16 0x1901
  | .aluAdd rn rx ry => .w48 (pack2a .always (.fix2 .add rn rx ry))
  | .aluSub rn rx ry => .w48 (pack2a .always (.fix2 .sub rn rx ry))
  | .aluAddCi rn rx ry => .w48 (pack2a .always (.fix2 .addCi rn rx ry))
  | .aluSubCi rn rx ry => .w48 (pack2a .always (.fix2 .subCi rn rx ry))
  | .aluAvg rn rx ry => .w48 (pack2a .always (.fix2 .avg rn rx ry))
  | .aluComp rx ry => .w48 (pack2a .always (.fixCmp false rx ry))
  | .aluCompu rx ry => .w48 (pack2a .always (.fixCmp true rx ry))
  | .aluIncCi rn rx => .w48 (pack2a .always (.fix1 .incCi rn rx))
  | .aluDecCi rn rx => .w48 (pack2a .always (.fix1 .decCi rn rx))
  | .aluInc rn rx => .w48 (pack2a .always (.fix1 .inc rn rx))
  | .aluDec rn rx => .w48 (pack2a .always (.fix1 .dec rn rx))
  | .aluNeg rn rx => .w48 (pack2a .always (.fix1 .neg rn rx))
  | .aluAbs rn rx => .w48 (pack2a .always (.fix1 .abs rn rx))
  | .aluPass rn rx => .w48 (pack2a .always (.fix1 .pass rn rx))
  | .aluAnd rn rx ry => .w48 (pack2a .always (.fix2 .and rn rx ry))
  | .aluOr rn rx ry => .w48 (pack2a .always (.fix2 .or rn rx ry))
  | .aluXor rn rx ry => .w48 (pack2a .always (.fix2 .xor rn rx ry))
  | .aluNot rn rx => .w48 (pack2a .always (.fix1 .not rn rx))
  | .aluMin rn rx ry => .w48 (pack2a .always (.fix2 .min rn rx ry))
  | .aluMax rn rx ry => .w48 (pack2a .always (.fix2 .max rn rx ry))
  | .aluClip rn rx ry => .w48 (pack2a .always (.fix2 .clip rn rx ry))
  | .fAdd rn rx ry => .w48 (pack2a .always (.flt2 .add rn rx ry))
  | .fSub rn rx ry => .w48 (pack2a .always (.flt2 .sub rn rx ry))
  | .fAbsAdd rn rx ry => .w48 (pack2a .always (.flt2 .absAdd rn rx ry))
  | .fAbsSub rn rx ry => .w48 (pack2a .always (.flt2 .absSub rn rx ry))
  | .fAvg rn rx ry => .w48 (pack2a .always (.flt2 .avg rn rx ry))
  | .fComp rx ry => .w48 (pack2a .always (.fltCmp rx ry))
  | .fNeg rn rx => .w48 (pack2a .always (.flt1 .neg rn rx))
  | .fAbs rn rx => .w48 (pack2a .always (.flt1 .abs rn rx))
  | .fPass rn rx => .w48 (pack2a .always (.flt1 .pass rn rx))
  | .fRnd rn rx => .w48 (pack2a .always (.flt1 .rnd rn rx))
  | .fScalb rn rx ry => .w48 (pack2a .always (.flt2 .scalb rn rx ry))
  | .fMant rn rx => .w48 (pack2a .always (.flt1 .mant rn rx))
  | .fLogb rn rx => .w48 (pack2a .always (.flt1 .logb rn rx))
  | .fFix rn rx => .w48 (pack2a .always (.flt1 .fix rn rx))
  | .fFixBy rn rx ry => .w48 (pack2a .always (.flt2 .fixBy rn rx ry))
  | .fTrunc rn rx => .w48 (pack2a .always (.flt1 .trunc rn rx))
  | .fTruncBy rn rx ry => .w48 (pack2a .always (.flt2 .truncBy rn rx ry))
  | .fFloat rn rx => .w48 (pack2a .always (.flt1 .float rn rx))
  | .fFloatBy rn rx ry => .w48 (pack2a .always (.flt2 .floatBy rn rx ry))
  | .fRecips rn rx => .w48 (pack2a .always (.flt1 .recips rn rx))
  | .fRsqrts rn rx => .w48 (pack2a .always (.flt1 .rsqrts rn rx))
  | .fCopysign rn rx ry => .w48 (pack2a .always (.flt2 .copysign rn rx ry))
  | .fMin rn rx ry => .w48 (pack2a .always (.flt2 .min rn rx ry))
  | .fMax rn rx ry => .w48 (pack2a .always (.flt2 .max rn rx ry))
  | .fClip rn rx ry => .w48 (pack2a .always (.flt2 .clip rn rx ry))
  | .mulRn md rn rx ry => .w48 (pack2a .always (.mulReg .mul md rn rx ry))
  | .mulMrf md rx ry => .w48 (pack2a .always (.mulAcc .mulF md rx ry))
  | .mulMrb md rx ry => .w48 (pack2a .always (.mulAcc .mulB md rx ry))
  | .mulRnAddF md rn rx ry => .w48 (pack2a .always (.mulReg .addF md rn rx ry))
  | .mulRnAddB md rn rx ry => .w48 (pack2a .always (.mulReg .addB md rn rx ry))
  | .mulAddF md rx ry => .w48 (pack2a .always (.mulAcc .addF md rx ry))
  | .mulAddB md rx ry => .w48 (pack2a .always (.mulAcc .addB md rx ry))
  | .mulRnSubF md rn rx ry => .w48 (pack2a .always (.mulReg .subF md rn rx ry))
  | .mulRnSubB md rn rx ry => .w48 (pack2a .always (.mulReg .subB md rn rx ry))
  | .mulSubF md rx ry => .w48 (pack2a .always (.mulAcc .subF md rx ry))
  | .mulSubB md rx ry => .w48 (pack2a .always (.mulAcc .subB md rx ry))
  | .satRnF fmt rn => .w48 (pack2a .always (.satReg false fmt rn))
  | .satRnB fmt rn => .w48 (pack2a .always (.satReg true fmt rn))
  | .satF fmt => .w48 (pack2a .always (.satAcc false fmt))
  | .satB fmt => .w48 (pack2a .always (.satAcc true fmt))
  | .rndRnF sgn rn => .w48 (pack2a .always (.rndReg false sgn rn))
  | .rndRnB sgn rn => .w48 (pack2a .always (.rndReg true sgn rn))
  | .rndF sgn => .w48 (pack2a .always (.rndAcc false sgn))
  | .rndB sgn => .w48 (pack2a .always (.rndAcc true sgn))
  | .clrF => .w48 (pack2a .always (.clrAcc false))
  | .clrB => .w48 (pack2a .always (.clrAcc true))
  | .fMul rn rx ry => .w48 (pack2a .always (.fmul rn rx ry))
  | .mrGet sel rn => .w48 (pack2a .always (.mrGet sel rn))
  | .mrSet sel rn => .w48 (pack2a .always (.mrSet sel rn))
  | .lshift rn rx ry => .w48 (pack2a .always (.shf .lshift rn rx ry))
  | .orLshift rn rx ry => .w48 (pack2a .always (.shf .orLshift rn rx ry))
  | .ashift rn rx ry => .w48 (pack2a .always (.shf .ashift rn rx ry))
  | .orAshift rn rx ry => .w48 (pack2a .always (.shf .orAshift rn rx ry))
  | .rot rn rx ry => .w48 (pack2a .always (.shf .rot rn rx ry))
  | .bclr rn rx ry => .w48 (pack2a .always (.shf .bclr rn rx ry))
  | .bset rn rx ry => .w48 (pack2a .always (.shf .bset rn rx ry))
  | .btgl rn rx ry => .w48 (pack2a .always (.shf .btgl rn rx ry))
  | .btst rx ry => .w48 (pack2a .always (.btst rx ry))
  | .fdep rn rx ry => .w48 (pack2a .always (.fld .fdep rn rx ry))
  | .orFdep rn rx ry => .w48 (pack2a .always (.fld .orFdep rn rx ry))
  | .fdepSe rn rx ry => .w48 (pack2a .always (.fld .fdepSe rn rx ry))
  | .orFdepSe rn rx ry => .w48 (pack2a .always (.fld .orFdepSe rn rx ry))
  | .fext rn rx ry => .w48 (pack2a .always (.fld .fext rn rx ry))
  | .fextSe rn rx ry => .w48 (pack2a .always (.fld .fextSe rn rx ry))
  | .exp rn rx => .w48 (pack2a .always (.shf1 .exp rn rx))
  | .expEx rn rx => .w48 (pack2a .always (.shf1 .expEx rn rx))
  | .leftz rn rx => .w48 (pack2a .always (.shf1 .leftz rn rx))
  | .lefto rn rx => .w48 (pack2a .always (.shf1 .lefto rn rx))
  | .fpack rn rx => .w48 (pack2a .always (.shf1 .fpack rn rx))
  | .funpack rn rx => .w48 (pack2a .always (.shf1 .funpack rn rx))
  | .bitdep rx ry => .w48 (pack2a .always (.bitdep rx ry))
  | .bitext rn rx => .w48 (pack2a .always (.bitext false rn rx))
  | .bitextNu rn rx => .w48 (pack2a .always (.bitext true rn rx))
  | .bffwrpSet rn => .w48 (pack2a .always (.bffwrpSet rn))
  | .bffwrpGet rn => .w48 (pack2a .always (.bffwrpGet rn))
  | .lshiftImm data rn rx => .w48 (pack6a .always (.by8 .lshift data rn rx))
  | .orLshiftImm data rn rx => .w48 (pack6a .always (.by8 .orLshift data rn rx))
  | .ashiftImm data rn rx => .w48 (pack6a .always (.by8 .ashift data rn rx))
  | .orAshiftImm data rn rx => .w48 (pack6a .always (.by8 .orAshift data rn rx))
  | .rotImm data rn rx => .w48 (pack6a .always (.by8 .rot data rn rx))
  | .bclrImm data rn rx => .w48 (pack6a .always (.by8 .bclr data rn rx))
  | .bsetImm data rn rx => .w48 (pack6a .always (.by8 .bset data rn rx))
  | .btglImm data rn rx => .w48 (pack6a .always (.by8 .btgl data rn rx))
  | .btstImm data rx => .w48 (pack6a .always (.btst8 data rx))
  | .fdepImm imm rn rx => .w48 (pack6a .always (.field .fdep imm rn rx))
  | .orFdepImm imm rn rx => .w48 (pack6a .always (.field .orFdep imm rn rx))
  | .fdepSeImm imm rn rx => .w48 (pack6a .always (.field .fdepSe imm rn rx))
  | .orFdepSeImm imm rn rx => .w48 (pack6a .always (.field .orFdepSe imm rn rx))
  | .fextImm imm rn rx => .w48 (pack6a .always (.field .fext imm rn rx))
  | .fextSeImm imm rn rx => .w48 (pack6a .always (.field .fextSe imm rn rx))
  | .bitdepImm imm rx => .w48 (pack6a .always (.bitdep12 imm rx))
  | .bitextImm imm rn => .w48 (pack6a .always (.bitext12 false imm rn))
  | .bitextNuImm imm rn => .w48 (pack6a .always (.bitext12 true imm rn))
  | .bffwrpImm data => .w48 (pack6a .always (.bffwrp7 data))
  | .dualAddSub ra rs rx ry => .w48 (pack2a .always (.dualFix ra rs rx ry))
  | .fDualAddSub ra rs rx ry => .w48 (pack2a .always (.dualFlt ra rs rx ry))
  | .mulRmAdd rm ra xm ym xa ya => .w48 (pack2a .always (.mulAluReg .mul .add rm ra xm ym xa ya))
  | .mulRmSub rm ra xm ym xa ya => .w48 (pack2a .always (.mulAluReg .mul .sub rm ra xm ym xa ya))
  | .mulRmAvg rm ra xm ym xa ya => .w48 (pack2a .always (.mulAluReg .mul .avg rm ra xm ym xa ya))
  | .macFAdd ra xm ym xa ya => .w48 (pack2a .always (.mulAluAcc false .add ra xm ym xa ya))
  | .macFSub ra xm ym xa ya => .w48 (pack2a .always (.mulAluAcc false .sub ra xm ym xa ya))
  | .macFAvg ra xm ym xa ya => .w48 (pack2a .always (.mulAluAcc false .avg ra xm ym xa ya))
  | .macRmAdd rm ra xm ym xa ya => .w48 (pack2a .always (.mulAluReg .add .add rm ra xm ym xa ya))
  | .macRmSub rm ra xm ym xa ya => .w48 (pack2a .always (.mulAluReg .add .sub rm ra xm ym xa ya))
  | .macRmAvg rm ra xm ym xa ya => .w48 (pack2a .always (.mulAluReg .add .avg rm ra xm ym xa ya))
  | .msubFAdd ra xm ym xa ya => .w48 (pack2a .always (.mulAluAcc true .add ra xm ym xa ya))
  | .msubFSub ra xm ym xa ya => .w48 (pack2a .always (.mulAluAcc true .sub ra xm ym xa ya))
  | .msubFAvg ra xm ym xa ya => .w48 (pack2a .always (.mulAluAcc true .avg ra xm ym xa ya))
  | .msubRmAdd rm ra xm ym xa ya => .w48 (pack2a .always (.mulAluReg .sub .add rm ra xm ym xa ya))
  | .msubRmSub rm ra xm ym xa ya => .w48 (pack2a .always (.mulAluReg .sub .sub rm ra xm ym xa ya))
  | .msubRmAvg rm ra xm ym xa ya => .w48 (pack2a .always (.mulAluReg .sub .avg rm ra xm ym xa ya))
  | .fMulAdd rm ra xm ym xa ya => .w48 (pack2a .always (.fmulAlu .add rm ra xm ym xa ya))
  | .fMulSub rm ra xm ym xa ya => .w48 (pack2a .always (.fmulAlu .sub rm ra xm ym xa ya))
  | .fMulFloat rm ra xm ym xa ya => .w48 (pack2a .always (.fmulAlu .floatBy rm ra xm ym xa ya))
  | .fMulFix rm ra xm ym xa ya => .w48 (pack2a .always (.fmulAlu .fixBy rm ra xm ym xa ya))
  | .fMulAvg rm ra xm ym xa ya => .w48 (pack2a .always (.fmulAlu .avg rm ra xm ym xa ya))
  | .fMulAbs rm ra xm ym xa => .w48 (pack2a .always (.fmulAbs rm ra xm ym xa))
  | .fMulMax rm ra xm ym xa ya => .w48 (pack2a .always (.fmulAlu .max rm ra xm ym xa ya))
  | .fMulMin rm ra xm ym xa ya => .w48 (pack2a .always (.fmulAlu .min rm ra xm ym xa ya))
  | .mulDual rs rm ra xm ym xa ya => .w48 (pack2a .always (.mulDualFix rs rm ra xm ym xa ya))
  | .fMulDual rs rm ra xm ym xa ya => .w48 (pack2a .always (.mulDualFlt rs rm ra xm ym xa ya))

end Sys2Proof
end

