-- ==== Sys2Proof/Config.lean ====
section
/-! DEFINITION. What an implementation fixes (00_scope.md R5; 92_eei_decisions.md section 2) and the free values of the model. -/

namespace Sys2Proof

/-- The parts of 00_scope.md R1; `p2146x`, `p2147x` and `p2148x` are families of the group ADSP-214xx. -/
inductive Part
  | p21362 | p21363 | p21364 | p21365 | p21366 | p21367 | p21368 | p21369 | p21371 | p21375 | p2146x | p2147x | p2148x
deriving DecidableEq, Repr

/-- The product groups of 00_scope.md R1. -/
inductive Generation
  | g2136x | g2137x | g214xx
deriving DecidableEq, Repr

namespace Config

/-- The part. DESIGN CHOICE (log 1): one of the group that has every feature but condition BM. -/
def part : Part := .p2146x

/-- `GEN` (00_scope.md R5). -/
def gen : Generation :=
  match part with
  | .p21362 | .p21363 | .p21364 | .p21365 | .p21366 => .g2136x
  | .p21367 | .p21368 | .p21369 | .p21371 | .p21375 => .g2137x
  | .p2146x | .p2147x | .p2148x => .g214xx

/-- `HAS_VISA` (00_scope.md R5). -/
def hasVisa : Bool := decide (gen = .g214xx)

/-- `HAS_BFF`: the bit FIFO and the destination forms of MODIFY and BITREV (00_scope.md R5). -/
def hasBff : Bool := decide (gen = .g214xx)

/-- `HAS_BM`: condition code 01110 is BM (00_scope.md R5). -/
def hasBm : Bool := decide (part = .p21368)

/-- `HAS_SPERRI`: not on ADSP-21362/3/4/5/6 (00_scope.md R5). -/
def hasSperri : Bool := !decide (gen = .g2136x)

/-- PC stack entries carry bits 25 and 24 (10_state.md R45). -/
def wideStack : Bool := !decide (gen = .g2136x)

/-- `REVPID` (10_state.md R82): an uninterpreted constant of the part (log 1). -/
opaque revpid : BitVec 8

/-- `BLOCK_MAP` (20_memory.md R153), rows of block `b`. DESIGN CHOICE (log 2). -/
def blockRows (b : Nat) : Nat := if b < 2 then 0x10000 else 0x1000

/-- `BLOCK_MAP` (20_memory.md R153), the first row of block `b` that is RAM; lower rows are ROM. DESIGN CHOICE (log 2). -/
def romRows (b : Nat) : Nat := if b < 2 then 0xC000 else 0

/-- `IVT_BASE` (20_memory.md R158; 60_exceptions.md R733) for SYSCTL.IIVT = 0 and 1. DESIGN CHOICE (log 3). -/
def ivtBase (iivt : Bool) : Addr24 := if iivt then 0x90000 else 0x80000

/-- What a byte of memory that is not listed reads as. DESIGN CHOICE (log 4). -/
def blankByte : BitVec 8 := 0

/-- `HAS_EXTMEM` with its bounds (00_scope.md R5; 20_memory.md R176): the 32-bit words of external memory from address
0x200000 up, 0 where there is none. DESIGN CHOICE (log 32). -/
def extWords : Nat := 0

/-- `RECIPS_ROM` (45_alu_float.md R584): which of the seeds that are accurate enough a table holds, a free choice (log
11). -/
opaque recipsChoice : BitVec 7 → Nat

/-- `RSQRTS_ROM` (45_alu_float.md R585), likewise (log 11). -/
opaque rsqrtsChoice : BitVec 7 → Nat

/-- The entries of the EEMUOUT FIFO beyond the first (10_state.md R84, R85), which the spec does not number (log 25). -/
opaque eemuoutMore : Nat

/-- A free word; the first argument says which open value it is, the second is the step counter (log 8). -/
opaque freeWord : Nat → Nat → Word

/-- A free 64-bit value, for an undefined bit FIFO (log 8). -/
opaque freeLong : Nat → Nat → Long

/-- The core clock cycles that the step numbered by the argument takes beyond the timer's ticks (log 10). -/
opaque freeCycles : Nat → Nat

end Config

end Sys2Proof
end

