-- ==== Sys2Proof/Machine/State.lean ====
section
/-! DEFINITION. The state of the core, all of `spec/10_state.md`, as plain data; the reasons a step can stop; the state
after reset (10_state.md R95, 70_reset_and_hazards.md R830). -/

namespace Sys2Proof.Machine

/-- A register with an effect latency (70_reset_and_hazards.md R850). -/
structure Latent (w : Nat) where
  /-- The contents: what a read returns. Hardware updates change it. -/
  val : BitVec w
  /-- What governs the hardware in this step. -/
  eff : BitVec w
  /-- The explicit write made by this step's instruction, if it made one. -/
  wr : Option (BitVec w)
deriving DecidableEq, Repr

/-- A register that holds `v`, with nothing pending. -/
def Latent.of {w : Nat} (v : BitVec w) : Latent w := { val := v, eff := v, wr := none }

/-- The name of a processing element (00_scope.md R2). -/
inductive Elem
  | x | y
deriving DecidableEq, Repr

/-- One processing element (10_state.md R31, R33, R37, R39). -/
structure Pe where
  /-- The primary data registers. -/
  r : Vector Ext 16
  /-- The alternate data registers. -/
  rAlt : Vector Ext 16
  /-- The physical foreground result register, MRF or MSF. -/
  mrf : Acc
  /-- The physical background result register, MRB or MSB. -/
  mrb : Acc
  /-- The bit FIFO. -/
  bff : Long
  /-- The write pointer of the bit FIFO. -/
  bffwrp : BitVec 7
deriving DecidableEq, Repr

/-- One set of the DAG registers of both DAGs (10_state.md R40). -/
structure Dag where
  i : Vector Word 16
  m : Vector Word 16
  l : Vector Word 16
  b : Vector Word 16
deriving DecidableEq, Repr

/-- A saved status (10_state.md R50). -/
structure StatusEntry where
  mode1 : Word
  astatx : Word
  astaty : Word
deriving DecidableEq, Repr

/-- An arithmetic loop on its way out (41_group2_program_flow.md R433). -/
structure Exiting where
  top : Addr24
  last : Addr24
  left : Nat
deriving DecidableEq, Repr

/-- A delayed branch and the number of its slots still to execute (41_group2_program_flow.md R404). -/
structure Delayed where
  target : Addr24
  count : Nat
deriving DecidableEq, Repr

/-- The program sequencer (10_state.md R43 to R50, R90). -/
structure Sequencer where
  pc : Addr24
  /-- The PC stack; entry k of the spec is at index k - 1. -/
  pcstack : Vector (BitVec 26) 30
  pcstkp : Latent 5
  lcntr : Word
  loopaddr : Vector Word 6
  loopcnt : Vector Word 6
  tested : Vector Bool 6
  /-- The depth of the loop stacks, 0 to 6. -/
  ld : Nat
  exiting : Option Exiting
  clc1 : Word
  clc2 : Word
  db : Option Delayed
  idle : Bool
  irqHold : Bool
  /-- The status stack, newest entry first. -/
  sts : List StatusEntry
  /-- ASTATx and ASTATy one instruction older, for the termination test on a multiplier flag (R433). -/
  oldAstatx : Word
  oldAstaty : Word
deriving DecidableEq, Repr

/-- The system registers (10_state.md R42, R52 to R75). The stack flags of STKYx and SF of ASTAT are not stored: a read
composes them (log 30). -/
structure SysRegs where
  mode1 : Latent 32
  mode2 : Latent 32
  mmask : Latent 32
  flags : Latent 32
  astatx : Latent 32
  astaty : Latent 32
  stkyx : Latent 32
  stkyy : Latent 32
  irptl : Latent 32
  imask : Latent 32
  imaskp : Latent 32
  lirptl : Latent 32
  ustat1 : Word
  ustat2 : Word
  ustat3 : Word
  ustat4 : Word
deriving DecidableEq, Repr

/-- The memory-mapped core registers (10_state.md R80 to R86). -/
structure CoreIop where
  sysctl : Latent 32
  brkctl : Latent 32
  /-- EEMUSTAT without bits 10 to 12, which a read composes from the two channels below. -/
  eemustat : Word
  eemuin : Word
  /-- EEMUIN holds a word that the core has not read. -/
  eemuinFull : Bool
  /-- The EEMUOUT FIFO, oldest word first. -/
  eemuout : List Word
  emun : Word
  /-- PSA1S, PSA1E, ..., PSA4E (0 to 7), IOAS, IOAE (8, 9), DMA1S, DMA1E, DMA2S, DMA2E (10 to 13), PMDAS, PMDAE. -/
  brk : Vector (Latent 32) 16
deriving DecidableEq, Repr

/-- One entry of the instruction cache (20_memory.md R220). -/
structure CacheEntry where
  valid : Bool
  tag : BitVec 20
  word : BitVec 48
deriving DecidableEq, Repr

/-- One set of the instruction cache; `lru` is the LRU bit (20_memory.md R220). -/
structure CacheSet where
  entry0 : CacheEntry
  entry1 : CacheEntry
  lru : Bool
deriving DecidableEq, Repr

/-- A cell of RAM that a store or DMA wrote and that may not yet be executed (20_memory.md R222). -/
structure StaleCell where
  cell : Nat
  /-- Instructions executed since, at most 5; 5 as well after a refetch of the pipeline. -/
  age : Nat
  /-- 0 without a FLUSH CACHE since, 1 in the step after one, 2 once it has acted. -/
  flushed : Nat
deriving DecidableEq, Repr

/-- An access of a peripheral register, handed to the platform (20_memory.md R195). -/
structure PlatformAccess where
  addr : Word
  /-- The word written; none for a read. -/
  data : Option Word
deriving DecidableEq, Repr

/-- The platform hook of 20_memory.md R195 (log 23). -/
structure Platform where
  /-- What the platform answers to a read in this step. -/
  answer : Word
  /-- The access of the last instruction, if it made one. -/
  access : Option PlatformAccess
deriving DecidableEq, Repr

/-- One step's input from outside the core (log 7). -/
structure EnvInput where
  /-- Reset replaces the step (70_reset_and_hazards.md R830). -/
  reset : Bool
  /-- The levels of IRQ2, IRQ1, IRQ0, high = 1 (60_exceptions.md R778). -/
  irq : BitVec 3
  /-- The levels of the sixteen flag pins (10_state.md R72). -/
  flagPins : BitVec 16
  /-- The programmable interrupts P0I to P18I (60_exceptions.md R790). -/
  prog : BitVec 19
  /-- SPERRI (60_exceptions.md R788). -/
  sperri : Bool
  /-- `ticks(step)` less one (60_exceptions.md R795). -/
  moreTicks : Nat
  /-- Bytes of memory written by DMA before the step (20_memory.md R212). -/
  dma : List Host.Cell
  /-- What the platform answers to a read of a peripheral register (20_memory.md R195). -/
  answer : Word
  /-- A word that the emulator writes to EEMUIN before the step (10_state.md R85). -/
  emuIn : Option Word
  /-- The emulator takes a word out of the EEMUOUT FIFO before the step (10_state.md R85). -/
  emuOut : Bool
deriving DecidableEq, Repr

/-- A data access of this step, for the breakpoint unit (60_exceptions.md R786). -/
structure DataAccess where
  /-- The PM bus, else the DM bus. -/
  pm : Bool
  write : Bool
  addr : Word
deriving DecidableEq, Repr

/-- What this step's instruction asks of the end of the step; `Scratch.none` between steps. -/
structure Scratch where
  /-- A non-delayed branch `br <- target` (41_group2_program_flow.md R400). -/
  br : Option Addr24
  /-- A delayed branch `db <- (target, 2)`. -/
  dbReq : Option Addr24
  /-- The interrupt events of this step, by interrupt number (60_exceptions.md R740). -/
  events : BitVec 42
  accesses : List DataAccess
  /-- A data access was made on the PM bus, an implicit one too (20_memory.md R220). -/
  pmUsed : Bool
  /-- The cells of RAM that were stored to (20_memory.md R222). -/
  stored : List Nat
  /-- FLUSH CACHE was executed (20_memory.md R221). -/
  flush : Bool
  /-- The test of a counter loop before this instruction found it expired (10_state.md R45). -/
  loopEnded : Bool
  /-- The instruction's condition was false (60_exceptions.md R786). -/
  aborted : Bool
  /-- The loop counter was changed by a program's own action (41_group2_program_flow.md R411). -/
  lceSync : Bool
  /-- TCOUNT was written explicitly (60_exceptions.md R795). -/
  tcountSet : Bool
deriving DecidableEq, Repr

/-- Nothing asked. -/
def Scratch.none : Scratch :=
  { br := .none, dbReq := .none, events := 0, accesses := [], pmUsed := false, stored := [], flush := false
    loopEnded := false, aborted := false, lceSync := false, tcountSet := false }

/-- The state of the machine (10_state.md R30). -/
structure State where
  pex : Pe
  pey : Pe
  dag : Dag
  dagAlt : Dag
  px : Long
  seq : Sequencer
  sys : SysRegs
  tperiod : Word
  tcount : Word
  emuclk : Word
  emuclk2 : Word
  iop : CoreIop
  /-- Internal memory: the bytes that do not read as `Config.blankByte`, by rising address. Byte 2c + k is byte k of the
  16-bit cell with short-word address c (log 6). -/
  mem : List Host.Cell
  cache : Vector CacheSet 16
  /-- The last instruction used the PM bus with the cache neither disabled nor frozen (20_memory.md R220). -/
  pmBefore : Bool
  /-- The last instruction was FLUSH CACHE, which acts with the next one (20_memory.md R221). -/
  flushing : Bool
  /-- The last instruction flushed the cache or changed CADIS, EXTCADIS or CAFRZ (20_memory.md R220, R221). -/
  cacheHold : Bool
  /-- The VISA instruction alignment buffer, from its most significant short word (10_state.md R90 (h)). -/
  iab : Vector (BitVec 16) 5
  /-- Stored cells that may not yet be executed (20_memory.md R222). -/
  stale : List StaleCell
  platform : Platform
  /-- The previous levels of IRQ2, IRQ1, IRQ0. -/
  irqPins : BitVec 3
  flagPins : BitVec 16
  /-- The output pin TMREXP: high after a step in which the timer reached 0 (60_exceptions.md R795). -/
  tmrexp : Bool
  /-- The MODEL's own: inputs still to come, one per step; none left means a quiet environment (log 7). -/
  env : List EnvInput
  /-- The MODEL's own: the number of this step, which indexes the free values (log 8). -/
  steps : Nat
  scratch : Scratch
deriving DecidableEq, Repr

/-- Why the machine stops at an address that the spec says does not exist (20_memory.md R157). -/
inductive Fault
  /-- A data access at an address in no block, no space, or in external memory. Raised by every load and store. Safe:
  the spec gives no effect (92_eei_decisions.md D2). -/
  | unmappedData (addr : Word)
  /-- An instruction fetch at such an address, or in the IOP or long-word space. Raised by `step`. Safe: as above. -/
  | unmappedFetch (addr : Addr24)
deriving DecidableEq, Repr

/-- Why the model gives a step no meaning: each is a case that `spec/93_implementation_defined.md` puts outside. -/
inductive Refusal
  /-- An instruction that has no meaning yet. Raised by `exec`. Safe. -/
  | notModelled (mnemonic : String)
  /-- An encoding that is not assigned (30_encoding.md R283). Raised by `step`. Safe. -/
  | undefinedEncoding
  /-- A VISA address on a part without VISA (00_scope.md R5). Raised by `step`. Safe. -/
  | noVisa
  /-- A type 1, long-word or forced long-word access to IOP space (20_memory.md R195). Raised by loads and stores.
  Safe. -/
  | iopAccessForm
  /-- A conditional SIMD store of a paired register to an IOP address (93_implementation_defined.md item 4). Raised by
  stores. Safe. -/
  | iopConditionalPair
  /-- The combined PX at a short-word address (93_implementation_defined.md item 32). Raised by loads and stores. Safe. -/
  | pxShortWord
  /-- A 32-bit register other than a data register at an address of a 40-bit block (93_implementation_defined.md item
  33). Raised by loads and stores. Safe. -/
  | narrowRegisterIn40BitBlock
  /-- The (LW) option at a short-word address (93_implementation_defined.md item 34). Raised by loads and stores. Safe. -/
  | lwShortWord
  /-- A load of a register of the DAG that generates the address (20_memory.md R190). Raised by types 3 and 15. Safe. -/
  | sameDagLoad
  /-- A dual add/subtract with one result register (92_eei_decisions.md D42). Raised by the computes. Safe. -/
  | dualSameResult
  /-- A use of the PC stack after it overflowed (92_eei_decisions.md D22). Raised by pushes, pops and PCSTK. Safe. -/
  | pcStackOverflowed
  /-- A pop of the empty PC stack (92_eei_decisions.md D22). Raised by returns, loops and POP PCSTK. Safe. -/
  | pcStackEmpty
  /-- A use of the PC stack in the step after a write to PCSTKP (70_reset_and_hazards.md R851 note 1). Raised by
  pushes, pops and PCSTK. Safe. -/
  | pcStackPointerPending
  /-- A use of the loop stacks after they overflowed (92_eei_decisions.md D22). Safe. -/
  | loopStackOverflowed
  /-- A pop of the empty loop stacks (92_eei_decisions.md D22). Safe. -/
  | loopStackEmpty
  /-- A pop of the status stack after it overflowed (92_eei_decisions.md D22). Safe. -/
  | statusStackOverflowed
  /-- A pop of the empty status stack (92_eei_decisions.md D22). Safe. -/
  | statusStackEmpty
  /-- A type 20 word with a push and a pop (43_group4_misc.md R490). Safe. -/
  | pushWithPop
  /-- A DO UNTIL whose end lies before its start (41_group2_program_flow.md R430). Safe. -/
  | loopEndBeforeStart
  /-- A taken branch in a delay slot, other than a delayed one in the first slot (41_group2_program_flow.md R406).
  Raised by `step`. Safe. -/
  | branchInDelaySlot
  /-- A PM data access directly after FLUSH CACHE or a change of the cache mode (20_memory.md R220, R221). Raised by
  `step`. Safe. -/
  | pmAccessAfterCacheChange
  /-- A fetch of a word that was stored without FLUSH CACHE and a refetch since (20_memory.md R222). Raised by `step`.
  Safe. -/
  | modifiedCode (addr : Addr24)
deriving DecidableEq, Repr

/-- A processing element in which every register is 0 (log 5). -/
def Pe.zero : Pe :=
  { r := .replicate 16 0, rAlt := .replicate 16 0, mrf := 0, mrb := 0, bff := 0, bffwrp := 0 }

/-- DAG registers that are all 0 (log 5). -/
def Dag.zero : Dag :=
  { i := .replicate 16 0, m := .replicate 16 0, l := .replicate 16 0, b := .replicate 16 0 }

/-- The sequencer after reset: every stack empty, the PC at the RSTI vector (70_reset_and_hazards.md R830, R832). Both copies
of CURLCNTR are what it reads as then: DESIGN CHOICE (log 5; R411 and R830 give them no value). -/
def Sequencer.reset : Sequencer :=
  { pc := Config.ivtBase false + 4
    pcstack := .replicate 30 0
    pcstkp := .of 0
    lcntr := 0
    loopaddr := .replicate 6 0
    loopcnt := .replicate 6 0
    tested := .replicate 6 false
    ld := 0
    exiting := none
    clc1 := 0xFFFFFFFF
    clc2 := 0xFFFFFFFF
    db := none
    idle := false
    irqHold := false
    sts := []
    oldAstatx := 0
    oldAstaty := 0 }

/-- The system registers after reset (10_state.md R95). -/
def SysRegs.reset : SysRegs :=
  { mode1 := .of 0
    mode2 := .of 0x42000000
    mmask := .of 0x00200000
    flags := .of 0
    astatx := .of 0
    astaty := .of 0
    stkyx := .of 0
    stkyy := .of 0
    irptl := .of 0
    imask := .of 0x00000003
    imaskp := .of 0
    lirptl := .of 0
    ustat1 := 0
    ustat2 := 0
    ustat3 := 0
    ustat4 := 0 }

/-- The memory-mapped core registers after reset (10_state.md R80). -/
def CoreIop.reset : CoreIop :=
  { sysctl := .of 0, brkctl := .of 0, eemustat := 0, eemuin := 0, eemuinFull := false, eemuout := []
    emun := 0
    brk := .replicate 16 (.of 0) }

/-- A cache in which no entry is valid (10_state.md R95). -/
def cacheEmpty : Vector CacheSet 16 :=
  .replicate 16 { entry0 := ⟨false, 0, 0⟩, entry1 := ⟨false, 0, 0⟩, lru := false }

/-- The machine after reset (70_reset_and_hazards.md R830); registers that the spec leaves undefined are 0 (log 5). -/
def State.reset : State :=
  { pex := .zero
    pey := .zero
    dag := .zero
    dagAlt := .zero
    px := 0
    seq := .reset
    sys := .reset
    tperiod := 0
    tcount := 0
    emuclk := 0
    emuclk2 := 0
    iop := .reset
    mem := []
    cache := cacheEmpty
    pmBefore := false
    flushing := false
    cacheHold := false
    iab := .replicate 5 0
    stale := []
    platform := { answer := 0, access := none }
    irqPins := 7
    flagPins := 0
    tmrexp := false
    env := []
    steps := 0
    scratch := .none }

end Sys2Proof.Machine
end

