-- ==== Sys2Proof/Machine/Ops.lean ====
section
/-! DEFINITION. The named operations over the state: outcomes, latencies, memory, the register files, the stacks, and
taking an interrupt and returning from one. -/

namespace Sys2Proof.Machine

/-! ## Outcomes -/

/-- A result, or the reason the machine stops. -/
abbrev Res (α : Type) := Host.Outcome α Fault Refusal

/-- Go on with a result, or stop. -/
def Res.bind {α β : Type} (x : Res α) (f : α → Res β) : Res β :=
  match x with
  | .next a => f a
  | .fault e => .fault e
  | .refused e => .refused e

/-- A pure step after a result. -/
def Res.map {α β : Type} (f : α → β) (x : Res α) : Res β := Res.bind x fun a => .next (f a)

/-- The word with bit `n` set when `b`. -/
def bitIf (b : Bool) (n : Nat) : Word := if b then 1#32 <<< n else 0

/-! ## Registers with an effect latency (70_reset_and_hazards.md R850) -/

/-- A hardware update: seen by the next instruction. -/
def Latent.hw {w : Nat} (l : Latent w) (v : BitVec w) : Latent w := { l with val := v }

/-- An explicit write: read by the next instruction, acted on by the one after it. -/
def Latent.write {w : Nat} (l : Latent w) (v : BitVec w) : Latent w := { l with wr := some v }

/-- An update that acts at once, for the sequencer's own moves of the PC stack pointer (41_group2_program_flow.md R402)
and for bits without effect latency. -/
def Latent.now {w : Nat} (l : Latent w) (v : BitVec w) : Latent w := { l with val := v, eff := v }

/-- The end of a step (R850). -/
def Latent.commit {w : Nat} (l : Latent w) : Latent w :=
  { val := l.wr.getD l.val, eff := l.val, wr := none }

/-! ## Parts of the state -/

def State.setSys (s : State) (x : SysRegs) : State := { s with sys := x }
def State.setSeq (s : State) (x : Sequencer) : State := { s with seq := x }
def State.setIop (s : State) (x : CoreIop) : State := { s with iop := x }
def State.setScratch (s : State) (x : Scratch) : State := { s with scratch := x }
def State.setMem (s : State) (x : List Host.Cell) : State := { s with mem := x }
def State.setPx (s : State) (x : Long) : State := { s with px := x }

/-- A processing element. -/
def State.pe (s : State) : Elem → Pe
  | .x => s.pex
  | .y => s.pey

def State.setPe (s : State) (e : Elem) (p : Pe) : State :=
  match e with
  | .x => { s with pex := p }
  | .y => { s with pey := p }

/-- The value read from a mode or status register that has no read latency. -/
def State.mode1 (s : State) (bit : Nat) : Bool := s.sys.mode1.eff.getLsbD bit

/-- MODE1.PEYEN in force: SIMD mode (10_state.md R52). -/
def State.simd (s : State) : Bool := s.mode1 21

/-- Latch the event of interrupt `p` at the end of this step (60_exceptions.md R740). -/
def State.raise (s : State) (p : Nat) : State :=
  s.setScratch { s.scratch with events := s.scratch.events ||| (1#42 <<< p) }

/-- Set the bits `bits` of STKYx, a hardware update. -/
def State.stickX (s : State) (bits : Word) : State :=
  s.setSys { s.sys with stkyx := s.sys.stkyx.hw (s.sys.stkyx.val ||| bits) }

/-! ## Free values (log 8) -/

/-- Which open value a free word is. -/
inductive FreeTag
  | faddr | daddr | lcntr | bitextX | bitextY | bffwrpX | bffwrpY | platform | eemuout | loopaddr | loopcnt | pcstack
deriving DecidableEq, Repr

def FreeTag.number : FreeTag → Nat
  | .faddr => 0 | .daddr => 1 | .lcntr => 2 | .bitextX => 3 | .bitextY => 4 | .bffwrpX => 5 | .bffwrpY => 6
  | .platform => 7 | .eemuout => 8 | .loopaddr => 9 | .loopcnt => 10 | .pcstack => 11

/-- A free word of this step. -/
def State.free (s : State) (t : FreeTag) : Word := Config.freeWord t.number s.steps

/-! ## Memory: bytes in canonical form, 16-bit cells (20_memory.md R151, R154) -/

/-- The byte at an address of the model's memory. -/
def readByte : List Host.Cell → Nat → BitVec 8
  | [], _ => Config.blankByte
  | (k, v) :: t, a => if k = a then v else readByte t a

/-- Write a byte, keeping the addresses strictly rising and no byte that reads as unlisted memory. -/
def writeByte : List Host.Cell → Nat → BitVec 8 → List Host.Cell
  | [], a, v => if v = Config.blankByte then [] else [(a, v)]
  | (k, u) :: t, a, v =>
    if a < k then (if v = Config.blankByte then (k, u) :: t else (a, v) :: (k, u) :: t)
    else if a = k then (if v = Config.blankByte then t else (a, v) :: t)
    else (k, u) :: writeByte t a v

/-- The canonical form of memory. -/
def Memory.wf : List Host.Cell → Bool
  | [] => true
  | [(_, v)] => v != Config.blankByte
  | (k, v) :: (k', v') :: t => v != Config.blankByte && decide (k < k') && Memory.wf ((k', v') :: t)

/-- The 16-bit cell with short-word address `c` (log 6). -/
def readCell (m : List Host.Cell) (c : Nat) : BitVec 16 := readByte m (2 * c + 1) ++ readByte m (2 * c)

def writeCell (m : List Host.Cell) (c : Nat) (v : BitVec 16) : List Host.Cell :=
  writeByte (writeByte m (2 * c) (v.extractLsb' 0 8)) (2 * c + 1) (v.extractLsb' 8 8)

/-- Two cells, the lower one the low half (20_memory.md R154). -/
def read32 (m : List Host.Cell) (c : Nat) : BitVec 32 := readCell m (c + 1) ++ readCell m c

/-- Three cells (20_memory.md R155). -/
def read48 (m : List Host.Cell) (c : Nat) : BitVec 48 := readCell m (c + 2) ++ readCell m (c + 1) ++ readCell m c

/-- Four cells, a row (20_memory.md R154). -/
def read64 (m : List Host.Cell) (c : Nat) : BitVec 64 := read32 m (c + 2) ++ read32 m c

def write32 (m : List Host.Cell) (c : Nat) (v : BitVec 32) : List Host.Cell :=
  writeCell (writeCell m c (v.extractLsb' 0 16)) (c + 1) (v.extractLsb' 16 16)

def write48 (m : List Host.Cell) (c : Nat) (v : BitVec 48) : List Host.Cell :=
  writeCell (write32 m c (v.extractLsb' 0 32)) (c + 2) (v.extractLsb' 32 16)

def write64 (m : List Host.Cell) (c : Nat) (v : BitVec 64) : List Host.Cell :=
  write32 (write32 m c (v.extractLsb' 0 32)) (c + 2) (v.extractLsb' 32 32)

/-- The short-word address of the first cell of block `b` (20_memory.md R153). -/
def blockCell (b : Nat) : Nat := 0x100000 + b * 0x40000

/-- The block of a cell. -/
def cellBlock (c : Nat) : Nat := (c - 0x100000) / 0x40000

/-- The cell is one of the two of a word of external memory: word `a` has the cells `2a` and `2a + 1` (20_memory.md R176;
log 32). -/
def cellExternal (c : Nat) : Bool := decide (0x400000 ≤ c) && decide (c < 0x400000 + 2 * Config.extWords)

/-- The cell is one of internal memory, in `BLOCK_MAP` (20_memory.md R153). -/
def cellInternal (c : Nat) : Bool :=
  decide (0x100000 ≤ c) && decide (c < 0x200000) &&
    decide ((c - 0x100000) % 0x40000 < 4 * Config.blockRows (cellBlock c))

/-- The cell exists. -/
def cellMapped (c : Nat) : Bool := cellInternal c || cellExternal c

/-- The cell is RAM; a write to ROM has no effect (20_memory.md R157). -/
def cellRam (c : Nat) : Bool :=
  (cellInternal c && decide (4 * Config.romRows (cellBlock c) ≤ (c - 0x100000) % 0x40000)) || cellExternal c

/-- The first cell of the 48-bit word at a normal-word address (20_memory.md R155), where all three cells lie in the
block of the address. -/
def cell48 (a : Nat) : Option Nat :=
  let b := (a - 0x80000) / 0x20000
  let off := 3 * ((a - 0x80000) % 0x20000)
  if 0x80000 ≤ a ∧ a < 0x100000 ∧ off + 2 < 4 * Config.blockRows b then some (blockCell b + off) else none

/-! ## Data registers and DAG registers (10_state.md R33, R40) -/

/-- Register `n` of an element comes from the alternate set. -/
def State.altReg (s : State) (n : RegNum) : Bool := if n.toNat < 8 then s.mode1 10 else s.mode1 7

/-- The 40 bits of a data register of the selected set. -/
def State.reg (s : State) (e : Elem) (n : RegNum) : Ext :=
  if s.altReg n then (s.pe e).rAlt[n.toNat] else (s.pe e).r[n.toNat]

def State.setReg (s : State) (e : Elem) (n : RegNum) (v : Ext) : State :=
  let p := s.pe e
  if s.altReg n then s.setPe e { p with rAlt := p.rAlt.set n.toNat v } else s.setPe e { p with r := p.r.set n.toNat v }

/-- The 32-bit field of a data register. -/
def State.reg32 (s : State) (e : Elem) (n : RegNum) : Word := (s.reg e n).word

/-- Write a 32-bit value to a data register, its low eight bits cleared (10_state.md R34). -/
def State.setReg32 (s : State) (e : Elem) (n : RegNum) (v : Word) : State := s.setReg e n v.toExt

/-- DAG register number `n` comes from the alternate set. -/
def State.altDag (s : State) (n : RegNum) : Bool :=
  match n.toNat / 4 with
  | 0 => s.mode1 4
  | 1 => s.mode1 3
  | 2 => s.mode1 6
  | _ => s.mode1 5

def State.dagOf (s : State) (n : RegNum) : Dag := if s.altDag n then s.dagAlt else s.dag

def State.setDagOf (s : State) (n : RegNum) (d : Dag) : State :=
  if s.altDag n then { s with dagAlt := d } else { s with dag := d }

def State.ireg (s : State) (n : RegNum) : Word := (s.dagOf n).i[n.toNat]
def State.mreg (s : State) (n : RegNum) : Word := (s.dagOf n).m[n.toNat]
def State.lreg (s : State) (n : RegNum) : Word := (s.dagOf n).l[n.toNat]
def State.breg (s : State) (n : RegNum) : Word := (s.dagOf n).b[n.toNat]

def State.setI (s : State) (n : RegNum) (v : Word) : State :=
  s.setDagOf n { s.dagOf n with i := (s.dagOf n).i.set n.toNat v }

def State.setM (s : State) (n : RegNum) (v : Word) : State :=
  s.setDagOf n { s.dagOf n with m := (s.dagOf n).m.set n.toNat v }

def State.setL (s : State) (n : RegNum) (v : Word) : State :=
  s.setDagOf n { s.dagOf n with l := (s.dagOf n).l.set n.toNat v }

/-- A write to B also writes I (20_memory.md R186). -/
def State.setB (s : State) (n : RegNum) (v : Word) : State :=
  s.setDagOf n { s.dagOf n with b := (s.dagOf n).b.set n.toNat v, i := (s.dagOf n).i.set n.toNat v }

/-! ## Composed status (log 30) -/

/-- SF of an element: the bit FIFO holds 32 bits or more; 214xx only (10_state.md R39). -/
def Pe.sf (p : Pe) : Bool := Config.hasBff && decide (32 ≤ p.bffwrp.toNat)

/-- ASTAT with SF (bit 14) as the bit FIFO makes it (10_state.md R56, R57). -/
def astatView (v : Word) (p : Pe) : Word :=
  if Config.hasBff then (v &&& ~~~(0x4000#32)) ||| (if p.sf then 0x4000 else 0) else v

/-- STKYx with its read-only stack flags PCFL, PCEM, SSEM, LSEM (10_state.md R51, R63). -/
def stkyxView (s : State) : Word :=
  (s.sys.stkyx.val &&& ~~~(0x05600000#32))
    ||| (if 29 ≤ s.seq.pcstkp.eff.toNat then 0x00200000 else 0)
    ||| (if s.seq.pcstkp.eff = 0 then 0x00400000 else 0)
    ||| (if s.seq.sts.isEmpty then 0x01000000 else 0)
    ||| (if s.seq.ld = 0 then 0x04000000 else 0)

/-- FLAGS with the bits of input pins as the pins are (10_state.md R72). -/
def flagsView (v : Word) (pins : BitVec 16) : Word :=
  (List.range 16).foldl
    (fun acc k =>
      if v.getLsbD (2 * k + 1) then acc
      else (acc &&& ~~~(1#32 <<< (2 * k))) ||| (if pins.getLsbD k then 1#32 <<< (2 * k) else 0)) v

/-! ## The PC stack (41_group2_program_flow.md R402) -/

/-- The depth of the PC stack, where the source says what a use of the stack does: not in the step after a write of PCSTKP
(70_reset_and_hazards.md R851 note 1). A write of the value that PCSTKP had changes nothing and shuts no use out: DESIGN
CHOICE (log 27). -/
def pcDepth (s : State) : Res Nat :=
  if s.seq.pcstkp.val ≠ s.seq.pcstkp.eff then .refused .pcStackPointerPending
  else if s.seq.pcstkp.val = 31 then .refused .pcStackOverflowed
  else .next s.seq.pcstkp.val.toNat

/-- The pointer set by the sequencer, without latency. -/
def State.setDepth (s : State) (d : Nat) : State :=
  s.setSeq { s.seq with pcstkp := s.seq.pcstkp.now (.ofNat 5 d) }

/-- An entry of the PC stack: irqbit, callbit, address (10_state.md R45). -/
def pcEntry (addr : Addr24) (call irq : Bool) : BitVec 26 :=
  if Config.wideStack then BitVec.ofBool irq ++ BitVec.ofBool call ++ addr else addr.setWidth 26

/-- Move the PC stack pointer up; SOVFI when 29 entries or more are filled (60_exceptions.md R775). -/
def bumpPc (d : Nat) (s : State) : State :=
  let s := s.setDepth (d + 1)
  if 29 ≤ d + 1 then s.raise 3 else s

/-- `PushPC`; the push on a full stack loses the entry and leaves the stack overflowed. -/
def pushPc (entry : BitVec 26) (s : State) : Res State :=
  Res.bind (pcDepth s) fun d =>
    if h : d < 30 then
      .next (bumpPc d (s.setSeq { s.seq with pcstack := s.seq.pcstack.set d entry }))
    else .next (bumpPc d s)

/-- PUSH PCSTK: the pointer alone, so that the new top entry is an open value until a program writes it
(43_group4_misc.md R493; 93_implementation_defined.md item 46; log 38). -/
def pushPcPointer (s : State) : Res State :=
  pushPc (if Config.wideStack then (s.free .pcstack).setWidth 26 else ((s.free .pcstack).setWidth 24).setWidth 26) s

/-- `PopPC`. -/
def popPc (s : State) : Res (BitVec 26 × State) :=
  Res.bind (pcDepth s) fun d =>
    if h : 0 < d ∧ d ≤ 30 then .next (s.seq.pcstack[d - 1], s.setDepth (d - 1)) else .refused .pcStackEmpty

/-- PCSTK: the top entry, or all ones when the stack is empty (10_state.md R47). -/
def readPcstk (s : State) : Res (BitVec 26) :=
  Res.bind (pcDepth s) fun d =>
    if h : 0 < d ∧ d ≤ 30 then .next s.seq.pcstack[d - 1]
    else .next (if Config.wideStack then 0x3FFFFFF else 0xFFFFFF)

/-- A write to PCSTK; none when the stack is empty (10_state.md R47). -/
def writePcstk (v : Word) (s : State) : Res State :=
  Res.bind (pcDepth s) fun d =>
    if h : 0 < d ∧ d ≤ 30 then
      let e : BitVec 26 := if Config.wideStack then v.setWidth 26 else (v.setWidth 24).setWidth 26
      .next (s.setSeq { s.seq with pcstack := s.seq.pcstack.set (d - 1) e })
    else .next s

/-! ## The loop stacks (41_group2_program_flow.md R403) -/

/-- STKYx.LSOV: the loop stacks overflowed. -/
def loopLost (s : State) : Bool := s.sys.stkyx.val.getLsbD 25

/-- The top of the loop address stack (10_state.md R48). -/
def State.laddr (s : State) : Word :=
  if h : 0 < s.seq.ld ∧ s.seq.ld ≤ 6 then s.seq.loopaddr[s.seq.ld - 1] else 0xFFFFFFFF

/-- The top of the loop count stack (10_state.md R49). -/
def State.curlcntr (s : State) : Word :=
  if h : 0 < s.seq.ld ∧ s.seq.ld ≤ 6 then s.seq.loopcnt[s.seq.ld - 1] else 0xFFFFFFFF

def State.setLaddr (s : State) (v : Word) : State :=
  if h : 0 < s.seq.ld ∧ s.seq.ld ≤ 6 then
    s.setSeq { s.seq with loopaddr := s.seq.loopaddr.set (s.seq.ld - 1) v }
  else s

def State.setCurlcntr (s : State) (v : Word) : State :=
  if h : 0 < s.seq.ld ∧ s.seq.ld ≤ 6 then
    s.setSeq { s.seq with loopcnt := s.seq.loopcnt.set (s.seq.ld - 1) v }
  else s

/-- The hidden bit `tested` of the top entry (41_group2_program_flow.md R431). -/
def State.loopTested (s : State) : Bool :=
  if h : 0 < s.seq.ld ∧ s.seq.ld ≤ 6 then s.seq.tested[s.seq.ld - 1] else false

def State.setTested (s : State) (v : Bool) : State :=
  if h : 0 < s.seq.ld ∧ s.seq.ld ≤ 6 then
    s.setSeq { s.seq with tested := s.seq.tested.set (s.seq.ld - 1) v }
  else s

/-- NOT LCE sees the new CURLCNTR at once (41_group2_program_flow.md R411). -/
def State.syncLce (s : State) : State := s.setScratch { s.scratch with lceSync := true }

/-- `PushLoop`; a seventh push loses the entry, sets LSOV and raises SOVFI. -/
def pushLoop (laddr count : Word) (s : State) : Res State :=
  if loopLost s then .refused .loopStackOverflowed
  else if s.seq.ld < 6 then
    .next ((((s.setSeq { s.seq with ld := s.seq.ld + 1 }).setTested false).setLaddr laddr).setCurlcntr count)
  else .next ((s.stickX 0x02000000).raise 3)

/-- PUSH LOOP: the pointers alone, so that the new top entries are open values until a program writes them
(43_group4_misc.md R491; 93_implementation_defined.md item 46; log 38). -/
def pushLoopPointer (s : State) : Res State := pushLoop (s.free .loopaddr) (s.free .loopcnt) s

/-- `PopLoop`. -/
def popLoop (s : State) : Res State :=
  if loopLost s then .refused .loopStackOverflowed
  else if s.seq.ld = 0 then .refused .loopStackEmpty
  else .next (s.setSeq { s.seq with ld := s.seq.ld - 1 })

/-! ## The status stack (60_exceptions.md R760, 43_group4_misc.md R492) -/

/-- Save MODE1, ASTATx and ASTATy; a sixteenth push loses them, sets SSOV and raises SOVFI. -/
def saveStatus (s : State) : State :=
  if s.seq.sts.length < 15 then
    s.setSeq { s.seq with
      sts := { mode1 := s.sys.mode1.val
               astatx := astatView s.sys.astatx.val s.pex
               astaty := astatView s.sys.astaty.val s.pey } :: s.seq.sts }
  else (s.stickX 0x00800000).raise 3

/-- MODE1 without the bits that MMASK in force names (10_state.md R71). -/
def maskedMode1 (s : State) : Word := s.sys.mode1.val &&& ~~~s.sys.mmask.eff

/-- `PushStatus` of an interrupt entry: the new MODE1 is a hardware update. -/
def pushStatus (s : State) : State :=
  let t := saveStatus s
  t.setSys { t.sys with mode1 := t.sys.mode1.hw (maskedMode1 s) }

/-- The top of the status stack, and the state without it. -/
def takeStatus (s : State) : Res (StatusEntry × State) :=
  if s.sys.stkyx.val.getLsbD 23 then .refused .statusStackOverflowed
  else
    match s.seq.sts with
    | [] => .refused .statusStackEmpty
    | e :: rest => .next (e, s.setSeq { s.seq with sts := rest })

/-- Restore ASTATx and ASTATy, a hardware update. -/
def restoreAstat (e : StatusEntry) (s : State) : State :=
  s.setSys { s.sys with astatx := s.sys.astatx.hw e.astatx, astaty := s.sys.astaty.hw e.astaty }

/-- `PopStatus` of a return from interrupt: MODE1 is a hardware update. -/
def popStatus (s : State) : Res State :=
  Res.bind (takeStatus s) fun (e, t) =>
    let t := restoreAstat e t
    .next (t.setSys { t.sys with mode1 := t.sys.mode1.hw e.mode1 })

/-! ## Interrupts (60_exceptions.md R732 to R764) -/

/-- Interrupt `p` has its bits in LIRPTL. -/
def inLirptl (p : Nat) : Bool := (decide (17 ≤ p) && decide (p ≤ 24)) || p == 28 || p == 29

/-- The bit number of interrupt `p` in IRPTL, IMASK and IMASKP, or of its latch bit in LIRPTL (R732). -/
def latchBit (p : Nat) : Nat :=
  if p ≤ 16 then p else if p ≤ 24 then p - 17 else if p ≤ 27 then p - 8 else if p ≤ 29 then p - 20 else p - 10

/-- `latch(p)` in values of IRPTL and LIRPTL. Interrupt 7 has none: bit 7 of IRPTL, of IMASK and of IMASKP is reserved, so
what a program wrote there has no effect (R788, 10_state.md R53; log 50). -/
def latchOf (irptl lirptl : Word) (p : Nat) : Bool :=
  p != 7 && if inLirptl p then lirptl.getLsbD (latchBit p) else irptl.getLsbD (latchBit p)

/-- `mask(p)` in values of IMASK and LIRPTL; interrupt 7 has none. -/
def maskOf (imask lirptl : Word) (p : Nat) : Bool :=
  p != 7 && if inLirptl p then lirptl.getLsbD (latchBit p + 10) else imask.getLsbD (latchBit p)

/-- `maskp(p)` in values of IMASKP and LIRPTL; interrupt 7 has none. -/
def maskpOf (imaskp lirptl : Word) (p : Nat) : Bool :=
  p != 7 && if inLirptl p then lirptl.getLsbD (latchBit p + 20) else imaskp.getLsbD (latchBit p)

/-- Set or clear a bit of a word. -/
def putBit (w : Word) (n : Nat) (b : Bool) : Word :=
  if b then w ||| (1#32 <<< n) else w &&& ~~~(1#32 <<< n)

/-- `latch(p) <- b`, a hardware update. -/
def State.setLatch (s : State) (p : Nat) (b : Bool) : State :=
  if inLirptl p then s.setSys { s.sys with lirptl := s.sys.lirptl.hw (putBit s.sys.lirptl.val (latchBit p) b) }
  else s.setSys { s.sys with irptl := s.sys.irptl.hw (putBit s.sys.irptl.val (latchBit p) b) }

/-- `maskp(p) <- b`, a hardware update. -/
def State.setMaskp (s : State) (p : Nat) (b : Bool) : State :=
  if inLirptl p then
    s.setSys { s.sys with lirptl := s.sys.lirptl.hw (putBit s.sys.lirptl.val (latchBit p + 20) b) }
  else s.setSys { s.sys with imaskp := s.sys.imaskp.hw (putBit s.sys.imaskp.val (latchBit p) b) }

/-- `hp`: the interrupt in service of highest priority (R744). -/
def inService (s : State) : Option Nat :=
  (List.range 42).find? (maskpOf s.sys.imaskp.eff s.sys.lirptl.eff)

/-- `allowed(p)` (R744). -/
def allowed (s : State) (p : Nat) : Bool :=
  s.mode1 12 && maskOf s.sys.imask.eff s.sys.lirptl.eff p &&
    match inService s with
    | none => true
    | some hp => s.mode1 11 && decide (p < hp)

/-- `next_irq` (R744); interrupts 0 and 1 are not taken by an entry, interrupt 7 does not exist. -/
def nextIrq (s : State) : Option Nat :=
  (List.range 42).find? fun p =>
    decide (2 ≤ p) && p != 7 && latchOf s.sys.irptl.eff s.sys.lirptl.eff p && allowed s p

/-- The interrupts that push the status stack: TMZHI, IRQ2I, IRQ1I, IRQ0I, TMZLI (R746). -/
def pushesStatus (p : Nat) : Bool := p == 4 || p == 8 || p == 9 || p == 10 || p == 32

/-- `IVT_BASE` by SYSCTL.IIVT in force (20_memory.md R158). -/
def ivtBase (s : State) : Addr24 := Config.ivtBase (s.iop.sysctl.eff.getLsbD 2)

/-- TAKING AN INTERRUPT (R746): the entry for interrupt `p` at the instruction at `pc`, which has not executed. -/
def takeInterrupt (p : Nat) (s : State) : Res State :=
  Res.bind (pushPc (pcEntry s.seq.pc false true) (s.setSeq { s.seq with idle := false })) fun t =>
    let t := if pushesStatus p then pushStatus t else t
    let t := (t.setLatch p false).setMaskp p true
    .next (t.setSeq { t.seq with pc := ivtBase s + .ofNat 24 (4 * p), irqHold := true })

/-- The breakpoint status bits of EEMUSTAT (10_state.md R84). -/
def breakStatusBits : Word := 0x000100FF

/-- `ClearInterrupt` (R764): the interrupt side of RTI and of JUMP (CI). -/
def clearInterrupt (s : State) : Res State :=
  match inService s with
  | none => .next s
  | some hp =>
    Res.bind (if pushesStatus hp then popStatus s else .next s) fun t =>
      let t := (t.setLatch hp false).setMaskp hp false
      .next (if hp = 6 then t.setIop { t.iop with eemustat := t.iop.eemustat &&& ~~~breakStatusBits } else t)

/-- RETURNING FROM AN INTERRUPT (R764): the interrupt side, then the return address popped off the PC stack. -/
def returnFromInterrupt (s : State) : Res (Addr24 × State) :=
  Res.bind (clearInterrupt s) fun t =>
    Res.bind (popPc t) fun (e, t) => .next (e.setWidth 24, t)

/-- `LatchUpdate` on values of IRPTL and LIRPTL (R740, R741): events latched, latches of interrupts in service held at
0. -/
def latchUpdate (events : BitVec 42) (imaskp maskpl : Word) (irptl lirptl : Word) : Word × Word :=
  (List.range 42).foldl
    (fun (a : Word × Word) p =>
      if 2 ≤ p ∧ p ≠ 7 then
        let b := (latchOf a.1 a.2 p || events.getLsbD p) && !maskpOf imaskp maskpl p
        if inLirptl p then (a.1, putBit a.2 (latchBit p) b) else (putBit a.1 (latchBit p) b, a.2)
      else a) (irptl, lirptl)

end Sys2Proof.Machine
end

