-- ==== Sys2Proof/Machine/Fetch.lean ====
section
/-! DEFINITION. Fetching an instruction (20_memory.md R225) and what FADDR and DADDR read (40_group1_compute_move.md
R368). -/

namespace Sys2Proof.Machine

/-- An instruction address lies in short-word space, where VISA executes (10_state.md R44). -/
def isVisa (a : Addr24) : Bool := decide (0x100000 ≤ a.toNat)

/-! ## What a part without the bit FIFO lacks (00_scope.md R5; 47_shifter.md R680) -/

/-- The operation uses the bit FIFO. -/
def computeUsesFifo : Compute → Bool
  | .bitdep _ _ => true
  | .bitext _ _ _ => true
  | .bffwrpSet _ => true
  | .bffwrpGet _ => true
  | _ => false

/-- The shift-immediate operation uses the bit FIFO. -/
def shiftUsesFifo : ShiftImm → Bool
  | .bitdep12 _ _ => true
  | .bitext12 _ _ _ => true
  | .bffwrp7 _ => true
  | _ => false

/-- The instruction is one of the parts with the bit FIFO only: an operation of the bit FIFO, or a MODIFY or BITREV with a
destination of its own. -/
def needsFifo : Instr → Bool
  | .bitdep .. | .bitext .. | .bitextNu .. | .bffwrpSet .. | .bffwrpGet .. | .bitdepImm .. | .bitextImm ..
  | .bitextNuImm .. | .bffwrpImm .. => true
  | .shiftMem6a _ _ _ _ _ _ sh => shiftUsesFifo sh
  | .shift6a _ sh => shiftUsesFifo sh
  | .modify7a _ _ _ _ idx c => idx != 0 || computeUsesFifo c
  | .modify7b _ _ _ _ idx => idx != 0
  | .modifyImm19a _ idx _ _ => idx != 0
  | .bitrev19a _ idx _ _ => idx != 0
  | i => computeUsesFifo i.computeField

/-- The part has the instruction; a reserved encoding where it has not (30_encoding.md R283). -/
def supported (i : Instr) : Bool := Config.hasBff || !needsFifo i

/-- The instruction at a normal-word address. -/
def fetchIsa (m : List Host.Cell) (a : Addr24) : Res (Instr × Nat) :=
  match cell48 a.toNat with
  | none => .fault (.unmappedFetch a)
  | some c =>
    match decode48 (read48 m c) with
    | some i => if supported i then .next (i, 1) else .refused .undefinedEncoding
    | none => .refused .undefinedEncoding

/-- The instruction at a short-word address, the first short word most significant. -/
def fetchVisa (m : List Host.Cell) (a : Addr24) : Res (Instr × Nat) :=
  let c := a.toNat
  if Config.hasVisa = false then .refused .noVisa
  else if cellMapped c = false then .fault (.unmappedFetch a)
  else
    match decodeVisa (readCell m c) (readCell m (c + 1)) (readCell m (c + 2)) with
    | some (i, n) =>
      if supported i = false then .refused .undefinedEncoding
      else if cellMapped (c + n - 1) then .next (i, n) else .fault (.unmappedFetch a)
    | none => .refused .undefinedEncoding

/-- The instruction at an address and its length in address units. -/
def fetch (m : List Host.Cell) (a : Addr24) : Res (Instr × Nat) :=
  if a.toNat < 0x80000 then .fault (.unmappedFetch a)
  else if a.toNat < 0x100000 then fetchIsa m a
  else if a.toNat < 0x200000 then fetchVisa m a
  else .fault (.unmappedFetch a)

/-- A cell of the instruction of `len` address units at `a` was stored to and may not yet be executed (20_memory.md R222;
log 46). -/
def modifiedAt (stale : List StaleCell) (a : Addr24) (len : Nat) : Bool :=
  let first := if isVisa a then a.toNat else (cell48 a.toNat).getD 0
  let cells := if isVisa a then len else 3
  stale.any fun x => decide (first ≤ x.cell) && decide (x.cell < first + cells)

/-- The instruction contains a data access on the PM bus (20_memory.md R220). -/
def usesPm : Instr → Bool
  | .dualMove1a .. | .dualMove1b .. => true
  | .memUreg3a _ _ _ _ g _ _ _ _ => g
  | .memUreg3b _ _ _ _ g _ _ _ => g
  | .memDreg4a _ g _ _ _ _ _ _ => g
  | .memDreg4b _ g _ _ _ _ _ => g
  | .shiftMem6a _ _ _ g _ _ _ => g
  | .memDirect14a g _ _ _ _ => g
  | .memOffset15a g _ _ _ _ _ => g
  | .memOffset15b _ _ _ g _ _ => g
  | .storeImm16a _ _ g _ => g
  | .storeImm16b _ _ g _ => g
  | _ => false

/-- The length of an instruction that takes `k` short words in VISA space (41_group2_program_flow.md R400). -/
def lengthAt (n : Addr24) (k : Nat) : Addr24 := if isVisa n then .ofNat 24 k else 1

/-- The return address of a delayed call of `k` short words: the third instruction after it (R405). -/
def afterSlots (s : State) (k : Nat) : Res Addr24 :=
  let n := s.seq.pc
  if isVisa n then
    let n1 := n + .ofNat 24 k
    Res.bind (fetch s.mem n1) fun (_, l1) =>
      Res.bind (fetch s.mem (n1 + .ofNat 24 l1)) fun (_, l2) => .next (n1 + .ofNat 24 l1 + .ofNat 24 l2)
  else .next (n + 3)

/-! ## What FADDR and DADDR read (log 9) -/

/-- The instruction can send the flow elsewhere than to the next instruction. -/
def redirects : Instr → Bool
  | .jumpDirect8a .. | .jumpRel8a .. | .callDirect8a .. | .callRel8a .. | .jumpInd9a .. | .jumpRel9a .. | .callInd9a ..
  | .callRel9a .. | .jumpInd10a .. | .jumpRel10a .. | .rts11a .. | .rti11a .. | .cjumpDirect25a .. | .cjumpRel25a ..
  | .idle22a => true
  | _ => false

/-- The register decides which interrupts are admitted: MODE1, IMASK or LIRPTL (60_exceptions.md R744). -/
def admitsInterrupts : UReg → Bool
  | .sys .mode1 | .sys .imask | .sys .lirptl => true
  | _ => false

/-- The instruction can admit interrupts that were shut out. -/
def mayAdmit : Instr → Bool
  | .memUreg3a _ _ _ _ _ d _ u _ => !d && admitsInterrupts u
  | .memDirect14a _ d _ u _ => !d && admitsInterrupts u
  | .memOffset15a _ _ d _ u _ => !d && admitsInterrupts u
  | .move5a _ _ u _ => admitsInterrupts u
  | .loadImm17a u _ => admitsInterrupts u
  | .bitSet18a x _ => admitsInterrupts (.sys x)
  | .bitTgl18a x _ => admitsInterrupts (.sys x)
  | .popSts20a => true
  | .stackOps20a _ _ _ spo _ _ _ => spo
  | _ => false

/-- An interrupt may be taken now or soon: they are enabled, and one that can be masked is not. -/
def mayInterrupt (s : State) : Bool :=
  (s.sys.mode1.val ||| s.sys.mode1.eff).getLsbD 12 &&
    ((s.sys.imask.val ||| s.sys.imask.eff) &&& 0xFFFFFF7C != 0 ||
      (s.sys.lirptl.val ||| s.sys.lirptl.eff) &&& 0x000FFC00 != 0)

/-- The end of the loop that a DO UNTIL at `a` starts. -/
def loopStarted (a : Addr24) : Instr → List Addr24
  | .doImm12a _ rel => [a + rel]
  | .doUreg12a _ rel => [a + rel]
  | .doUntil13a _ rel => [a + rel]
  | _ => []

/-- A loop ends at `a`: one on the loop stacks, or one of `ends`. -/
def loopEndsAt (s : State) (ends : List Addr24) (a : Addr24) : Bool :=
  ends.contains a || (List.finRange 6).any fun k => decide (k.val < s.seq.ld) && s.seq.loopaddr[k].setWidth 24 == a

/-- The flow from the ISA instruction at `a` through `k` more instructions is known to be sequential: no branch, no end
of a loop, of those active and of those started at `ends` or on the way, and nothing that admits an interrupt (R368). -/
def sequential (s : State) : Nat → List Addr24 → Addr24 → Bool
  | 0, _, _ => true
  | k + 1, ends, a =>
    match fetch s.mem a with
    | .next (i, _) =>
      let ends := loopStarted a i ++ ends
      !redirects i && !mayAdmit i && !loopEndsAt s ends a && sequential s k ends (a + 1)
    | _ => false

/-- The address `k` instructions after this one in sequential ISA flow, else a free 24-bit value (R368, log 9). -/
def streamAddress (s : State) (t : FreeTag) (k : Nat) : Word :=
  let n := s.seq.pc
  if isVisa n = false ∧ s.seq.db = none ∧ s.seq.exiting = none ∧ mayInterrupt s = false ∧
      sequential s k [] n = true then
    (n + .ofNat 24 k).setWidth 32
  else ((s.free t).setWidth 24).setWidth 32

end Sys2Proof.Machine
end

