-- ==== Sys2Proof/Machine/Commit.lean ====
section
/-! DEFINITION. The inputs of a step and its end: timer, interrupt events, breakpoints, the instruction cache, the
latches and the effect latencies (`spec/60_exceptions.md` R740 to R795, `spec/70_reset_and_hazards.md` R850). -/

namespace Sys2Proof.Machine

/-! ## Inputs (log 7) -/

/-- The input of a quiet environment: no event, the flag pins as they were, the platform's answers open values (log
7). -/
def quietInput (s : State) : EnvInput :=
  { reset := false, irq := 7, flagPins := s.flagPins, prog := 0, sperri := false, moreTicks := 0, dma := []
    answer := s.free .platform, emuIn := none, emuOut := false }

/-- The input of this step. -/
def State.input (s : State) : EnvInput := s.env.headD (quietInput s)

/-- A byte written by DMA, in RAM only (log 35). -/
def dmaByte (m : List Host.Cell) (c : Host.Cell) : List Host.Cell :=
  if cellRam (c.1 / 2) then writeByte m c.1 c.2 else m

/-- Stored cells join those that may not yet be executed, anew those that were among them (20_memory.md R222). -/
def addStale (cells : List Nat) (l : List StaleCell) : List StaleCell :=
  l.filter (fun x => !cells.contains x.cell) ++ cells.map fun c => { cell := c, age := 0, flushed := 0 }

/-- The emulator's side of EEMUIN and EEMUOUT (10_state.md R85; log 25). -/
def emulatorSide (inp : EnvInput) (y : CoreIop) : CoreIop :=
  { y with
    eemuin := inp.emuIn.getD y.eemuin
    eemuinFull := inp.emuIn.isSome || y.eemuinFull
    eemuout := if inp.emuOut then y.eemuout.tail else y.eemuout }

/-- The state with the input of this step taken in. -/
def State.takeInput (s : State) : State :=
  { s with
    mem := s.input.dma.foldl dmaByte s.mem
    stale := addStale ((s.input.dma.map fun c => c.1 / 2).filter cellRam) s.stale
    iop := emulatorSide s.input s.iop
    platform := { answer := s.input.answer, access := none }
    flagPins := s.input.flagPins
    env := s.env.tail }

/-- Reset: every register at its reset value, memory and the environment kept (70_reset_and_hazards.md R830). Code stored
before it is no longer modified code: DESIGN CHOICE (log 46). A software reset clears SYSCTL.IIVT too, and starts at the
vectors of IIVT 0: DESIGN CHOICE (log 3). -/
def State.restart (s : State) : State :=
  { State.reset with mem := s.mem, flagPins := s.flagPins, env := s.env, steps := s.steps + 1 }

/-! ## The core timer (60_exceptions.md R795) -/

/-- `TimerTick` `k` times on TCOUNT, with whether an event arose. -/
def timerTicks (period : Word) : Nat → Word × Bool → Word × Bool
  | 0, a => a
  | k + 1, a =>
    let c := if a.1 = 0 then period else a.1 - 1
    timerTicks period k (c, a.2 || c == 0)

/-- The timer's part of the end of a step of `k` ticks; TMREXP is high where the event arises. A TPERIOD that the
instruction of the step wrote is the one reloaded: DESIGN CHOICE (log 48; R795 settles TCOUNT only). -/
def tickTimer (k : Nat) (t : State) : State :=
  if t.sys.mode2.eff.getLsbD 5 && !t.scratch.tcountSet then
    let r := timerTicks t.tperiod k (t.tcount, false)
    let t : State := { t with tcount := r.1, tmrexp := r.2 }
    if r.2 then (t.raise 4).raise 32 else t
  else { t with tmrexp := false }

/-- EMUCLK and EMUCLK2 count on by the ticks and a free number of cycles, never down: at the end of their range they
stay there (10_state.md R77, log 10). -/
def tickEmuclk (k : Nat) (t : State) : State :=
  let v : Long := .ofNat 64 (min ((t.emuclk2 ++ t.emuclk).toNat + k + Config.freeCycles t.steps) (2 ^ 64 - 1))
  { t with emuclk := v.extractLsb' 0 32, emuclk2 := v.extractLsb' 32 32 }

/-! ## Events (60_exceptions.md section 8) -/

/-- The bit of interrupt `p` when `b`. -/
def eventIf (b : Bool) (p : Nat) : BitVec 42 := if b then 1#42 <<< p else 0

/-- The arithmetic interrupts from the sticky bits of both elements (R770). -/
def arithmeticEvents (s : State) : BitVec 42 :=
  let k := s.sys.stkyx.val ||| s.sys.stkyy.val
  eventIf (k.getLsbD 2 || k.getLsbD 6) 33 ||| eventIf (k.getLsbD 1 || k.getLsbD 7) 34
    ||| eventIf (k.getLsbD 0 || k.getLsbD 8) 35 ||| eventIf (k.getLsbD 5 || k.getLsbD 9) 36

/-- IRQ2I, IRQ1I, IRQ0I: a falling edge or a low level of the pin by MODE2 (R778); pin `x` is bit `x`. -/
def irqEvents (mode2 : Word) (old new : BitVec 3) : BitVec 42 :=
  let hit (x : Nat) : Bool :=
    if mode2.getLsbD x then old.getLsbD x && !new.getLsbD x else !new.getLsbD x
  eventIf (hit 2) 8 ||| eventIf (hit 1) 9 ||| eventIf (hit 0) 10

/-- The interrupts P0I to P18I are numbers 11 to 29 (R732, R790). -/
def progEvents (prog : BitVec 19) : BitVec 42 := prog.setWidth 42 <<< 11

/-! ## The breakpoint unit (60_exceptions.md R786, log 24) -/

/-- The address lies in the range, or with `neg` outside it; a range that starts after its end is disabled. -/
def brkRange (start last a : Word) (neg : Bool) : Bool :=
  decide (start.toNat ≤ last.toNat) &&
    if neg then decide (last.toNat < a.toNat) || decide (a.toNat < start.toNat)
    else decide (start.toNat ≤ a.toNat) && decide (a.toNat ≤ last.toNat)

/-- The access matches a MODE field: 01 write, 10 read, 11 any. -/
def brkMode (mode : BitVec 2) (write : Bool) : Bool := if write then mode.getLsbD 0 else mode.getLsbD 1

/-- Instruction-address breakpoint `k` fires at the instruction at `n`. -/
def brkInstr (y : CoreIop) (n : Addr24) (k : Fin 4) : Bool :=
  brkRange (y.brk[2 * k.val]).eff (y.brk[2 * k.val + 1]).eff (n.setWidth 32) (y.brkctl.eff.getLsbD (13 + k.val))

/-- A data breakpoint with its registers from index `i`, MODE from bit `m` and NEG at bit `g` of BRKCTL fires. -/
def brkData (y : CoreIop) (l : List DataAccess) (pm : Bool) (i : Fin 15) (m g : Nat) : Bool :=
  l.any fun a =>
    a.pm == pm && brkMode (y.brkctl.eff.extractLsb' m 2) a.write &&
      brkRange (y.brk[i.val]).eff (y.brk[i.val + 1]).eff a.addr (y.brkctl.eff.getLsbD g)

/-- The individual breakpoints that fire, in their places of EEMUSTAT (10_state.md R84); none of an aborted
instruction. -/
def brkFired (y : CoreIop) (l : List DataAccess) (n : Addr24) (aborted : Bool) : BitVec 7 :=
  let at_ (b : Bool) (k : Nat) : BitVec 7 := if !aborted && b then 1#7 <<< k else 0
  at_ (brkData y l true 14 0 10) 0 ||| at_ (brkData y l false 10 2 11) 1 ||| at_ (brkData y l false 12 4 12) 2
    ||| at_ (brkInstr y n 0) 3 ||| at_ (brkInstr y n 1) 4 ||| at_ (brkInstr y n 2) 5 ||| at_ (brkInstr y n 3) 6

/-- The effective breakpoint event: the enabled groups ANDed or ORed; the I/O group never fires. -/
def brkEvent (ctl : Word) (f : BitVec 7) : Bool :=
  let pa := f.getLsbD 0
  let da := f.getLsbD 1 || f.getLsbD 2
  let ia := f.extractLsb' 3 4 != 0
  let io := ctl.getLsbD 26 || ctl.getLsbD 27
  if ctl.getLsbD 24 then
    (ctl.getLsbD 19 || ctl.getLsbD 20 || ctl.getLsbD 21) && (!ctl.getLsbD 19 || pa) && (!ctl.getLsbD 20 || da) &&
      (!ctl.getLsbD 21 || ia) && !io
  else (ctl.getLsbD 19 && pa) || (ctl.getLsbD 20 && da) || (ctl.getLsbD 21 && ia)

/-- The breakpoint unit after the instruction at `n`: only with BRKCTL.UMODE; EMUN counts events down before one is
signalled. An EMUN that the instruction itself stored is the one tested and counted down, and an event in the step of an RTI
from BKPI comes after its clearing of EEMUSTAT: DESIGN CHOICE (log 24; R786 does not say). -/
def breakpoints (n : Addr24) (t : State) : State :=
  let y := t.iop
  let f := brkFired y t.scratch.accesses n t.scratch.aborted
  if y.brkctl.eff.getLsbD 25 && brkEvent y.brkctl.eff f then
    if y.emun = 0 then
      (t.setIop { y with eemustat := y.eemustat ||| f.setWidth 32 }).raise 6
    else t.setIop { y with emun := y.emun - 1 }
  else t

/-! ## The instruction cache (20_memory.md R220, log 26) -/

/-- The 48 bits fetched at an address: a word of ISA code, or three short words of VISA code. -/
def fetchedWord (m : List Host.Cell) (a : Addr24) : Option (BitVec 48) :=
  if isVisa a then some (readCell m a.toNat ++ readCell m (a.toNat + 1) ++ readCell m (a.toNat + 2))
  else (cell48 a.toNat).map (read48 m)

/-- A set holds a valid entry with the tag. -/
def CacheSet.hit (c : CacheSet) (tag : BitVec 20) : Bool :=
  (c.entry0.valid && c.entry0.tag == tag) || (c.entry1.valid && c.entry1.tag == tag)

/-- Place an entry in the least recently used place and toggle LRU. -/
def CacheSet.place (c : CacheSet) (e : CacheEntry) : CacheSet :=
  if c.lru then { c with entry1 := e, lru := false } else { c with entry0 := e, lru := true }

/-- The cache in force stores what it misses: MODE2 bits CADIS and CAFRZ are 0. CAFRZ acts one instruction late, as the
other bits of MODE2: DESIGN CHOICE (log 26; 90_conflicts.md C43 does not choose). -/
def cacheStores (t : State) : Bool := !t.sys.mode2.eff.getLsbD 4 && !t.sys.mode2.eff.getLsbD 19

/-- The instruction that is executed second after one with a PM data access, fetched while that one executed, is cached;
the PC is at it when this is done. DESIGN CHOICE (log 26). -/
def cacheConflict (t : State) : State :=
  let a := t.seq.pc
  let k : BitVec 4 := a.extractLsb' 0 4
  let tag : BitVec 20 := a.extractLsb' 4 20
  match fetchedWord t.mem a with
  | some w =>
    let c := t.cache[k.toNat]
    if c.hit tag then t
    else { t with cache := t.cache.set k.toNat (c.place { valid := true, tag := tag, word := w }) }
  | none => t

/-- A cache without a valid entry (20_memory.md R221); the LRU bits stay. -/
def clearCache (v : Vector CacheSet 16) : Vector CacheSet 16 :=
  v.map fun c => { c with entry0 := { c.entry0 with valid := false }, entry1 := { c.entry1 with valid := false } }

/-- The explicit write that this instruction made to MODE2 changes CADIS, EXTCADIS or CAFRZ (93_implementation_defined.md
item 10). -/
def changesCacheMode (l : Latent 32) : Bool :=
  match l.wr with
  | some v => (v ^^^ l.val) &&& 0x00080050 != 0
  | none => false

/-- The cache at the end of a step, with `ran` when it executed an instruction. A FLUSH CACHE of the step before acts now:
its effect latency is one instruction (20_memory.md R221). A step that executes none, directly after a PM data access, ends
the wait for the instruction to be cached: DESIGN CHOICE (log 26). -/
def commitCache (ran : Bool) (t : State) : State :=
  let placed := if ran && t.pmBefore then cacheConflict t else t
  { t with
    cache := if t.flushing then clearCache placed.cache else placed.cache
    pmBefore := ran && t.scratch.pmUsed && cacheStores t
    flushing := t.scratch.flush
    cacheHold := t.scratch.flush || changesCacheMode t.sys.mode2 }

/-! ## Modified code (20_memory.md R222; log 46) -/

/-- A stored cell after a step: `ran` when it executed an instruction, `refetched` when it refilled the pipeline,
`flush` when it was FLUSH CACHE. -/
def StaleCell.aged (ran refetched flush : Bool) (x : StaleCell) : StaleCell :=
  { x with
    age := if refetched then 5 else if ran then min 5 (x.age + 1) else x.age
    flushed := if x.flushed = 0 then (if flush then 1 else 0) else 2 }

/-- The cell may be executed: five instructions or a refetch of the pipeline, and a FLUSH CACHE that acts, lie between. -/
def StaleCell.fresh (x : StaleCell) : Bool := decide (5 ≤ x.age) && decide (2 ≤ x.flushed)

/-- The stored cells at the end of a step. A non-delayed branch and an interrupt entry refill the pipeline. -/
def commitStale (ran : Bool) (t : State) : List StaleCell :=
  addStale t.scratch.stored
    ((t.stale.map (StaleCell.aged ran (t.scratch.br.isSome || !ran && t.seq.irqHold) t.scratch.flush)).filter
      fun x => !x.fresh)

/-- The instruction alignment buffer at the end of a step: the five short words at a VISA address (10_state.md R90 (h);
log 45). -/
def refillBuffer (t : State) : Vector (BitVec 16) 5 :=
  if isVisa t.seq.pc then .ofFn fun k => readCell t.mem (t.seq.pc.toNat + k.val) else t.iab

/-! ## Effect latencies and latches -/

/-- Every system register at the end of a step, its latencies moved on (70_reset_and_hazards.md R850). -/
def SysRegs.commit (y : SysRegs) : SysRegs :=
  { y with
    mode1 := y.mode1.commit
    mode2 := y.mode2.commit
    mmask := y.mmask.commit
    flags := y.flags.commit
    astatx := y.astatx.commit
    astaty := y.astaty.commit
    stkyx := y.stkyx.commit
    stkyy := y.stkyy.commit
    irptl := y.irptl.commit
    imask := y.imask.commit
    imaskp := y.imaskp.commit
    lirptl := y.lirptl.commit }

/-- The latches after the events of the step, in the contents and in what acts (60_exceptions.md R740). The mask pointers that
hold a latch at 0 are those that act from the next step on, so that an explicit write of the step before counts already:
DESIGN CHOICE (log 43). -/
def SysRegs.latch (events : BitVec 42) (y : SysRegs) : SysRegs :=
  let f := latchUpdate events y.imaskp.eff y.lirptl.eff
  let v := f y.irptl.val y.lirptl.val
  let e := f y.irptl.eff y.lirptl.eff
  { y with
    irptl := { y.irptl with val := v.1, eff := e.1 }
    lirptl := { y.lirptl with val := v.2, eff := e.2 } }

/-- The memory-mapped registers with latencies: one instruction for SYSCTL and all of BRKCTL (70_reset_and_hazards.md R851).
DESIGN CHOICE (log 24): BRKCTL's NEG bits too, of which 60_exceptions.md R786 quotes 4 core clock cycles, and all sixteen
breakpoint address registers (10_state.md R86), where R786 gives one cycle to "The I/O processor breakpoint address
registers" and nothing to those of the instruction, DM and PM groups. -/
def CoreIop.commit (y : CoreIop) : CoreIop :=
  { y with sysctl := y.sysctl.commit, brkctl := y.brkctl.commit, brk := y.brk.map Latent.commit }

/-- The end of a step that began in `s` with input `inp`; `ran` is the address of the instruction it executed. -/
def endStep (s : State) (inp : EnvInput) (ran : Option Addr24) (t : State) : State :=
  let ticks := inp.moreTicks + 1
  let t := tickEmuclk ticks (tickTimer ticks t)
  let t := match ran with
    | some n => breakpoints n t
    | none => t
  let t := { commitCache ran.isSome t with stale := commitStale ran.isSome t, iab := refillBuffer t }
  let events :=
    t.scratch.events ||| arithmeticEvents s ||| irqEvents t.sys.mode2.eff s.irqPins inp.irq ||| progEvents inp.prog
      ||| eventIf (Config.hasSperri && inp.sperri) 5
  { t with
    sys := t.sys.commit.latch events
    iop := t.iop.commit
    seq := { t.seq with
      pcstkp := t.seq.pcstkp.commit
      oldAstatx := t.sys.astatx.eff
      oldAstaty := t.sys.astaty.eff }
    irqPins := inp.irq
    scratch := .none
    steps := t.steps + 1 }

end Sys2Proof.Machine
end

