-- ==== Sys2Proof/Machine/Operands.lean ====
section
/-! DEFINITION. Operands: conditions, universal registers, addresses, and the memory transfer of an instruction. A
meaning reads the state before the instruction, called `s`, and writes into the state it builds, called `t`. -/

namespace Sys2Proof

/-! ## Relations between registers -/

/-- The data register a universal register is. -/
def UReg.dreg : UReg → Option (Machine.Elem × RegNum)
  | .r n => some (.x, n)
  | .s n => some (.y, n)
  | _ => none

/-- The system register that is the complement (10_state.md R35). -/
def SReg.complement : SReg → Option SReg
  | .ustat1 => some .ustat2
  | .ustat2 => some .ustat1
  | .ustat3 => some .ustat4
  | .ustat4 => some .ustat3
  | .astatx => some .astaty
  | .astaty => some .astatx
  | .stkyx => some .stkyy
  | .stkyy => some .stkyx
  | _ => none

/-- The complementary register (10_state.md R35). -/
def UReg.complement : UReg → Option UReg
  | .r n => some (.s n)
  | .s n => some (.r n)
  | .px1 => some .px2
  | .px2 => some .px1
  | .sys x => x.complement.map .sys
  | _ => none

/-- The neighbour of a long-word transfer, in the same file (20_memory.md R163). -/
def UReg.neighbour : UReg → Option UReg
  | .r n => some (.r (n ^^^ 1))
  | .s n => some (.s (n ^^^ 1))
  | .i n => some (.i (n ^^^ 1))
  | .m n => some (.m (n ^^^ 1))
  | .l n => some (.l (n ^^^ 1))
  | .b n => some (.b (n ^^^ 1))
  | _ => none

/-- The register is USTAT1 to USTAT4. -/
def UReg.isUstat : UReg → Bool
  | .sys .ustat1 => true
  | .sys .ustat2 => true
  | .sys .ustat3 => true
  | .sys .ustat4 => true
  | _ => false

namespace Machine

/-- The register class of an access (20_memory.md R165, R170). -/
inductive RegClass
  | dreg | px | other
deriving DecidableEq, Repr

end Machine

/-- The register class of a universal register. -/
def UReg.cls : UReg → Machine.RegClass
  | .r _ => .dreg
  | .s _ => .dreg
  | .px => .px
  | _ => .other

end Sys2Proof

namespace Sys2Proof.Machine

/-! ## Conditions (41_group2_program_flow.md R409 to R411) -/

/-- The ASTAT of an element that governs conditions and the flags that ALU operations read. -/
def State.astatEff (s : State) (e : Elem) : Word :=
  match e with
  | .x => astatView s.sys.astatx.eff s.pex
  | .y => astatView s.sys.astaty.eff s.pey

/-- `lt` of R410. -/
def lessThan (a : Word) (alusat : Bool) : Bool :=
  let az := a.getLsbD 0
  let av := a.getLsbD 1
  let an := a.getLsbD 2
  let af := a.getLsbD 10
  (!af && (an ^^ (av && alusat))) || (af && an && !az)

/-- The truth value of a test in values of ASTAT, FLAGS and MODE1 (R410). -/
def testHolds (a flags mode1 : Word) (t : Test) : Bool :=
  match t with
  | .eq => a.getLsbD 0
  | .lt => lessThan a (mode1.getLsbD 13)
  | .le => lessThan a (mode1.getLsbD 13) || a.getLsbD 0
  | .ac => a.getLsbD 3
  | .av => a.getLsbD 1
  | .mv => a.getLsbD 7
  | .ms => a.getLsbD 6
  | .sv => a.getLsbD 11
  | .sz => a.getLsbD 12
  | .flag0 => flags.getLsbD 0
  | .flag1 => flags.getLsbD 2
  | .flag2 => flags.getLsbD 4
  | .flag3 => flags.getLsbD 6
  | .tf => a.getLsbD 18
  | .bm =>
    if Config.hasBff then a.getLsbD 14
    else Config.hasBm && !mode1.getLsbD 17 && !mode1.getLsbD 18

/-- FLAGS as conditions see it. -/
def State.flagsEff (s : State) : Word := flagsView s.sys.flags.eff s.flagPins

/-- `cond(e, code)`; NOT LCE sees CURLCNTR one instruction late, in a branch two (R411). -/
def condHolds (s : State) (e : Elem) (branch : Bool) (c : Cond) : Bool :=
  match c with
  | .is t => testHolds (s.astatEff e) s.flagsEff s.sys.mode1.eff t
  | .isNot t => !testHolds (s.astatEff e) s.flagsEff s.sys.mode1.eff t
  | .notLce => if branch then s.seq.clc2 != 1 else s.seq.clc1 != 1
  | .always => true

/-- The gates of an instruction: `cx` for PEx, `cy` for PEy; in SISD mode PEx governs all (40_group1_compute_move.md
R350, R351). -/
structure Gates where
  cx : Bool
  cy : Bool
deriving DecidableEq, Repr

def gates (s : State) (branch : Bool) (c : Cond) : Gates :=
  let cx := condHolds s .x branch c
  { cx := cx, cy := if s.simd then condHolds s .y branch c else cx }

/-- No condition. -/
def Gates.open : Gates := { cx := true, cy := true }

/-- The negated conditions, for an ELSE clause (R409). -/
def Gates.negate (g : Gates) : Gates := { cx := !g.cx, cy := !g.cy }

/-- `cx or cy`: address updates (R351). -/
def Gates.any (g : Gates) : Bool := g.cx || g.cy

/-- `cx and cy`: branches (R409). -/
def Gates.both (g : Gates) : Bool := g.cx && g.cy

/-- An instruction none of whose parts executes counts as aborted (60_exceptions.md R786). -/
def noteAborted (g : Gates) (t : State) : State :=
  t.setScratch { t.scratch with aborted := !g.any }

/-! ## Universal registers (40_group1_compute_move.md R366, R367) -/

/-- LIRPTL reads its mask-pointer bits one instruction late (10_state.md R69). -/
def lirptlView (l : Latent 32) : Word := (l.val &&& ~~~(0x3FF00000#32)) ||| (l.eff &&& 0x3FF00000)

/-- The value read from a system register. -/
def readSReg (s : State) : SReg → Word
  | .ustat1 => s.sys.ustat1
  | .ustat2 => s.sys.ustat2
  | .ustat3 => s.sys.ustat3
  | .ustat4 => s.sys.ustat4
  | .mode1 => s.sys.mode1.val
  | .mode2 => s.sys.mode2.val
  | .mmask => s.sys.mmask.val
  | .flags => flagsView s.sys.flags.val s.flagPins
  | .astatx => astatView s.sys.astatx.val s.pex
  | .astaty => astatView s.sys.astaty.val s.pey
  | .stkyx => stkyxView s
  | .stkyy => s.sys.stkyy.val
  | .irptl => s.sys.irptl.val
  | .imask => s.sys.imask.val
  | .imaskp => s.sys.imaskp.eff
  | .lirptl => lirptlView s.sys.lirptl

/-- The part of `new` that the writable bits `m` of a register with contents `old` take. -/
def mergeBits (old new m : Word) : Word := (old &&& ~~~m) ||| (new &&& m)

/-- An explicit write to a system register: bits 21 to 26 of STKYx and bits 0 and 1 of IRPTL and IMASK are not writable
(10_state.md R64, R65; 60_exceptions.md R742); reserved bits, those of interrupt 7 among them, are stored (R53; log 50). -/
def writeSReg (x : SReg) (v : Word) (t : State) : State :=
  let y := t.sys
  match x with
  | .ustat1 => t.setSys { y with ustat1 := v }
  | .ustat2 => t.setSys { y with ustat2 := v }
  | .ustat3 => t.setSys { y with ustat3 := v }
  | .ustat4 => t.setSys { y with ustat4 := v }
  | .mode1 => t.setSys { y with mode1 := y.mode1.write v }
  | .mode2 => t.setSys { y with mode2 := y.mode2.write v }
  | .mmask => t.setSys { y with mmask := y.mmask.write v }
  | .flags => t.setSys { y with flags := y.flags.write v }
  | .astatx => t.setSys { y with astatx := y.astatx.write v }
  | .astaty => t.setSys { y with astaty := y.astaty.write v }
  | .stkyx => t.setSys { y with stkyx := y.stkyx.write (mergeBits y.stkyx.val v 0xF81FFFFF) }
  | .stkyy => t.setSys { y with stkyy := y.stkyy.write v }
  | .irptl => t.setSys { y with irptl := y.irptl.write (mergeBits y.irptl.val v 0xFFFFFFFC) }
  | .imask => t.setSys { y with imask := y.imask.write (mergeBits y.imask.val v 0xFFFFFFFC) }
  | .imaskp => t.setSys { y with imaskp := y.imaskp.write v }
  | .lirptl => t.setSys { y with lirptl := y.lirptl.write v }

def State.px1 (s : State) : Word := s.px.extractLsb' 0 32
def State.px2 (s : State) : Word := s.px.extractLsb' 32 32

/-- `v32(src)` (R366). -/
def readUReg (s : State) : UReg → Res Word
  | .r n => .next (s.reg32 .x n)
  | .s n => .next (s.reg32 .y n)
  | .i n => .next (s.ireg n)
  | .m n => .next (s.mreg n)
  | .l n => .next (s.lreg n)
  | .b n => .next (s.breg n)
  | .faddr => .next (streamAddress s .faddr 4)
  | .daddr => .next (streamAddress s .daddr 2)
  | .pc => .next (s.seq.pc.setWidth 32)
  | .pcstk => (readPcstk s).map fun v => v.setWidth 32
  | .pcstkp => .next (s.seq.pcstkp.eff.setWidth 32)
  | .laddr => if loopLost s then .refused .loopStackOverflowed else .next s.laddr
  | .curlcntr => if loopLost s then .refused .loopStackOverflowed else .next s.curlcntr
  | .lcntr => .next (if s.seq.ld = 6 then s.free .lcntr else s.seq.lcntr)
  | .emuclk => .next s.emuclk
  | .emuclk2 => .next s.emuclk2
  | .px => .next s.px1
  | .px1 => .next s.px1
  | .px2 => .next s.px2
  | .tperiod => .next s.tperiod
  | .tcount => .next s.tcount
  | .sys x => .next (readSReg s x)

/-- `set32(dst, v)` (R366); for the combined PX both halves, as an immediate or an unpaired source loads it (R366 case
4, 42_group3_immediate_move.md R465). -/
def writeUReg (u : UReg) (v : Word) (t : State) : Res State :=
  match u with
  | .r n => .next (t.setReg32 .x n v)
  | .s n => .next (t.setReg32 .y n v)
  | .i n => .next (t.setI n v)
  | .m n => .next (t.setM n v)
  | .l n => .next (t.setL n v)
  | .b n => .next (t.setB n v)
  | .faddr => .next t
  | .daddr => .next t
  | .pc => .next t
  | .pcstk => writePcstk v t
  | .pcstkp =>
    if t.seq.pcstkp.eff = 31 then .next t
    else .next (t.setSeq { t.seq with pcstkp := t.seq.pcstkp.write (v.setWidth 5) })
  | .laddr => if loopLost t then .refused .loopStackOverflowed else .next (t.setLaddr v)
  | .curlcntr => if loopLost t then .refused .loopStackOverflowed else .next (t.setCurlcntr v).syncLce
  | .lcntr => .next (if t.seq.ld = 6 then t else t.setSeq { t.seq with lcntr := v })
  | .emuclk => .next t
  | .emuclk2 => .next t
  | .px => .next (t.setPx (v ++ v))
  | .px1 => .next (t.setPx (t.px2 ++ v))
  | .px2 => .next (t.setPx (v ++ t.px1))
  | .tperiod => .next { t with tperiod := v }
  | .tcount => .next (({ t with tcount := v } : State).setScratch { t.scratch with tcountSet := true })
  | .sys x => .next (writeSReg x v t)

/-- `dst = src` with the widths of R366. `PX = PX`, whose result R366 does not state, moves all 64 bits: DESIGN CHOICE (log
49). -/
def moveUReg (s : State) (dst src : UReg) (t : State) : Res State :=
  match dst.dreg, src.dreg with
  | some (de, dn), some (se, sn) => .next (t.setReg de dn (s.reg se sn))
  | some (de, dn), none =>
    if src = .px then .next (t.setReg de dn (s.px.extractLsb' 24 40))
    else Res.bind (readUReg s src) fun v => writeUReg dst v t
  | none, some (se, sn) =>
    if dst = .px then .next (t.setPx (s.reg se sn ++ (0#24)))
    else writeUReg dst (s.reg32 se sn) t
  | none, none =>
    if dst = .px then
      if src = .px then .next (t.setPx s.px)
      else
        Res.bind (readUReg s src) fun lo =>
          match src.complement with
          | some c => (readUReg s c).map fun hi => t.setPx (hi ++ lo)
          | none => .next (t.setPx (lo ++ lo))
    else Res.bind (readUReg s src) fun v => writeUReg dst v t

/-- The explicit move and, in SIMD mode, the implicit move (R367). -/
def transfer (s : State) (g : Gates) (dst src : UReg) (t : State) : Res State :=
  Res.bind (if g.cx then moveUReg s dst src t else .next t) fun t =>
    if s.simd && g.cy then
      match dst.complement with
      | none => .next t
      | some cd =>
        match src.complement with
        | some cs => moveUReg s cd cs t
        | none => if src = .px && dst.isUstat then .next t else moveUReg s cd src t
    else .next t

/-- An immediate load, with its implicit half in SIMD mode (42_group3_immediate_move.md R465). -/
def loadImmediate (s : State) (u : UReg) (v : Word) (t : State) : Res State :=
  Res.bind (writeUReg u v t) fun t =>
    if s.simd then
      match u.complement with
      | some c => writeUReg c v t
      | none => .next t
    else .next t

/-! ## Addresses (20_memory.md R180 to R188; 40_group1_compute_move.md R354) -/

/-- Register `n` of the DAG that `g` selects. -/
def dagReg (g : Bool) (n : DagNum) : RegNum := BitVec.ofBool g ++ n

/-- `PreAddr`. -/
def preAddr (s : State) (a : RegNum) (mod : Word) : Word := s.ireg a + mod

/-- `rev32`. -/
def rev32 (x : Word) : Word := x.reverse

/-- `PostAddr`: bit-reversed for I0 with BR0 and I8 with BR8 (R187). -/
def postAddr (s : State) (a : RegNum) : Word :=
  if (a = 0 ∧ s.mode1 1 = true) ∨ (a = 8 ∧ s.mode1 0 = true) then rev32 (s.ireg a) else s.ireg a

/-- `circ` on an index, base, length and modifier, and whether it wrapped (R183). -/
def circ (i b l mod : Word) : Word × Bool :=
  let sum : Int := i.toNat + mod.toInt
  if 0 ≤ mod.toInt ∧ (b.toNat + l.toNat : Int) ≤ sum then (i + mod - l, true)
  else if mod.toInt < 0 ∧ sum < (b.toNat : Int) then (i + mod + l, true)
  else (i + mod, false)

/-- `circ` with the B and L of index register `a`. -/
def circReg (s : State) (a : RegNum) (mod : Word) : Word × Bool := circ (s.ireg a) (s.breg a) (s.lreg a) mod

/-- The overflow of circular buffers 7 and 15 (R185; 60_exceptions.md R772). -/
def noteWrap (a : RegNum) (wrapped : Bool) (t : State) : State :=
  if wrapped ∧ a = 7 then (t.stickX 0x00020000).raise 30
  else if wrapped ∧ a = 15 then (t.stickX 0x00040000).raise 31
  else t

/-- `PostMod`, when the gate `go` is open. -/
def postMod (s : State) (go : Bool) (a : RegNum) (mod : Word) (t : State) : State :=
  if go then
    if s.mode1 24 then noteWrap a (circReg s a mod).2 (t.setI a (circReg s a mod).1)
    else t.setI a (s.ireg a + mod)
  else t

/-- MODIFY: the wrap whatever CBUFEN is, and none when the destination is another register (R188). -/
def modifyIndex (s : State) (src dst : RegNum) (mod : Word) (t : State) : State :=
  if dst = src then t.setI dst (circReg s src mod).1 else t.setI dst (s.ireg src + mod)

/-! ## The memory transfer (40_group1_compute_move.md R353; 20_memory.md R160 to R175) -/

/-- What a data access is, by its address, register class and options (20_memory.md R160). -/
inductive Access
  /-- A register of IOP space. -/
  | iop
  /-- 16, 32 or 64 bits from a cell up. -/
  | w16 (c : Nat)
  | w32 (c : Nat)
  /-- Forced long word: two 32-bit words, `c` that of the explicit register. -/
  | w64 (c c' : Nat)
  /-- 48 bits: the combined PX, or a data register in a 40-bit block. -/
  | w48 (c : Nat)
  | w40 (c : Nat)
deriving DecidableEq, Repr

/-- SYSCTL.IMDW in force for the block of a cell (20_memory.md R162). -/
def imdw (s : State) (c : Nat) : Bool := s.iop.sysctl.eff.getLsbD (9 + cellBlock c)

/-- The access of `n` cells from `c` up stays in a block. -/
def mappedSpan (c n : Nat) : Bool := cellMapped c && cellMapped (c + n - 1) && cellBlock c == cellBlock (c + n - 1)

/-- Classify an access; `lw` is the (LW) option, `dual` a type 1 instruction. With (LW) at an odd normal-word address every
register named, the combined PX and those with a complement too, moves the word at that address (20_memory.md R164; log
31). -/
def classify (s : State) (addr : Word) (k : RegClass) (lw dual : Bool) : Res Access :=
  let a := addr.toNat
  if a < 0x40000 then (if lw || dual then .refused .iopAccessForm else .next .iop)
  else if a < 0x80000 then
    if mappedSpan (4 * a) 4 then .next (.w64 (4 * a) (4 * a + 2)) else .fault (.unmappedData addr)
  else if a < 0x100000 then
    if lw then
      if mappedSpan (2 * a) 2 then .next (.w64 (2 * a) (2 * (a ^^^ 1))) else .fault (.unmappedData addr)
    else if k = .px then
      match cell48 a with
      | some c => .next (.w48 c)
      | none => .fault (.unmappedData addr)
    else if imdw s (2 * a) then
      match k, cell48 a with
      | .dreg, some c => .next (.w40 c)
      | .dreg, none => .fault (.unmappedData addr)
      | _, _ => .refused .narrowRegisterIn40BitBlock
    else if mappedSpan (2 * a) 2 then .next (.w32 (2 * a)) else .fault (.unmappedData addr)
  else if a < 0x200000 then
    if lw then .refused .lwShortWord
    else if k = .px then .refused .pxShortWord
    else if cellMapped a then .next (.w16 a)
    else .fault (.unmappedData addr)
  else if mappedSpan (2 * a) 2 then .next (.w32 (2 * a))
  else .fault (.unmappedData addr)

/-- The implicit access of SIMD mode beside the explicit one at `addr`, performed or not: one word on in normal-word and
external memory, two short words on in short-word space, none for the other widths (20_memory.md R171;
40_group1_compute_move.md R353). It is a 32-bit access also where it crosses into a 40-bit block (log 31). -/
def implicitAccess (s : State) (addr : Word) (k : RegClass) (lw : Bool) : Res (Option Access) :=
  let a := addr.toNat
  if a < 0x80000 ∨ lw = true ∨ k = .px then .next none
  else if a < 0x100000 then
    if imdw s (2 * a) then .next none
    else if mappedSpan (2 * a + 2) 2 then .next (some (.w32 (2 * a + 2)))
    else .fault (.unmappedData (addr + 1))
  else if a < 0x200000 then
    if cellMapped (a + 2) then .next (some (.w16 (a + 2))) else .fault (.unmappedData (addr + 2))
  else if mappedSpan (2 * a + 2) 2 then .next (some (.w32 (2 * a + 2)))
  else .fault (.unmappedData (addr + 1))

/-! ### Memory-mapped core registers (10_state.md R80) -/

/-- The breakpoint address register at an IOP address (10_state.md R80, R86). -/
def brkIndex (a : Nat) : Option (Fin 16) :=
  if 0x300A0 ≤ a ∧ a ≤ 0x300A7 then some (.ofNat 16 (a - 0x300A0))
  else if 0x300B0 ≤ a ∧ a ≤ 0x300B5 then some (.ofNat 16 (a - 0x300B0 + 8))
  else if 0x300B8 ≤ a ∧ a ≤ 0x300B9 then some (.ofNat 16 (a - 0x300B8 + 14))
  else none

/-- The number of words that the EEMUOUT FIFO holds (10_state.md R84, R85; log 25). -/
def eemuoutSize : Nat := Config.eemuoutMore + 1

/-- EEMUSTAT with EEMUOUTRDY (bit 10), EEMUOUTFULL (11) and EEMUINFULL (12) as the two channels are (10_state.md R84). -/
def eemustatView (y : CoreIop) : Word :=
  (y.eemustat &&& ~~~(0x00001C00#32)) ||| bitIf (!y.eemuout.isEmpty) 10
    ||| bitIf (decide (eemuoutSize ≤ y.eemuout.length)) 11 ||| bitIf y.eemuinFull 12

/-- A word written to the EEMUOUT FIFO, lost when it is full (10_state.md R85; log 25). -/
def pushEemuout (v : Word) (y : CoreIop) : CoreIop :=
  if y.eemuout.length < eemuoutSize then { y with eemuout := y.eemuout ++ [v] } else y

/-- A read of an IOP register: of the core's own, or of a peripheral's, which the platform answers (20_memory.md R195; log
23). EEMUOUT reads as the oldest word of its FIFO, an open value when it is empty. EEMUSTAT can be read whatever UMODE is
(log 24). Of REVPID, whose eight bits the spec gives, bits 31 to 8 read as 0: DESIGN CHOICE (log 1). -/
def readIop (s : State) (addr : Word) : Word :=
  let a := addr.toNat
  if a = 0x30020 then s.iop.eemuin
  else if a = 0x30021 then eemustatView s.iop
  else if a = 0x30022 then s.iop.eemuout.headD (s.free .eemuout)
  else if a = 0x30024 then s.iop.sysctl.val
  else if a = 0x30025 then s.iop.brkctl.val
  else if a = 0x30026 then Config.revpid.setWidth 32
  else if a = 0x300AE then s.iop.emun
  else
    match brkIndex a with
    | some k => s.iop.brk[k].val
    | none => s.platform.answer

/-- The address is that of a core register (10_state.md R80). -/
def isCoreIop (a : Nat) : Bool :=
  (decide (0x30020 ≤ a) && decide (a ≤ 0x30026) && a != 0x30023) || a == 0x300AE || (brkIndex a).isSome

/-- What a read does beside giving the value: the core has taken the word of EEMUIN; the platform sees a read of a
peripheral register (10_state.md R84, R85; 20_memory.md R195). -/
def noteIopRead (addr : Word) (t : State) : State :=
  if addr.toNat = 0x30020 then t.setIop { t.iop with eemuinFull := false }
  else if isCoreIop addr.toNat then t
  else { t with platform := { t.platform with access := some { addr := addr, data := none } } }

/-- A write of an IOP register: REVPID and the status bits of EEMUSTAT are read-only, but for EEMUOUTIRQEN (bit 9) and the
reserved bits (10_state.md R53, R82, R84), whatever UMODE is; the breakpoint address registers are the core's only with
BRKCTL.UMODE in force (60_exceptions.md R786; log 24); a peripheral's is handed to the platform (20_memory.md R195; log
23). -/
def writeIop (addr : Word) (v : Word) (t : State) : State :=
  let y := t.iop
  let a := addr.toNat
  if a = 0x30020 then t.setIop { y with eemuin := v }
  else if a = 0x30021 then t.setIop { y with eemustat := mergeBits y.eemustat v 0xFFFE4300 }
  else if a = 0x30022 then t.setIop (pushEemuout v y)
  else if a = 0x30024 then t.setIop { y with sysctl := y.sysctl.write v }
  else if a = 0x30025 then t.setIop { y with brkctl := y.brkctl.write v }
  else if a = 0x30026 then t
  else if a = 0x300AE then t.setIop { y with emun := v }
  else
    match brkIndex a with
    | some k => if y.brkctl.eff.getLsbD 25 then t.setIop { y with brk := y.brk.set k (y.brk[k].write v) } else t
    | none => { t with platform := { t.platform with access := some { addr := addr, data := some v } } }

/-! ### Stores -/

/-- What a register puts on the bus: bits 31 to 0, bits 63 to 32 of a long word, and the 48-bit word (20_memory.md R162
to R170). -/
structure StoreData where
  low : Word
  high : Word
  wide : BitVec 48
deriving DecidableEq, Repr

/-- The bus value of a universal register. -/
def storeData (s : State) (u : UReg) : Res StoreData :=
  match u with
  | .r n => .next ⟨s.reg32 .x n, s.reg32 .x (n ^^^ 1), s.reg .x n ++ (0#8)⟩
  | .s n => .next ⟨s.reg32 .y n, s.reg32 .y (n ^^^ 1), s.reg .y n ++ (0#8)⟩
  | .px => .next ⟨s.px1, s.px2, s.px.extractLsb' 16 48⟩
  | u =>
    Res.bind (readUReg s u) fun lo =>
      match u.neighbour.or u.complement with
      | some n => (readUReg s n).map fun hi => ⟨lo, hi, lo ++ (0#16)⟩
      | none => .next ⟨lo, lo, lo ++ (0#16)⟩

/-- The bus value of an immediate (42_group3_immediate_move.md R460). -/
def immediateData (v : Word) : StoreData := ⟨v, v, v ++ (0#16)⟩

/-- One RAM cell; a write to ROM has no effect (20_memory.md R157). -/
def storeCell (c : Nat) (v : BitVec 16) (m : List Host.Cell) : List Host.Cell :=
  if cellRam c then writeCell m c v else m

def storeWord (c : Nat) (v : Word) (m : List Host.Cell) : List Host.Cell :=
  storeCell (c + 1) (v.extractLsb' 16 16) (storeCell c (v.extractLsb' 0 16) m)

/-- Memory after a store. -/
def storeMem (a : Access) (d : StoreData) (m : List Host.Cell) : List Host.Cell :=
  match a with
  | .iop => m
  | .w16 c => storeCell c (d.low.extractLsb' 0 16) m
  | .w32 c => storeWord c d.low m
  | .w64 c c' => storeWord c' d.high (storeWord c d.low m)
  | .w48 c => storeCell (c + 2) (d.wide.extractLsb' 32 16) (storeWord c (d.wide.extractLsb' 0 32) m)
  | .w40 c => storeCell (c + 2) (d.wide.extractLsb' 32 16) (storeWord c (d.wide.extractLsb' 0 32) m)

/-- The cells of an access. -/
def accessCells : Access → List Nat
  | .iop => []
  | .w16 c => [c]
  | .w32 c => [c, c + 1]
  | .w64 c c' => [c, c + 1, c', c' + 1]
  | .w48 c => [c, c + 1, c + 2]
  | .w40 c => [c, c + 1, c + 2]

/-- The cells of RAM that a store wrote, for the rule on modified code (20_memory.md R222). -/
def noteStored (a : Access) (t : State) : State :=
  t.setScratch { t.scratch with stored := t.scratch.stored ++ (accessCells a).filter cellRam }

/-- Store to memory or to an IOP register. -/
def performStore (addr : Word) (a : Access) (d : StoreData) (t : State) : State :=
  match a with
  | .iop => writeIop addr d.low t
  | a => noteStored a (t.setMem (storeMem a d t.mem))

/-! ### Loads -/

/-- A loaded value with its width. -/
inductive LoadData
  | v32 (v : Word)
  | v48 (v : BitVec 48)
  | v40 (v : Ext)
  | v64 (lo hi : Word)
deriving DecidableEq, Repr

/-- A short word in the 32-bit field, zero- or sign-extended by MODE1.SSE (20_memory.md R161). -/
def extendShort (s : State) (v : BitVec 16) : Word := if s.mode1 14 then v.signExtend 32 else v.setWidth 32

/-- The value an access reads, from the memory before the instruction (20_memory.md R211). -/
def loadData (s : State) (addr : Word) (a : Access) : LoadData :=
  match a with
  | .iop => .v32 (readIop s addr)
  | .w16 c => .v32 (extendShort s (readCell s.mem c))
  | .w32 c => .v32 (read32 s.mem c)
  | .w64 c c' => .v64 (read32 s.mem c) (read32 s.mem c')
  | .w48 c => .v48 (read48 s.mem c)
  | .w40 c => .v40 ((read48 s.mem c).extractLsb' 8 40)

/-- Load a register (20_memory.md R161 to R170); 32 bits into the combined PX go to PX1 (R170). -/
def loadUReg (u : UReg) (d : LoadData) (t : State) : Res State :=
  match d with
  | .v32 v => if u = .px then writeUReg .px1 v t else writeUReg u v t
  | .v48 v => .next (t.setPx (v ++ (0#16)))
  | .v40 v =>
    match u.dreg with
    | some (e, n) => .next (t.setReg e n v)
    | none => .next t
  | .v64 lo hi =>
    if u = .px then .next (t.setPx (hi ++ lo))
    else
      Res.bind (writeUReg u lo t) fun t =>
        match u.neighbour with
        | some n => writeUReg n hi t
        | none => .next t

/-! ### `Access` (R353) -/

/-- A transfer was made on the PM bus when `pm` (20_memory.md R220). -/
def notePm (pm : Bool) (t : State) : State := t.setScratch { t.scratch with pmUsed := t.scratch.pmUsed || pm }

/-- An access on a bus: its address for the breakpoint unit, and what a read of an IOP register does (20_memory.md R195; log
24). -/
def noteBus (pm write : Bool) (addr : Word) (t : State) : State :=
  let t := notePm pm
    (t.setScratch { t.scratch with accesses := t.scratch.accesses ++ [{ pm := pm, write := write, addr := addr }] })
  if addr.toNat < 0x40000 ∧ write = false then noteIopRead addr t else t

/-- U64MA and IIRA with their interrupt, of a performed explicit transfer only (R353; 20_memory.md R175, R196). -/
def noteIllegal (s : State) (lw : Bool) (addr : Word) (t : State) : State :=
  let a := addr.toNat
  if a < 0x40000 then (if s.sys.mode2.val.getLsbD 20 then (t.stickX 0x00080000).raise 2 else t)
  else if 0x80000 ≤ a ∧ a < 0x100000 ∧ lw ∧ a % 2 = 1 then
    (if s.sys.mode2.val.getLsbD 21 then (t.stickX 0x00100000).raise 2 else t)
  else t

/-- The side effects of a performed explicit transfer. -/
def noteAccess (s : State) (pm write lw : Bool) (addr : Word) (t : State) : State :=
  noteIllegal s lw addr (noteBus pm write addr t)

/-- The parameters of one transfer of R353. -/
structure Transfer where
  /-- The PM bus, else the DM bus. -/
  pm : Bool
  addr : Word
  /-- The (LW) option. -/
  lw : Bool
  /-- One of the two transfers of a type 1 instruction. -/
  dual : Bool
  /-- The instruction has a condition other than TRUE. -/
  conditional : Bool
  /-- The I register that produced the address. -/
  index : Option RegNum
deriving DecidableEq, Repr

/-- A broadcast load: through I1 with BDCST1 or I9 with BDCST9 (20_memory.md R173). -/
def broadcasts (s : State) (x : Transfer) : Bool :=
  (x.index == some 1 && s.mode1 23) || (x.index == some 9 && s.mode1 22)

/-- The implicit transfer of SIMD mode, `f` of its access, when `go` and where the width has one (R353 step 4). -/
def implicitly (s : State) (go : Bool) (x : Transfer) (k : RegClass) (f : Access → State → Res State) (t : State) :
    Res State :=
  if s.simd && go then
    Res.bind (implicitAccess s x.addr k x.lw) fun a =>
      match a with
      | some a => (f a t).map (notePm x.pm)
      | none => .next t
  else .next t

/-- A conditional SIMD access of a paired register to an IOP address is outside the domain (20_memory.md R172;
93_implementation_defined.md item 4). -/
def pairToIop (s : State) (x : Transfer) : Bool := s.simd && x.conditional && decide (x.addr.toNat < 0x40000)

/-- A store of data `d`, with `dc` for the implicit transfer of SIMD mode; each is made only where its element's condition
holds. A store of a pair to IOP space whose condition is false in both elements is not made and not refused: DESIGN CHOICE
(log 40). -/
def accessStore (s : State) (g : Gates) (x : Transfer) (k : RegClass) (d : StoreData) (dc : Option StoreData)
    (t : State) : Res State :=
  if g.any && dc.isSome && pairToIop s x then .refused .iopConditionalPair
  else
    Res.bind
      (if g.cx then
        (classify s x.addr k x.lw x.dual).map fun a =>
          noteAccess s x.pm true x.lw x.addr (performStore x.addr a d t)
      else .next t) fun t =>
      match dc with
      | some dc => implicitly s g.cy x k (fun a t => .next (performStore x.addr a dc t)) t
      | none => .next t

/-- A store of a universal register. -/
def storeUReg (s : State) (g : Gates) (x : Transfer) (u : UReg) (t : State) : Res State :=
  match u.complement with
  | some c =>
    Res.bind (storeData s u) fun d =>
      Res.bind (storeData s c) fun dc => accessStore s g x u.cls d (some dc) t
  | none => if g.cx then Res.bind (storeData s u) fun d => accessStore s g x u.cls d none t else .next t

/-- A load of a universal register: explicit, broadcast and implicit parts. A broadcast load is one access on the bus, made
where either element takes its data; of the second element alone it is not the explicit transfer. -/
def loadTransfer (s : State) (g : Gates) (x : Transfer) (u : UReg) (t : State) : Res State :=
  let ex := if u.complement.isSome then g.cx else g.any
  let both := u.dreg.isSome && broadcasts s x
  Res.bind
    (if ex || (both && g.cy) then
      Res.bind (classify s x.addr u.cls x.lw x.dual) fun a =>
        let d := loadData s x.addr a
        Res.bind (if ex then loadUReg u d t else .next t) fun t =>
          (match u.complement with
            | some c => if both && g.cy then loadUReg c d t else .next t
            | none => .next t).map fun t =>
              if ex then noteAccess s x.pm false x.lw x.addr t else noteBus x.pm false x.addr t
    else .next t) fun t =>
    match u.complement with
    | some c =>
      if both then .next t else implicitly s g.cy x u.cls (fun a t => loadUReg c (loadData s x.addr a) t) t
    | none => .next t

/-- `Access(bus, addr, dir, U, lw, a)`. -/
def access (s : State) (g : Gates) (x : Transfer) (write : Bool) (u : UReg) (t : State) : Res State :=
  if write then storeUReg s g x u t else loadTransfer s g x u t

/-- A load of a register of the DAG that makes the address is outside the domain (R356). -/
def sameDag (g : Bool) (u : UReg) : Bool :=
  match u with
  | .i n => n.getLsbD 3 == g
  | .m n => n.getLsbD 3 == g
  | .l n => n.getLsbD 3 == g
  | .b n => n.getLsbD 3 == g
  | _ => false

end Sys2Proof.Machine
end

