-- ==== Sys2Proof/Machine/Flags.lean ====
section
/-! DEFINITION. The flags of the computation units: how each unit writes ASTAT and STKY of its element
(10_state.md R56 to R64). -/

namespace Sys2Proof.Machine

/-- The ASTAT register of an element. -/
def State.astat (s : State) : Elem → Latent 32
  | .x => s.sys.astatx
  | .y => s.sys.astaty

/-- The STKY register of an element. -/
def State.stky (s : State) : Elem → Latent 32
  | .x => s.sys.stkyx
  | .y => s.sys.stkyy

/-- A hardware update of ASTAT of an element. -/
def State.setAstat (s : State) (e : Elem) (v : Word) : State :=
  match e with
  | .x => s.setSys { s.sys with astatx := s.sys.astatx.hw v }
  | .y => s.setSys { s.sys with astaty := s.sys.astaty.hw v }

/-- Set bits of STKY of an element, a hardware update (10_state.md R62). -/
def State.stick (s : State) (e : Elem) (bits : Word) : State :=
  match e with
  | .x => s.setSys { s.sys with stkyx := s.sys.stkyx.hw (s.sys.stkyx.val ||| bits) }
  | .y => s.setSys { s.sys with stkyy := s.sys.stkyy.hw (s.sys.stkyy.val ||| bits) }

/-! ## ALU flags (44_alu_fixed.md R520 (e), 45_alu_float.md R561 (f)) -/

/-- The seven ALU flags of ASTAT and the sticky bits to set. -/
structure AluFlags where
  az : Bool
  an : Bool
  av : Bool
  ac : Bool
  as : Bool
  ai : Bool
  af : Bool
  sticky : Word
deriving DecidableEq, Repr

/-- AZ, AV, AN, AC, AS, AI, AF of ASTAT. -/
def aluMask : Word := 0x0000043F

/-- The ALU flags in their places of ASTAT (10_state.md R56). -/
def AluFlags.word (f : AluFlags) : Word :=
  bitIf f.az 0 ||| bitIf f.av 1 ||| bitIf f.an 2 ||| bitIf f.ac 3 ||| bitIf f.as 4 ||| bitIf f.ai 5 ||| bitIf f.af 10

/-- `SetAluFix` on an output `r`; AOS is bit 2 of STKY. -/
def fixFlags (r : Word) (av ac as : Bool) : AluFlags :=
  { az := r == 0, an := r.getLsbD 31, av := av, ac := ac, as := as, ai := false, af := false, sticky := bitIf av 2 }

/-- `SetAluFlt`; AUS, AVS and AIS are bits 0, 1 and 5 of STKY. -/
def fltFlags (az an av as ai au : Bool) : AluFlags :=
  { az := az, an := an, av := av, ac := false, as := as, ai := ai, af := true
    sticky := bitIf au 0 ||| bitIf av 1 ||| bitIf ai 5 }

/-- The flags of a dual add/subtract: the OR of the two (48_multifunction.md R700). -/
def AluFlags.or (f g : AluFlags) : AluFlags :=
  { az := f.az || g.az, an := f.an || g.an, av := f.av || g.av, ac := f.ac || g.ac, as := f.as || g.as
    ai := f.ai || g.ai, af := f.af, sticky := f.sticky ||| g.sticky }

/-- Write the ALU flags of an element; the other bits of ASTAT stay. -/
def writeAluFlags (e : Elem) (f : AluFlags) (t : State) : State :=
  (t.setAstat e (mergeBits (t.astat e).val f.word aluMask)).stick e f.sticky

/-- `CompareAccumulate`: shift `gt` into CACC, whose old contents are `old` (44_alu_fixed.md R527). -/
def compareAccumulate (e : Elem) (old : Word) (gt : Bool) (t : State) : State :=
  t.setAstat e (mergeBits (t.astat e).val (bitIf gt 31 ||| (old >>> 1)) 0xFF000000)

/-! ## Multiplier flags (46_multiplier.md R612, R630) -/

structure MulFlags where
  mn : Bool
  mv : Bool
  mu : Bool
  mi : Bool
  sticky : Word
deriving DecidableEq, Repr

/-- MN, MV, MU, MI of ASTAT. -/
def mulMask : Word := 0x000003C0

def MulFlags.word (f : MulFlags) : Word := bitIf f.mn 6 ||| bitIf f.mv 7 ||| bitIf f.mu 8 ||| bitIf f.mi 9

def writeMulFlags (e : Elem) (f : MulFlags) (t : State) : State :=
  (t.setAstat e (mergeBits (t.astat e).val f.word mulMask)).stick e f.sticky

/-- The bits of an 80-bit result above its 32-bit result, with the sign bit of a signed one (R612). -/
def mulTop (r : Acc) (signed frac : Bool) : Bool :=
  if frac then
    (if signed then r.extractLsb' 63 17 == 0 || r.extractLsb' 63 17 == BitVec.allOnes 17
     else r.extractLsb' 64 16 == 0)
  else
    (if signed then r.extractLsb' 31 49 == 0 || r.extractLsb' 31 49 == BitVec.allOnes 49
     else r.extractLsb' 32 48 == 0)

/-- `SetMulFix`; MOS is bit 6 of STKY. -/
def mulFixFlags (r : Acc) (signed frac mvEnable : Bool) : MulFlags :=
  let mv := mvEnable && !mulTop r signed frac
  let hi := r.extractLsb' 32 48
  { mn := r.getLsbD 79
    mv := mv
    mu := frac && (hi == 0 || (signed && hi == BitVec.allOnes 48)) && r.extractLsb' 0 32 != 0
    mi := false
    sticky := bitIf mv 6 }

/-- The flags of a floating-point multiply; MVS, MUS and MIS are bits 7, 8 and 9 of STKY (R630). -/
def mulFltFlags (v : Ext) (mv mu mi : Bool) : MulFlags :=
  { mn := v.getLsbD 39, mv := mv, mu := mu, mi := mi, sticky := bitIf mv 7 ||| bitIf mu 8 ||| bitIf mi 9 }

/-! ## Shifter flags (47_shifter.md R650 (d)) -/

/-- SV, SZ, SS of ASTAT. -/
def shfMask : Word := 0x00003800

/-- `SetShf`. -/
def writeShfFlags (e : Elem) (sz sv ss : Bool) (t : State) : State :=
  t.setAstat e (mergeBits (t.astat e).val (bitIf sv 11 ||| bitIf sz 12 ||| bitIf ss 13) shfMask)

end Sys2Proof.Machine
end

