-- ==== Sys2Proof/Machine/AluFixed.lean ====
section
/-! DEFINITION. Fixed-point ALU operations (`spec/44_alu_fixed.md`) on one processing element. -/

namespace Sys2Proof.Machine

/-- What the ALU reads of MODE1 and ASTAT. -/
structure AluMode where
  /-- MODE1.ALUSAT. -/
  sat : Bool
  /-- MODE1.TRUNC. -/
  trunc : Bool
  /-- MODE1.RND32. -/
  rnd32 : Bool
  /-- ASTAT.AC of the element. -/
  ci : Bool
deriving DecidableEq, Repr

/-- The modes of an element before the instruction. -/
def aluMode (s : State) (e : Elem) : AluMode :=
  { sat := s.mode1 13, trunc := s.mode1 15, rnd32 := s.mode1 16, ci := (s.astatEff e).getLsbD 3 }

/-- What `AddCore` returns: the result, the overflow and the carry (R520 (d)). -/
structure AddOut where
  r : Word
  ov : Bool
  c : Bool
deriving DecidableEq, Repr

/-- `AddCore(a, b', cin)` (R520 (d)). -/
def addCore (sat : Bool) (a b : Word) (cin : Bool) : AddOut :=
  let sum := a.toNat + b.toNat + cin.toNat
  let c32 := decide (2 ^ 32 ≤ sum)
  let c31 := decide (2 ^ 31 ≤ a.toNat % 2 ^ 31 + b.toNat % 2 ^ 31 + cin.toNat)
  let ov := c32 ^^ c31
  { r := if ov && sat then (if a.getLsbD 31 then 0x80000000 else 0x7FFFFFFF) else .ofNat 32 sum
    ov := ov
    c := c32 }

/-- A result with its flags. -/
structure AluOut where
  r : Ext
  f : AluFlags
deriving DecidableEq, Repr

/-- The outcome of an operation of the adder. -/
def addOut (x : AddOut) : AluOut := { r := x.r.toExt, f := fixFlags x.r x.ov x.c false }

/-- The outcome of an operation that clears AV, AC and AS. -/
def plainOut (r : Word) : AluOut := { r := r.toExt, f := fixFlags r false false false }

/-- `(Rx + Ry)/2` (R525). -/
def fixAverage (trunc : Bool) (a b : Word) : AluOut :=
  let s := a.toInt + b.toInt
  let q := s / 2
  let q := if !trunc && decide (s % 2 = 1) && decide (q % 2 = 1) then q + 1 else q
  let r : Word := .ofInt 32 q
  { r := r.toExt, f := fixFlags r false (decide (2 ^ 32 ≤ a.toNat + b.toNat)) false }

/-- `CLIP Rx BY Ry` (R542). -/
def fixClip (a b : Word) : Word :=
  if a.toInt.natAbs < b.toInt.natAbs then a
  else if 0 ≤ a.toInt then .ofInt 32 b.toInt.natAbs else .ofInt 32 (-(b.toInt.natAbs : Int))

/-- The two-operand operations, R521 to R525 and R536 to R542. -/
def fix2 (m : AluMode) (op : FixOp2) (a b : Word) : AluOut :=
  match op with
  | .add => addOut (addCore m.sat a b false)
  | .sub => addOut (addCore m.sat a (~~~b) true)
  | .addCi => addOut (addCore m.sat a b m.ci)
  | .subCi => addOut (addCore m.sat a (~~~b) m.ci)
  | .avg => fixAverage m.trunc a b
  | .and => plainOut (a &&& b)
  | .or => plainOut (a ||| b)
  | .xor => plainOut (a ^^^ b)
  | .min => plainOut (if a.toInt ≤ b.toInt then a else b)
  | .max => plainOut (if b.toInt ≤ a.toInt then a else b)
  | .clip => plainOut (fixClip a b)

/-- `ABS Rx` (R534). -/
def fixAbs (sat : Bool) (a : Word) : AluOut :=
  if a.getLsbD 31 then
    let x := addCore sat 0 (~~~a) true
    { r := x.r.toExt, f := fixFlags x.r x.ov false true }
  else plainOut a

/-- The one-operand operations, R529 to R535 and R539. -/
def fix1 (m : AluMode) (op : FixOp1) (a : Word) : AluOut :=
  match op with
  | .incCi => addOut (addCore m.sat a 0 m.ci)
  | .decCi => addOut (addCore m.sat a 0xFFFFFFFF m.ci)
  | .inc => addOut (addCore m.sat a 0 true)
  | .dec => addOut (addCore m.sat a 0xFFFFFFFF false)
  | .neg => addOut (addCore m.sat 0 (~~~a) true)
  | .abs => fixAbs m.sat a
  | .pass => plainOut a
  | .not => plainOut (~~~a)

/-- Write an ALU result and its flags. -/
def putAlu (e : Elem) (n : RegNum) (o : AluOut) (t : State) : State := writeAluFlags e o.f (t.setReg e n o.r)

/-- The flags of a compare. -/
def compareFlags (eq lt ai af : Bool) : AluFlags :=
  { az := eq, an := lt, av := false, ac := false, as := false, ai := ai, af := af, sticky := bitIf ai 5 }

/-- A compare: the flags and CACC (R527). -/
def putCompare (s : State) (e : Elem) (eq lt gt ai af : Bool) (t : State) : State :=
  compareAccumulate e (s.astatEff e) gt (writeAluFlags e (compareFlags eq lt ai af) t)

/-- COMP and, when `u`, COMPU (R527, R528). -/
def fixCompare (s : State) (e : Elem) (u : Bool) (a b : Word) (t : State) : State :=
  let lt := if u then decide (a.toNat < b.toNat) else decide (a.toInt < b.toInt)
  putCompare s e (a == b) lt (!(a == b) && !lt) false false t

end Sys2Proof.Machine
end

