-- ==== Sys2Proof/Machine/AluFloat.lean ====
section
/-! DEFINITION. Floating-point formats, rounding and the floating-point ALU operations (`spec/45_alu_float.md`) on one
processing element. A conditioned operand is a 40-bit pattern whose denormals are zeros. -/

namespace Sys2Proof.Machine

/-! ## Formats (R560) -/

def fpSign (v : Ext) : Bool := v.getLsbD 39

/-- The biased exponent. -/
def fpExp (v : Ext) : Nat := (v.extractLsb' 31 8).toNat

/-- The 31-bit fraction. -/
def fpFrac (v : Ext) : BitVec 31 := v.extractLsb' 0 31

/-- The 40-bit pattern of sign, exponent and fraction. -/
def fpPack (s : Bool) (e : Nat) (f : BitVec 31) : Ext := BitVec.ofBool s ++ BitVec.ofNat 8 e ++ f

def fpNan (v : Ext) : Bool := fpExp v == 255 && fpFrac v != 0
def fpInf (v : Ext) : Bool := fpExp v == 255 && fpFrac v == 0

/-- A zero; the exponent 0 is a zero whatever the fraction (R561 (b)). -/
def fpZero (v : Ext) : Bool := fpExp v == 0

def fpZeroOf (s : Bool) : Ext := fpPack s 0 0
def fpInfOf (s : Bool) : Ext := fpPack s 255 0

/-- NORM.MAX at a boundary (R560 (d)). -/
def fpNormMax (rnd32 s : Bool) : Ext := fpPack s 254 (if rnd32 then 0x7FFFFF00 else 0x7FFFFFFF)

/-- QNAN, the result NAN (R560 (d)). -/
def qnan (rnd32 : Bool) : Ext := if rnd32 then 0xFFFFFFFF00 else 0xFFFFFFFFFF

/-- The significand as an integer, hidden bit included; the value is this times two to the power exponent - 158. -/
def fpMant (v : Ext) : Nat := if fpZero v then 0 else 2 ^ 31 + (fpFrac v).toNat

/-- `FpIn`: the low byte cut at the 32-bit boundary, denormals flushed to zero (R561 (a), (b)). -/
def fpIn (rnd32 : Bool) (v : Ext) : Ext :=
  let v := if rnd32 then v &&& 0xFFFFFFFF00 else v
  if fpZero v then fpZeroOf (fpSign v) else v

/-- The sign bit complemented. -/
def fpNegate (v : Ext) : Ext := v ^^^ 0x8000000000

/-- The sign bit replaced. -/
def fpSetSign (s : Bool) (v : Ext) : Ext := BitVec.ofBool s ++ v.extractLsb' 0 39

/-- The magnitude of a pattern that is no NAN: ordered as the magnitude of its value. -/
def fpMag (v : Ext) : Nat := (v.extractLsb' 0 39).toNat

/-- An integer ordered as the extended real value (R570). -/
def fpOrder (v : Ext) : Int := if fpSign v then -(fpMag v : Int) else fpMag v

/-! ## Rounding (R561 (d)) -/

/-- Divide by a power of two, to nearest with ties to even, or toward zero. -/
def shiftRound (trunc : Bool) (m sh : Nat) : Nat :=
  let q := m / 2 ^ sh
  let rem := m % 2 ^ sh
  if !trunc && (decide (2 ^ sh < 2 * rem) || (decide (2 * rem = 2 ^ sh) && decide (q % 2 = 1))) && decide (0 < sh) then
    q + 1
  else q

/-- A floating-point result: the pattern, overflow, underflow, invalid operation. -/
structure FpOut where
  v : Ext
  av : Bool
  au : Bool
  ai : Bool
deriving DecidableEq, Repr

/-- A result without an exception. -/
def FpOut.exact (v : Ext) : FpOut := { v := v, av := false, au := false, ai := false }

/-- The invalid operation. -/
def FpOut.invalid (rnd32 : Bool) : FpOut := { v := qnan rnd32, av := false, au := false, ai := true }

/-- The overflow of rounding: an infinity, or NORM.MAX when truncating. -/
def FpOut.overflow (trunc rnd32 s : Bool) : FpOut :=
  { v := if trunc then fpNormMax rnd32 s else fpInfOf s, av := true, au := false, ai := false }

/-- The underflow: a zero. -/
def FpOut.underflow (s : Bool) : FpOut := { v := fpZeroOf s, av := false, au := true, ai := false }

/-- `FpRound` of the exact value `m * 2 ^ x` with `m` not 0 and sign `s`, at the 32-bit boundary when `b32`. -/
def fpRound (trunc b32 s : Bool) (m : Nat) (x : Int) : FpOut :=
  let p := if b32 then 23 else 31
  let l := m.log2
  let q := if l ≤ p then m * 2 ^ (p - l) else shiftRound trunc m (l - p)
  let e : Int := l + x
  let carry := decide (2 ^ (p + 1) ≤ q)
  let e := if carry then e + 1 else e
  let q := if carry then 2 ^ p else q
  if 127 < e then .overflow trunc b32 s
  else if e < -126 then .underflow s
  else .exact (fpPack s (e + 127).toNat (.ofNat 31 ((q - 2 ^ p) * 2 ^ (31 - p))))

/-- The power of two of a conditioned operand: its value is `fpMant v * 2 ^ fpPow v`. -/
def fpPow (v : Ext) : Int := (fpExp v : Int) - 158

/-! ## Operations (R562 to R589) -/

/-- `FpAdd`, of half the sum when `half` (R562, R566). -/
def fpAdd (m : AluMode) (half : Bool) (x y : Ext) : FpOut :=
  if fpNan x || fpNan y then .invalid m.rnd32
  else if fpInf x && fpInf y && (fpSign x != fpSign y) then .invalid m.rnd32
  else if fpInf x then .exact x
  else if fpInf y then .exact y
  else
    let p := min (fpExp x) (fpExp y)
    let mx : Int := fpMant x * 2 ^ (fpExp x - p)
    let my : Int := fpMant y * 2 ^ (fpExp y - p)
    let t := (if fpSign x then -mx else mx) + (if fpSign y then -my else my)
    if t = 0 then .exact (fpZeroOf (fpSign x && fpSign y && fpZero x && fpZero y))
    else fpRound m.trunc m.rnd32 (decide (t < 0)) t.natAbs ((p : Int) - 158 - (if half then 1 else 0))

/-- The flags of a floating-point result, AN its sign. -/
def FpOut.out (o : FpOut) : AluOut := { r := o.v, f := fltFlags (fpZero o.v) (fpSign o.v) o.av false o.ai o.au }

/-- `ABS (Fx + Fy)`: the sign cleared, AN cleared (R564). -/
def FpOut.absOut (o : FpOut) : AluOut :=
  let v := if o.ai then o.v else fpSetSign false o.v
  { r := v, f := fltFlags (fpZero v) false o.av false o.ai o.au }

/-- A result that is one of the operands, unless one is a NAN (R586 to R589). -/
def fpSelect (m : AluMode) (x y v : Ext) : AluOut :=
  if fpNan x || fpNan y then (FpOut.invalid m.rnd32).out else (FpOut.exact v).out

/-- `SCALB Fx BY Ry` (R575). -/
def fpScalb (m : AluMode) (x : Ext) (k : Word) : FpOut :=
  if fpNan x then .invalid m.rnd32
  else if fpZero x || fpInf x then .exact x
  else
    let e := (fpExp x : Int) + k.toInt
    if 254 < e then .overflow m.trunc m.rnd32 (fpSign x)
    else if e < 1 then .underflow (fpSign x)
    else .exact (fpPack (fpSign x) e.toNat (fpFrac x))

/-- The rounding of a conversion to an integer (R578). -/
inductive FixMode
  | floor | nearest | zero
deriving DecidableEq, Repr

/-- The magnitude `m / 2 ^ sh` of sign `s` as an integer. -/
def roundInt (mode : FixMode) (s : Bool) (m sh : Nat) : Int :=
  match mode with
  | .zero => if s then -(m / 2 ^ sh : Nat) else (m / 2 ^ sh : Nat)
  | .nearest => if s then -(shiftRound false m sh : Int) else shiftRound false m sh
  | .floor => if s then -(((m + 2 ^ sh - 1) / 2 ^ sh : Nat) : Int) else (m / 2 ^ sh : Nat)

/-- The overflow of `ToFix`. -/
def fixOverflow (m : AluMode) (s : Bool) : FpOut :=
  if m.sat then { v := if s then 0x8000000000 else 0x7FFFFFFF00, av := true, au := false, ai := false }
  else { v := qnan m.rnd32, av := true, au := false, ai := true }

/-- `ToFix` (R578). A shift by 40 or more leaves less than half of one, so the shift is cut at 40. -/
def toFix (m : AluMode) (mode : FixMode) (x : Ext) (scale : Int) : FpOut :=
  if fpNan x then .invalid m.rnd32
  else if fpZero x then .exact 0
  else if fpInf x || decide (157 < (fpExp x : Int) + scale) then fixOverflow m (fpSign x)
  else
    let e := (fpExp x : Int) + scale
    let i := roundInt mode (fpSign x) (fpMant x) (min (158 - e).toNat 40)
    if i = 2 ^ 31 then fixOverflow m (fpSign x)
    else { v := Word.toExt (.ofInt 32 i), av := false, au := decide (e < 1), ai := false }

/-- The flags of a fixed-point result of a floating-point operation. -/
def FpOut.fixOut (o : FpOut) : AluOut :=
  { r := o.v, f := fltFlags (o.v.word == 0) (fpSign o.v) o.av false o.ai o.au }

/-- The mode of FIX: toward minus infinity when truncating (R578). -/
def fixMode (m : AluMode) : FixMode := if m.trunc then .floor else .nearest

/-- `FLOAT Rx BY Ry`, to a 40-bit boundary always (R582). -/
def fpFloat (m : AluMode) (a : Word) (k : Int) : FpOut :=
  if a = 0 then .exact 0 else fpRound m.trunc false (a.getLsbD 31) a.toInt.natAbs k

/-- `MANT Fx` (R576). -/
def fpMantissa (x : Ext) : AluOut :=
  let bad := fpNan x || fpInf x
  let r : Word := if bad then 0xFFFFFFFF else .ofNat 32 (fpMant x)
  { r := r.toExt, f := fltFlags (r == 0) false false (fpSign x) bad false }

/-- `LOGB Fx` (R577). -/
def fpLogb (m : AluMode) (x : Ext) : FpOut :=
  if fpNan x then .invalid m.rnd32
  else if fpInf x then { v := if m.sat then 0x7FFFFFFF00 else 0x7F80000000, av := true, au := false, ai := false }
  else if fpZero x then { v := if m.sat then 0x8000000000 else 0xFF80000000, av := true, au := false, ai := false }
  else .exact (Word.toExt (.ofInt 32 ((fpExp x : Int) - 127)))

/-- The integer square root of a number below 2^100. -/
def isqrt (n : Nat) : Nat :=
  (List.range 50).foldr (fun k r => if (r + 2 ^ k) * (r + 2 ^ k) ≤ n then r + 2 ^ k else r) 0

/-- An entry from `lo` to `hi` of a seed table, `lo` brought up to a number with a low byte of 0, so that the seed stays
in range when its low byte is cut (log 11). -/
def seedEntry (lo hi choice : Nat) : BitVec 31 :=
  let lo := (lo + 255) / 256 * 256
  .ofNat 31 (lo + choice % (hi - lo + 1))

/-- `RECIPS_ROM`: of index `i` a fraction that makes the seed of every operand with this index, of mantissas from 1 + i/128
to below 1 + (i + 1)/128, differ from the reciprocal by less than 2^-8 of it (R584; log 11). -/
def recipsRom (i : BitVec 7) : BitVec 31 :=
  let k := i.toNat
  let most := (129 + k) * 2 ^ 24 - 1
  seedEntry (255 * 2 ^ 31 / (128 + k) + 1 - 2 ^ 31) (min ((257 * 2 ^ 55 - 1) / most - 2 ^ 31) (2 ^ 31 - 1))
    (Config.recipsChoice i)

/-- `RSQRTS_ROM`: the top bit of the index tells an even exponent from an odd one, for which the mantissa counts twice; a
fraction that makes the seed differ from the reciprocal square root by less than 2^-4 of it (R585; log 11). -/
def rsqrtsRom (i : BitVec 7) : BitVec 31 :=
  let j := (i.extractLsb' 0 6).toNat
  let k := if i.getLsbD 6 then 1 else 2
  seedEntry (isqrt (225 * 2 ^ 62 / ((64 + j) * k)) + 1 - 2 ^ 31)
    (min (isqrt ((289 * 2 ^ 87 - 1) / (((65 + j) * 2 ^ 25 - 1) * k)) - 2 ^ 31) (2 ^ 31 - 1)) (Config.rsqrtsChoice i)

/-- A seed, its low byte cut at the 32-bit boundary (R561 (j)). -/
def fpSeed (m : AluMode) (v : Ext) : Ext := if m.rnd32 then v &&& 0xFFFFFFFF00 else v

/-- `RECIPS Fx`; AN is the sign of the operand (R584). -/
def fpRecips (m : AluMode) (x : Ext) : AluOut :=
  if fpNan x then { r := qnan m.rnd32, f := fltFlags false (fpSign x) false false true false }
  else if fpZero x then { r := fpInfOf (fpSign x), f := fltFlags false (fpSign x) true false false false }
  else if 252 < fpExp x then { r := fpZeroOf (fpSign x), f := fltFlags true (fpSign x) false false false false }
  else
    let v := fpPack (fpSign x) (253 - fpExp x) (recipsRom ((fpFrac x).extractLsb' 24 7))
    { r := fpSeed m v, f := fltFlags false (fpSign x) false false false false }

/-- `RSQRTS Fx` (R585). -/
def fpRsqrts (m : AluMode) (x : Ext) : AluOut :=
  if fpNan x || (fpSign x && !fpZero x) then { r := qnan m.rnd32, f := fltFlags false false false false true false }
  else if fpZero x then { r := fpInfOf (fpSign x), f := fltFlags false (fpSign x) true false false false }
  else if fpInf x then { r := 0, f := fltFlags true false false false false false }
  else
    let e := -(((fpExp x : Int) - 127) / 2) - 1 + 127
    let index : BitVec 7 := BitVec.ofNat 1 (fpExp x) ++ (fpFrac x).extractLsb' 25 6
    { r := fpSeed m (fpPack false e.toNat (rsqrtsRom index))
      f := fltFlags false false false false false false }

/-- The smaller operand; of equal ones, one with the sign set (R587). -/
def fpMin (x y : Ext) : Ext :=
  if fpOrder x < fpOrder y then x else if fpOrder y < fpOrder x then y else if fpSign y then y else x

/-- The larger operand; of equal ones, one with the sign clear (R588). -/
def fpMax (x y : Ext) : Ext :=
  if fpOrder y < fpOrder x then x else if fpOrder x < fpOrder y then y else if fpSign x then y else x

/-- `CLIP Fx BY Fy` (R589). -/
def fpClip (x y : Ext) : Ext := if fpMag x < fpMag y then x else fpSetSign (fpSign x) y

/-- The two-operand operations: `x` and `y` the registers, conditioned here. -/
def flt2 (m : AluMode) (op : FltOp2) (x y : Ext) : AluOut :=
  let fx := fpIn m.rnd32 x
  let fy := fpIn m.rnd32 y
  match op with
  | .add => (fpAdd m false fx fy).out
  | .sub => (fpAdd m false fx (fpNegate fy)).out
  | .absAdd => (fpAdd m false fx fy).absOut
  | .absSub => (fpAdd m false fx (fpNegate fy)).absOut
  | .avg => (fpAdd m true fx fy).out
  | .scalb => (fpScalb m fx y.word).out
  | .fixBy => (toFix m (fixMode m) fx y.word.toInt).fixOut
  | .truncBy => (toFix m .zero fx y.word.toInt).fixOut
  | .floatBy => (fpFloat m x.word y.word.toInt).out
  | .copysign => fpSelect m fx fy (fpSetSign (fpSign fy) fx)
  | .min => fpSelect m fx fy (fpMin fx fy)
  | .max => fpSelect m fx fy (fpMax fx fy)
  | .clip => fpSelect m fx fy (fpClip fx fy)

/-- `ABS Fx` (R572): AN cleared, AS the sign of the operand. -/
def fpAbs (m : AluMode) (x : Ext) : AluOut :=
  if fpNan x then { r := qnan m.rnd32, f := fltFlags false false false (fpSign x) true false }
  else { r := fpSetSign false x, f := fltFlags (fpZero x) false false (fpSign x) false false }

/-- `RND Fx` to the 32-bit boundary (R574). -/
def fpRnd (m : AluMode) (x : Ext) : FpOut :=
  if fpNan x then .invalid m.rnd32
  else if fpZero x || fpInf x then .exact x
  else fpRound m.trunc true (fpSign x) (fpMant x) (fpPow x)

/-- The one-operand operations. -/
def flt1 (m : AluMode) (op : FltOp1) (x : Ext) : AluOut :=
  let fx := fpIn m.rnd32 x
  match op with
  | .neg => fpSelect m fx fx (fpNegate fx)
  | .abs => fpAbs m fx
  | .pass => fpSelect m fx fx fx
  | .rnd => (fpRnd m fx).out
  | .mant => fpMantissa fx
  | .logb => (fpLogb m fx).fixOut
  | .fix => (toFix m (fixMode m) fx 0).fixOut
  | .trunc => (toFix m .zero fx 0).fixOut
  | .float => (fpFloat m x.word 0).out
  | .recips => fpRecips m fx
  | .rsqrts => fpRsqrts m fx

/-- `COMP(Fx, Fy)`; a NAN compares as nothing (R570). -/
def fltCompare (s : State) (e : Elem) (m : AluMode) (x y : Ext) (t : State) : State :=
  let fx := fpIn m.rnd32 x
  let fy := fpIn m.rnd32 y
  let bad := fpNan fx || fpNan fy
  putCompare s e (!bad && decide (fpOrder fx = fpOrder fy)) (!bad && decide (fpOrder fx < fpOrder fy))
    (!bad && decide (fpOrder fy < fpOrder fx)) bad true t

end Sys2Proof.Machine
end

