-- ==== Sys2Proof/Machine/Multiplier.lean ====
section
/-! DEFINITION. Multiplier operations (`spec/46_multiplier.md`) on one processing element. -/

namespace Sys2Proof

/-- The x operand is signed: the first letter of the modifier (46_multiplier.md R611). -/
def MulMod.xSigned : MulMod → Bool
  | .ssi => true | .sui => true | .usi => false | .uui => false
  | .ssf => true | .suf => true | .usf => false | .uuf => false
  | .ssfr => true | .sufr => true | .usfr => false | .uufr => false

/-- The y operand is signed: the second letter of the modifier (46_multiplier.md R611). -/
def MulMod.ySigned : MulMod → Bool
  | .ssi => true | .sui => false | .usi => true | .uui => false
  | .ssf => true | .suf => false | .usf => true | .uuf => false
  | .ssfr => true | .sufr => false | .usfr => true | .uufr => false

/-- The operands are fractional. -/
def MulMod.frac : MulMod → Bool
  | .ssi => false | .sui => false | .usi => false | .uui => false
  | _ => true

/-- The result is rounded. -/
def MulMod.round : MulMod → Bool
  | .ssfr => true | .sufr => true | .usfr => true | .uufr => true
  | _ => false

/-- The result is signed. -/
def MulMod.signed (md : MulMod) : Bool := md.xSigned || md.ySigned

def SatMod.signed : SatMod → Bool
  | .si => true | .sf => true | .ui => false | .uf => false

def SatMod.frac : SatMod → Bool
  | .sf => true | .uf => true | .si => false | .ui => false

/-- The part is of the background register MRB. -/
def MrPart.background : MrPart → Bool
  | .mr0b => true | .mr1b => true | .mr2b => true
  | .mr0f => false | .mr1f => false | .mr2f => false

end Sys2Proof

namespace Sys2Proof.Machine

/-! ## The result registers (R610 (b); 10_state.md R38) -/

/-- The register that MRF or, when `bg`, MRB names under MODE1.SRCU. -/
def State.mr (s : State) (e : Elem) (bg : Bool) : Acc := if bg ^^ s.mode1 2 then (s.pe e).mrb else (s.pe e).mrf

def State.setMr (s : State) (e : Elem) (bg : Bool) (v : Acc) : State :=
  if bg ^^ s.mode1 2 then s.setPe e { s.pe e with mrb := v } else s.setPe e { s.pe e with mrf := v }

/-! ## Fixed-point arithmetic -/

/-- `Product80` (R611). -/
def product80 (md : MulMod) (x y : Word) : Acc :=
  let vx : Int := if md.xSigned then x.toInt else x.toNat
  let vy : Int := if md.ySigned then y.toInt else y.toNat
  let p := vx * vy
  .ofInt 80 (if md.frac && md.xSigned && md.ySigned then 2 * p else p)

/-- `Round80` (R613). -/
def round80 (v : Acc) : Acc :=
  let q := v.extractLsb' 32 48
  let low := v.extractLsb' 0 32
  let up := decide (0x80000000 < low.toNat) || (low == 0x80000000 && q.getLsbD 0)
  (if up then q + 1 else q) ++ (0#32)

/-- The part of a result that goes to a data register (R610 (c)). -/
def mulWord (frac : Bool) (r : Acc) : Word := if frac then r.extractLsb' 32 32 else r.extractLsb' 0 32

/-- The 80-bit result of a multiply added to or subtracted from `acc` (R615, R620). -/
def multiply (md : MulMod) (sub : Bool) (acc : Acc) (x y : Word) : Acc :=
  let p := product80 md x y
  let r := if sub then acc - p else acc + p
  if md.round then round80 r else r

/-- A fixed-point result to a data register. -/
def putMulReg (e : Elem) (n : RegNum) (r : Acc) (signed frac mvEnable : Bool) (t : State) : State :=
  writeMulFlags e (mulFixFlags r signed frac mvEnable) (t.setReg32 e n (mulWord frac r))

/-- A fixed-point result to a result register. -/
def putMulAcc (e : Elem) (bg : Bool) (r : Acc) (signed frac mvEnable : Bool) (t : State) : State :=
  writeMulFlags e (mulFixFlags r signed frac mvEnable) (t.setMr e bg r)

/-- The multiplies whose result goes to a data register: R615, R621, R622, R625, R626. -/
def mulToReg (s : State) (e : Elem) (op : MulRegOp) (md : MulMod) (n x y : RegNum) (t : State) : State :=
  let a := s.reg32 e x
  let b := s.reg32 e y
  let r :=
    match op with
    | .mul => multiply md false 0 a b
    | .addF => multiply md false (s.mr e false) a b
    | .addB => multiply md false (s.mr e true) a b
    | .subF => multiply md true (s.mr e false) a b
    | .subB => multiply md true (s.mr e true) a b
  putMulReg e n r md.signed md.frac true t

/-- The multiplies whose result goes to a result register: R616, R617, R623, R624, R627, R628. -/
def mulToAcc (s : State) (e : Elem) (op : MulAccOp) (md : MulMod) (x y : RegNum) (t : State) : State :=
  let a := s.reg32 e x
  let b := s.reg32 e y
  match op with
  | .mulF => putMulAcc e false (multiply md false 0 a b) md.signed md.frac true t
  | .mulB => putMulAcc e true (multiply md false 0 a b) md.signed md.frac true t
  | .addF => putMulAcc e false (multiply md false (s.mr e false) a b) md.signed md.frac true t
  | .addB => putMulAcc e true (multiply md false (s.mr e true) a b) md.signed md.frac true t
  | .subF => putMulAcc e false (multiply md true (s.mr e false) a b) md.signed md.frac true t
  | .subB => putMulAcc e true (multiply md true (s.mr e true) a b) md.signed md.frac true t

/-- The saturated value of a result register (R632). -/
def saturate80 (fmt : SatMod) (v : Acc) : Acc :=
  let bits := if fmt.frac then 64 else 32
  if fmt.signed then
    if (2 : Int) ^ (bits - 1) ≤ v.toInt then .ofInt 80 (2 ^ (bits - 1) - 1)
    else if v.toInt < -(2 ^ (bits - 1)) then .ofInt 80 (-(2 ^ (bits - 1))) else v
  else if 2 ^ bits ≤ v.toNat then .ofNat 80 (2 ^ bits - 1) else v

/-- `Rn = SAT MRF` or MRB. -/
def satToReg (s : State) (e : Elem) (bg : Bool) (fmt : SatMod) (n : RegNum) (t : State) : State :=
  putMulReg e n (saturate80 fmt (s.mr e bg)) fmt.signed fmt.frac false t

/-- `MRF = SAT MRF` or of MRB. -/
def satToAcc (s : State) (e : Elem) (bg : Bool) (fmt : SatMod) (t : State) : State :=
  putMulAcc e bg (saturate80 fmt (s.mr e bg)) fmt.signed fmt.frac false t

/-- `Rn = RND MRF` or MRB (R634). -/
def rndToReg (s : State) (e : Elem) (bg sgn : Bool) (n : RegNum) (t : State) : State :=
  putMulReg e n (round80 (s.mr e bg)) sgn true true t

/-- `MRF = RND MRF` or of MRB (R634). -/
def rndToAcc (s : State) (e : Elem) (bg sgn : Bool) (t : State) : State :=
  putMulAcc e bg (round80 (s.mr e bg)) sgn true true t

/-- `MRF = 0` or `MRB = 0`; no flag (R636). -/
def clearAcc (e : Elem) (bg : Bool) (t : State) : State := t.setMr e bg 0

/-- The 32 bits that a part of a result register gives a data register; MR2 is sign-extended (R640). -/
def mrRead (sel : MrPart) (m : Acc) : Word :=
  match sel with
  | .mr0f => m.extractLsb' 0 32
  | .mr0b => m.extractLsb' 0 32
  | .mr1f => m.extractLsb' 32 32
  | .mr1b => m.extractLsb' 32 32
  | .mr2f => (m.extractLsb' 64 16).signExtend 32
  | .mr2b => (m.extractLsb' 64 16).signExtend 32

/-- A result register after a write of a part: MR1 is sign-extended into MR2 (R640). -/
def mrWrite (sel : MrPart) (d : Word) (m : Acc) : Acc :=
  match sel with
  | .mr0f => m.extractLsb' 32 48 ++ d
  | .mr0b => m.extractLsb' 32 48 ++ d
  | .mr1f => d.signExtend 48 ++ m.extractLsb' 0 32
  | .mr1b => d.signExtend 48 ++ m.extractLsb' 0 32
  | .mr2f => d.extractLsb' 0 16 ++ m.extractLsb' 0 64
  | .mr2b => d.extractLsb' 0 16 ++ m.extractLsb' 0 64

/-- `Rn = MRxF` or MRxB. -/
def mrToReg (s : State) (e : Elem) (sel : MrPart) (n : RegNum) (t : State) : State :=
  t.setReg32 e n (mrRead sel (s.mr e sel.background))

/-- `MRxF = Rn` or MRxB. -/
def regToMr (s : State) (e : Elem) (sel : MrPart) (n : RegNum) (t : State) : State :=
  t.setMr e sel.background (mrWrite sel (s.reg32 e n) (s.mr e sel.background))

/-! ## Floating-point multiply (R630) -/

def fpMul (m : AluMode) (x y : Ext) : FpOut :=
  let s := fpSign x ^^ fpSign y
  if fpNan x || fpNan y then .invalid m.rnd32
  else if (fpInf x && fpZero y) || (fpZero x && fpInf y) then .invalid m.rnd32
  else if fpInf x || fpInf y then .exact (fpInfOf s)
  else if fpZero x || fpZero y then .exact (fpZeroOf s)
  else fpRound m.trunc m.rnd32 s (fpMant x * fpMant y) (fpPow x + fpPow y)

/-- `Fn = Fx * Fy`. -/
def fmulToReg (s : State) (e : Elem) (n x y : RegNum) (t : State) : State :=
  let m := aluMode s e
  let o := fpMul m (fpIn m.rnd32 (s.reg e x)) (fpIn m.rnd32 (s.reg e y))
  writeMulFlags e (mulFltFlags o.v o.av o.au o.ai) (t.setReg e n o.v)

end Sys2Proof.Machine
end

