-- ==== Sys2Proof/Machine/Shifter.lean ====
section
/-! DEFINITION. Shifter operations and the bit FIFO (`spec/47_shifter.md`) on one processing element. -/

namespace Sys2Proof.Machine

/-! ## Shifts (R651 to R656) -/

/-- `LSh`. -/
def lsh (x : Word) (s : Int) : Word :=
  if 0 ≤ s then (if 32 ≤ s then 0 else x <<< s.toNat) else if 32 ≤ -s then 0 else x >>> (-s).toNat

/-- `ASh`. -/
def ash (x : Word) (s : Int) : Word :=
  if 0 ≤ s then lsh x s else if 32 ≤ -s then x.sshiftRight 31 else x.sshiftRight (-s).toNat

/-- `Rot`. -/
def rotl (x : Word) (s : Int) : Word := x.rotateLeft (s % 32).toNat

/-- What a shifter operation gives: its 32-bit result, SZ, SV and SS. -/
structure ShfOut where
  r : Word
  sz : Bool
  sv : Bool
  ss : Bool
deriving DecidableEq, Repr

/-- The single bit of BCLR, BSET and BTGL; none outside the word (R657 to R659). -/
def bitMask (p : Int) : Word := if 0 ≤ p ∧ p ≤ 31 then 1#32 <<< p.toNat else 0

/-- The operations with a count `n`: `x` the operand, `z` the old contents of the destination (R652 to R659). -/
def shf2 (op : ShiftOp) (x z : Word) (n : Int) : ShfOut :=
  let l := decide (0 < n)
  let off := decide (31 < n)
  match op with
  | .lshift => { r := lsh x n, sz := lsh x n == 0, sv := l, ss := false }
  | .orLshift => { r := z ||| lsh x n, sz := lsh x n == 0, sv := l, ss := false }
  | .ashift => { r := ash x n, sz := ash x n == 0, sv := l, ss := false }
  | .orAshift => { r := z ||| ash x n, sz := ash x n == 0, sv := l, ss := false }
  | .rot => { r := rotl x n, sz := rotl x n == 0, sv := false, ss := false }
  | .bclr => { r := x &&& ~~~bitMask n, sz := (x &&& ~~~bitMask n) == 0, sv := off, ss := false }
  | .bset => { r := x ||| bitMask n, sz := (x ||| bitMask n) == 0, sv := off, ss := false }
  | .btgl => { r := x ^^^ bitMask n, sz := (x ^^^ bitMask n) == 0, sv := off, ss := false }

/-! ## Fields (R661 to R666) -/

/-- The low `n` bits of a word, all of it from 32 up. -/
def lowBits (x : Word) (n : Nat) : Word := if 32 ≤ n then x else x &&& .ofNat 32 (2 ^ n - 1)

/-- The bits of a word from `n` up. -/
def highMask (n : Nat) : Word := if 32 ≤ n then 0 else ~~~(.ofNat 32 (2 ^ n - 1))

/-- `Dep`. -/
def deposit (x : Word) (bit6 len6 : Nat) : Word := lsh (lowBits x len6) bit6

/-- `DepSE`. -/
def depositSe (x : Word) (bit6 len6 : Nat) : Word :=
  if 1 ≤ len6 ∧ bit6 + len6 ≤ 32 ∧ x.getLsbD (len6 - 1) = true then deposit x bit6 len6 ||| highMask (bit6 + len6)
  else deposit x bit6 len6

/-- `Ext`. -/
def extract (x : Word) (bit6 len6 : Nat) : Word := lowBits (lsh x (-(bit6 : Int))) len6

/-- FEXT with sign extension (R666). -/
def extractSe (x : Word) (bit6 len6 : Nat) : Word :=
  if 1 ≤ len6 ∧ bit6 + len6 ≤ 32 ∧ x.getLsbD (bit6 + len6 - 1) = true then extract x bit6 len6 ||| highMask len6
  else extract x bit6 len6

/-- The field operations; `y` holds bit6 in bits 5 to 0 and len6 in bits 11 to 6 (R651 (b)). -/
def shfField (op : FieldOp) (x z : Word) (y : BitVec 12) : ShfOut :=
  let bit6 := (y.extractLsb' 0 6).toNat
  let len6 := (y.extractLsb' 6 6).toNat
  let r :=
    match op with
    | .fdep => deposit x bit6 len6
    | .orFdep => z ||| deposit x bit6 len6
    | .fdepSe => depositSe x bit6 len6
    | .orFdepSe => z ||| depositSe x bit6 len6
    | .fext => extract x bit6 len6
    | .fextSe => extractSe x bit6 len6
  { r := r, sz := r == 0, sv := decide (32 < len6 + bit6), ss := false }

/-! ## Exponents and leading bits (R667 to R670) -/

/-- The leading zeros of the low `n` bits of a word, counted down from bit `n - 1`. -/
def leadZerosFrom (x : Word) : Nat → Nat
  | 0 => 0
  | n + 1 => if x.getLsbD n then 0 else leadZerosFrom x n + 1

/-- `lead(x, b)`. -/
def lead (x : Word) (b : Bool) : Nat := leadZerosFrom (if b then ~~~x else x) 32

/-! ## The 16-bit floating-point format (R675, R676) -/

/-- An FPACK result with its overflow; `FPACK_ROUND` is to nearest with ties to even (log 12). -/
def fpackOf (w : Word) : BitVec 16 × Bool :=
  let s : BitVec 1 := w.extractLsb' 31 1
  let e := (w.extractLsb' 23 8).toNat
  let f := (w.extractLsb' 0 23).toNat
  let most : BitVec 16 := s ++ (0x7FFF#15)
  if 135 < e then (most, true)
  else if 120 < e then
    let q := shiftRound false f 12 + (e - 120) * 2048
    if 2 ^ 15 ≤ q then (most, true) else (s ++ BitVec.ofNat 15 q, false)
  else if 109 < e then (s ++ BitVec.ofNat 15 (shiftRound false (2 ^ 23 + f) (133 - e)), false)
  else (s ++ (0#15), false)

/-- FUNPACK of a 16-bit value. -/
def funpackOf (h : BitVec 16) : Word :=
  let s : BitVec 1 := h.extractLsb' 15 1
  let e := (h.extractLsb' 11 4).toNat
  let f := h.extractLsb' 0 11
  if e ≠ 0 then s ++ BitVec.ofNat 8 (e + 120) ++ f ++ (0#12)
  else if f = 0 then s ++ (0#31)
  else
    let n := leadZerosFrom (f.setWidth 32) 11
    s ++ BitVec.ofNat 8 (120 - n) ++ BitVec.ofNat 23 (f.toNat * 2 ^ (13 + n))

/-- The one-operand operations; `av` is ASTAT.AV before the instruction. -/
def shf1 (op : ShiftOp1) (av : Bool) (x : Word) : ShfOut :=
  let sign := x.getLsbD 31
  let e : Int := 1 - (lead x sign : Int)
  match op with
  | .exp => { r := .ofInt 32 e, sz := decide (e = 0), sv := false, ss := sign }
  | .expEx =>
    let e := if av then 1 else e
    { r := .ofInt 32 e, sz := decide (e = 0), sv := false, ss := av ^^ sign }
  | .leftz => { r := .ofNat 32 (lead x false), sz := sign, sv := lead x false == 32, ss := false }
  | .lefto => { r := .ofNat 32 (lead x true), sz := !sign, sv := lead x true == 32, ss := false }
  | .fpack => { r := (fpackOf x).1.setWidth 32, sz := false, sv := (fpackOf x).2, ss := false }
  | .funpack => { r := funpackOf (x.extractLsb' 0 16), sz := false, sv := false, ss := false }

/-! ## Writing results -/

/-- Write a shifter result and its flags. -/
def putShf (e : Elem) (n : RegNum) (o : ShfOut) (t : State) : State :=
  writeShfFlags e o.sz o.sv o.ss (t.setReg32 e n o.r)

/-- `BTST` (R660). -/
def bitTest (e : Elem) (x : Word) (p : Int) (t : State) : State :=
  writeShfFlags e ((x &&& bitMask p) == 0) (decide (31 < p)) false t

/-! ## The bit FIFO (R680 to R684) -/

/-- The free value of an undefined bit FIFO (log 8). -/
def freeFifo (s : State) (e : Elem) : Long :=
  match e with
  | .x => Config.freeLong 0 s.steps
  | .y => Config.freeLong 1 s.steps

/-- The free value of an undefined write pointer. -/
def freePointer (s : State) (e : Elem) : BitVec 7 :=
  match e with
  | .x => (s.free .bffwrpX).setWidth 7
  | .y => (s.free .bffwrpY).setWidth 7

/-- The free value of an undefined extract. -/
def freeExtract (s : State) (e : Elem) : Word :=
  match e with
  | .x => s.free .bitextX
  | .y => s.free .bitextY

def State.setFifo (s : State) (e : Elem) (b : Long) (p : BitVec 7) : State :=
  s.setPe e { s.pe e with bff := b, bffwrp := p }

/-- `BITDEP` of `n` bits of `x` (R681). -/
def bitDeposit (s : State) (e : Elem) (x : Word) (n : Nat) (t : State) : State :=
  let p := s.pe e
  let wp := p.bffwrp.toNat
  if 32 < n ∨ 64 < wp + n then writeShfFlags e false true false (t.setFifo e (freeFifo s e) (freePointer s e))
  else
    writeShfFlags e false false false
      (t.setFifo e (p.bff ||| ((lowBits x n).setWidth 64 <<< (64 - wp - n))) (p.bffwrp + .ofNat 7 n))

/-- `BITEXT` of `n` bits, without update when `nu`: the top `n` bits of the FIFO, more than it holds too (R682, vector Q8;
log 37). With a length above 32 or a write pointer above 64 the bits read are any value, and with these or a length above
what the FIFO holds FIFO and pointer are, where they are updated (R682, R684; 93_implementation_defined.md items 2 and
3). -/
def bitExtract (s : State) (e : Elem) (nu : Bool) (rn : RegNum) (n : Nat) (t : State) : State :=
  let p := s.pe e
  let wp := p.bffwrp.toNat
  let bad := decide (32 < n) || decide (wp < n)
  let r : Word :=
    if 32 < n ∨ 64 < wp then freeExtract s e else (p.bff >>> (64 - n)).setWidth 32
  let t := t.setReg32 e rn r
  let t :=
    if nu then t
    else if bad || decide (64 < wp) then t.setFifo e (freeFifo s e) (freePointer s e)
    else t.setFifo e (p.bff <<< n) (p.bffwrp - .ofNat 7 n)
  writeShfFlags e (r == 0) bad false t

/-- `Rn = BFFWRP` (R683). -/
def readPointer (s : State) (e : Elem) (rn : RegNum) (t : State) : State :=
  writeShfFlags e false false false (t.setReg32 e rn ((s.pe e).bffwrp.setWidth 32))

/-- `BFFWRP = v` (R684). -/
def writePointer (s : State) (e : Elem) (v : BitVec 7) (t : State) : State :=
  writeShfFlags e false (decide (64 < v.toNat)) false (t.setFifo e (s.pe e).bff v)

/-! ## The operations on one element -/

/-- The shift-immediate operations (R690). -/
def shiftImmElem (s : State) (e : Elem) (sh : ShiftImm) (t : State) : State :=
  match sh with
  | .by8 op data n x => putShf e n (shf2 op (s.reg32 e x) (s.reg32 e n) data.toInt) t
  | .btst8 data x => bitTest e (s.reg32 e x) data.toInt t
  | .field op imm n x => putShf e n (shfField op (s.reg32 e x) (s.reg32 e n) imm) t
  | .bitdep12 imm x => bitDeposit s e (s.reg32 e x) (imm.extractLsb' 0 6).toNat t
  | .bitext12 nu imm n => bitExtract s e nu n (imm.extractLsb' 0 6).toNat t
  | .bffwrp7 data => writePointer s e (data.extractLsb' 0 7) t

end Sys2Proof.Machine
end

