-- ==== Sys2Proof/Machine/Multifunction.lean ====
section
/-! DEFINITION. Multifunction computations (`spec/48_multifunction.md`) and `Compute(pe)`, the compute field of an
instruction (40_group1_compute_move.md R352). -/

namespace Sys2Proof.Machine

/-! ## Dual add and subtract (R700 to R702) -/

/-- Write the sum and the difference, and the flags of both. -/
def putDual (e : Elem) (ra rs : RegNum) (a d : AluOut) (t : State) : State :=
  writeAluFlags e (a.f.or d.f) ((t.setReg e ra a.r).setReg e rs d.r)

/-- `Ra = Rx + Ry, Rs = Rx - Ry` (R701). -/
def dualFix (s : State) (e : Elem) (ra rs x y : RegNum) (t : State) : State :=
  let m := aluMode s e
  putDual e ra rs (fix2 m .add (s.reg32 e x) (s.reg32 e y)) (fix2 m .sub (s.reg32 e x) (s.reg32 e y)) t

/-- `Fa = Fx + Fy, Fs = Fx - Fy` (R702). -/
def dualFlt (s : State) (e : Elem) (ra rs x y : RegNum) (t : State) : State :=
  let m := aluMode s e
  putDual e ra rs (flt2 m .add (s.reg e x) (s.reg e y)) (flt2 m .sub (s.reg e x) (s.reg e y)) t

/-! ## Multiplier and ALU (R705 to R711) -/

/-- The multiplier x input: R0 to R3. -/
def mulX (k : BitVec 2) : RegNum := 0#2 ++ k

/-- The multiplier y input: R4 to R7. -/
def mulY (k : BitVec 2) : RegNum := 1#2 ++ k

/-- The ALU x input: R8 to R11. -/
def aluX (k : BitVec 2) : RegNum := 2#2 ++ k

/-- The ALU y input: R12 to R15. -/
def aluY (k : BitVec 2) : RegNum := 3#2 ++ k

/-- The fixed-point ALU half. -/
def parFix : ParOp → FixOp2
  | .add => .add
  | .sub => .sub
  | .avg => .avg

/-- The floating-point ALU half. -/
def fparFlt : FParOp → FltOp2
  | .add => .add
  | .sub => .sub
  | .floatBy => .floatBy
  | .fixBy => .fixBy
  | .avg => .avg
  | .max => .max
  | .min => .min

/-- The multiplier half with its result in a data register. -/
def parMulReg : ParMul → MulRegOp
  | .mul => .mul
  | .add => .addF
  | .sub => .subF

/-- The two-operand fixed-point ALU operation on registers. -/
def aluFix2 (s : State) (e : Elem) (op : FixOp2) (n x y : RegNum) (t : State) : State :=
  putAlu e n (fix2 (aluMode s e) op (s.reg32 e x) (s.reg32 e y)) t

/-- The one-operand fixed-point ALU operation on registers. -/
def aluFix1 (s : State) (e : Elem) (op : FixOp1) (n x : RegNum) (t : State) : State :=
  putAlu e n (fix1 (aluMode s e) op (s.reg32 e x)) t

/-- The two-operand floating-point ALU operation on registers. -/
def aluFlt2 (s : State) (e : Elem) (op : FltOp2) (n x y : RegNum) (t : State) : State :=
  putAlu e n (flt2 (aluMode s e) op (s.reg e x) (s.reg e y)) t

/-- The one-operand floating-point ALU operation on registers. -/
def aluFlt1 (s : State) (e : Elem) (op : FltOp1) (n x : RegNum) (t : State) : State :=
  putAlu e n (flt1 (aluMode s e) op (s.reg e x)) t

/-- `Compute(pe)`: every part reads `s`; the ALU result is written after the multiplier result (R704). -/
def computeElem (s : State) (e : Elem) (c : Compute) (t : State) : State :=
  match c with
  | .none => t
  | .fix2 op n x y => aluFix2 s e op n x y t
  | .fix1 op n x => aluFix1 s e op n x t
  | .fixCmp u x y => fixCompare s e u (s.reg32 e x) (s.reg32 e y) t
  | .flt2 op n x y => aluFlt2 s e op n x y t
  | .flt1 op n x => aluFlt1 s e op n x t
  | .fltCmp x y => fltCompare s e (aluMode s e) (s.reg e x) (s.reg e y) t
  | .mulReg op md n x y => mulToReg s e op md n x y t
  | .mulAcc op md x y => mulToAcc s e op md x y t
  | .satReg bg fmt n => satToReg s e bg fmt n t
  | .satAcc bg fmt => satToAcc s e bg fmt t
  | .rndReg bg sgn n => rndToReg s e bg sgn n t
  | .rndAcc bg sgn => rndToAcc s e bg sgn t
  | .clrAcc bg => clearAcc e bg t
  | .fmul n x y => fmulToReg s e n x y t
  | .mrGet sel n => mrToReg s e sel n t
  | .mrSet sel n => regToMr s e sel n t
  | .shf op n x y => putShf e n (shf2 op (s.reg32 e x) (s.reg32 e n) (s.reg32 e y).toInt) t
  | .fld op n x y => putShf e n (shfField op (s.reg32 e x) (s.reg32 e n) ((s.reg32 e y).setWidth 12)) t
  | .btst x y => bitTest e (s.reg32 e x) (s.reg32 e y).toInt t
  | .shf1 op n x => putShf e n (shf1 op ((s.astatEff e).getLsbD 1) (s.reg32 e x)) t
  | .bitdep x y => bitDeposit s e (s.reg32 e x) ((s.reg32 e y).extractLsb' 0 6).toNat t
  | .bitext nu n x => bitExtract s e nu n ((s.reg32 e x).extractLsb' 0 6).toNat t
  | .bffwrpSet n => writePointer s e ((s.reg32 e n).extractLsb' 0 7) t
  | .bffwrpGet n => readPointer s e n t
  | .dualFix ra rs x y => dualFix s e ra rs x y t
  | .dualFlt ra rs x y => dualFlt s e ra rs x y t
  | .mulAluReg op al rm ra xm ym xa ya =>
    aluFix2 s e (parFix al) ra (aluX xa) (aluY ya) (mulToReg s e (parMulReg op) .ssfr rm (mulX xm) (mulY ym) t)
  | .mulAluAcc sub al ra xm ym xa ya =>
    aluFix2 s e (parFix al) ra (aluX xa) (aluY ya)
      (mulToAcc s e (if sub then .subF else .addF) .ssf (mulX xm) (mulY ym) t)
  | .fmulAlu al rm ra xm ym xa ya =>
    aluFlt2 s e (fparFlt al) ra (aluX xa) (aluY ya) (fmulToReg s e rm (mulX xm) (mulY ym) t)
  | .fmulAbs rm ra xm ym xa => aluFlt1 s e .abs ra (aluX xa) (fmulToReg s e rm (mulX xm) (mulY ym) t)
  | .mulDualFix rs rm ra xm ym xa ya =>
    dualFix s e ra rs (aluX xa) (aluY ya) (mulToReg s e .mul .ssfr rm (mulX xm) (mulY ym) t)
  | .mulDualFlt rs rm ra xm ym xa ya =>
    dualFlt s e ra rs (aluX xa) (aluY ya) (fmulToReg s e rm (mulX xm) (mulY ym) t)

/-- One operation on PEx under `cx` and, in SIMD mode, on PEy under `cy` (40_group1_compute_move.md R351). -/
def onElems (s : State) (g : Gates) (f : Elem → State → State) (t : State) : State :=
  let t := if g.cx then f .x t else t
  if s.simd && g.cy then f .y t else t

/-- The compute field of an instruction; two results of a dual add/subtract in one register are outside the domain
(R704 (g); 92_eei_decisions.md D42). Under a condition that is false in every executing element such a word does nothing, as
40_group1_compute_move.md R350 says of every instruction, where D42 refuses the encoding: DESIGN CHOICE (log 40). -/
def doCompute (s : State) (g : Gates) (c : Compute) (t : State) : Res State :=
  if c.wellFormed then .next (onElems s g (fun e => computeElem s e c) t)
  else if g.any then .refused .dualSameResult else .next t

/-- A compute as a whole instruction, without a condition. -/
def computeOnly (c : Compute) (s : State) : Res State := doCompute s .open c s

/-- A shift-immediate operation under the gates of its instruction. -/
def doShift (s : State) (g : Gates) (sh : ShiftImm) (t : State) : State :=
  onElems s g (fun e => shiftImmElem s e sh) t

/-- A shift-immediate operation as a whole instruction, without a condition. -/
def shiftOnly (sh : ShiftImm) (s : State) : Res State := .next (doShift s .open sh s)

end Sys2Proof.Machine
end

