-- ==== Sys2Proof/Machine/Computes.lean ====
section
/-! DEFINITION. The rows of the opcode table that are one compute operation: the sixteen short computes of type 2c
(`spec/40_group1_compute_move.md` R364), the compute operations of `spec/44_alu_fixed.md` to `spec/48_multifunction.md`
and the shift-immediate operations of `spec/47_shifter.md` R690, each without a condition. Each is one definition over
`computeOnly` or `shiftOnly`; what it computes is said at its `Compute` or `ShiftImm` term. -/

namespace Sys2Proof.Machine

/-- `Rn___Rn_+_Rx`. -/
def execShortAdd2c (rn rx : RegNum) (s : State) : Res State := computeOnly (.fix2 .add rn rn rx) s

/-- `Rn___Rn_-_Rx`. -/
def execShortSub2c (rn rx : RegNum) (s : State) : Res State := computeOnly (.fix2 .sub rn rn rx) s

/-- `Rn___PASS_Rx`. -/
def execShortPass2c (rn rx : RegNum) (s : State) : Res State := computeOnly (.fix1 .pass rn rx) s

/-- `COMP_Rn__Rx`. -/
def execShortComp2c (rn rx : RegNum) (s : State) : Res State := computeOnly (.fixCmp false rn rx) s

/-- `Rn___NOT_Rx`. -/
def execShortNot2c (rn rx : RegNum) (s : State) : Res State := computeOnly (.fix1 .not rn rx) s

/-- `Rn___Rx_+_1`. -/
def execShortInc2c (rn rx : RegNum) (s : State) : Res State := computeOnly (.fix1 .inc rn rx) s

/-- `Rn___Rx_-_1`. -/
def execShortDec2c (rn rx : RegNum) (s : State) : Res State := computeOnly (.fix1 .dec rn rx) s

/-- `Rn___Rn___Rx__SSI`. -/
def execShortMul2c (rn rx : RegNum) (s : State) : Res State := computeOnly (.mulReg .mul .ssi rn rn rx) s

/-- `Fn___Fn_+_Fx`. -/
def execShortFAdd2c (rn rx : RegNum) (s : State) : Res State := computeOnly (.flt2 .add rn rn rx) s

/-- `Fn___Fn_-_Fx`. -/
def execShortFSub2c (rn rx : RegNum) (s : State) : Res State := computeOnly (.flt2 .sub rn rn rx) s

/-- `Fn___FLOAT_Rx`. -/
def execShortFloat2c (rn rx : RegNum) (s : State) : Res State := computeOnly (.flt1 .float rn rx) s

/-- `COMP_Fn__Fx`. -/
def execShortFComp2c (rn rx : RegNum) (s : State) : Res State := computeOnly (.fltCmp rn rx) s

/-- `Rn___Rn_AND_Rx`. -/
def execShortAnd2c (rn rx : RegNum) (s : State) : Res State := computeOnly (.fix2 .and rn rn rx) s

/-- `Rn___Rn_OR_Rx`. -/
def execShortOr2c (rn rx : RegNum) (s : State) : Res State := computeOnly (.fix2 .or rn rn rx) s

/-- `Rn___Rn_XOR_Rx`. -/
def execShortXor2c (rn rx : RegNum) (s : State) : Res State := computeOnly (.fix2 .xor rn rn rx) s

/-- `Fn___Fn___Fx`. -/
def execShortFMul2c (rn rx : RegNum) (s : State) : Res State := computeOnly (.fmul rn rn rx) s

/-- `Rn___Rx_+_Ry`. -/
def execAluAdd (rn rx ry : RegNum) (s : State) : Res State := computeOnly (.fix2 .add rn rx ry) s

/-- `Rn___Rx_-_Ry`. -/
def execAluSub (rn rx ry : RegNum) (s : State) : Res State := computeOnly (.fix2 .sub rn rx ry) s

/-- `Rn___Rx_+_Ry_+_CI`. -/
def execAluAddCi (rn rx ry : RegNum) (s : State) : Res State := computeOnly (.fix2 .addCi rn rx ry) s

/-- `Rn___Rx_-_Ry_+_CI_-_1`. -/
def execAluSubCi (rn rx ry : RegNum) (s : State) : Res State := computeOnly (.fix2 .subCi rn rx ry) s

/-- `Rn____Rx_+_Ry__2`. -/
def execAluAvg (rn rx ry : RegNum) (s : State) : Res State := computeOnly (.fix2 .avg rn rx ry) s

/-- `COMP_Rx__Ry`. -/
def execAluComp (rx ry : RegNum) (s : State) : Res State := computeOnly (.fixCmp false rx ry) s

/-- `COMPU_Rx__Ry`. -/
def execAluCompu (rx ry : RegNum) (s : State) : Res State := computeOnly (.fixCmp true rx ry) s

/-- `Rn___Rx_+_CI`. -/
def execAluIncCi (rn rx : RegNum) (s : State) : Res State := computeOnly (.fix1 .incCi rn rx) s

/-- `Rn___Rx_+_CI_-_1`. -/
def execAluDecCi (rn rx : RegNum) (s : State) : Res State := computeOnly (.fix1 .decCi rn rx) s

/-- `Rn___Rx_+_1`. -/
def execAluInc (rn rx : RegNum) (s : State) : Res State := computeOnly (.fix1 .inc rn rx) s

/-- `Rn___Rx_-_1`. -/
def execAluDec (rn rx : RegNum) (s : State) : Res State := computeOnly (.fix1 .dec rn rx) s

/-- `Rn___-Rx`. -/
def execAluNeg (rn rx : RegNum) (s : State) : Res State := computeOnly (.fix1 .neg rn rx) s

/-- `Rn___ABS_Rx`. -/
def execAluAbs (rn rx : RegNum) (s : State) : Res State := computeOnly (.fix1 .abs rn rx) s

/-- `Rn___PASS_Rx`. -/
def execAluPass (rn rx : RegNum) (s : State) : Res State := computeOnly (.fix1 .pass rn rx) s

/-- `Rn___Rx_AND_Ry`. -/
def execAluAnd (rn rx ry : RegNum) (s : State) : Res State := computeOnly (.fix2 .and rn rx ry) s

/-- `Rn___Rx_OR_Ry`. -/
def execAluOr (rn rx ry : RegNum) (s : State) : Res State := computeOnly (.fix2 .or rn rx ry) s

/-- `Rn___Rx_XOR_Ry`. -/
def execAluXor (rn rx ry : RegNum) (s : State) : Res State := computeOnly (.fix2 .xor rn rx ry) s

/-- `Rn___NOT_Rx`. -/
def execAluNot (rn rx : RegNum) (s : State) : Res State := computeOnly (.fix1 .not rn rx) s

/-- `Rn___MIN_Rx__Ry`. -/
def execAluMin (rn rx ry : RegNum) (s : State) : Res State := computeOnly (.fix2 .min rn rx ry) s

/-- `Rn___MAX_Rx__Ry`. -/
def execAluMax (rn rx ry : RegNum) (s : State) : Res State := computeOnly (.fix2 .max rn rx ry) s

/-- `Rn___CLIP_Rx_BY_Ry`. -/
def execAluClip (rn rx ry : RegNum) (s : State) : Res State := computeOnly (.fix2 .clip rn rx ry) s

/-- `Fn___Fx_+_Fy`. -/
def execFAdd (rn rx ry : RegNum) (s : State) : Res State := computeOnly (.flt2 .add rn rx ry) s

/-- `Fn___Fx_-_Fy`. -/
def execFSub (rn rx ry : RegNum) (s : State) : Res State := computeOnly (.flt2 .sub rn rx ry) s

/-- `Fn___ABS__Fx_+_Fy`. -/
def execFAbsAdd (rn rx ry : RegNum) (s : State) : Res State := computeOnly (.flt2 .absAdd rn rx ry) s

/-- `Fn___ABS__Fx_-_Fy`. -/
def execFAbsSub (rn rx ry : RegNum) (s : State) : Res State := computeOnly (.flt2 .absSub rn rx ry) s

/-- `Fn____Fx_+_Fy__2`. -/
def execFAvg (rn rx ry : RegNum) (s : State) : Res State := computeOnly (.flt2 .avg rn rx ry) s

/-- `COMP_Fx__Fy`. -/
def execFComp (rx ry : RegNum) (s : State) : Res State := computeOnly (.fltCmp rx ry) s

/-- `Fn___-Fx`. -/
def execFNeg (rn rx : RegNum) (s : State) : Res State := computeOnly (.flt1 .neg rn rx) s

/-- `Fn___ABS_Fx`. -/
def execFAbs (rn rx : RegNum) (s : State) : Res State := computeOnly (.flt1 .abs rn rx) s

/-- `Fn___PASS_Fx`. -/
def execFPass (rn rx : RegNum) (s : State) : Res State := computeOnly (.flt1 .pass rn rx) s

/-- `Fn___RND_Fx`. -/
def execFRnd (rn rx : RegNum) (s : State) : Res State := computeOnly (.flt1 .rnd rn rx) s

/-- `Fn___SCALB_Fx_BY_Ry`. -/
def execFScalb (rn rx ry : RegNum) (s : State) : Res State := computeOnly (.flt2 .scalb rn rx ry) s

/-- `Rn___MANT_Fx`. -/
def execFMant (rn rx : RegNum) (s : State) : Res State := computeOnly (.flt1 .mant rn rx) s

/-- `Rn___LOGB_Fx`. -/
def execFLogb (rn rx : RegNum) (s : State) : Res State := computeOnly (.flt1 .logb rn rx) s

/-- `Rn___FIX_Fx`. -/
def execFFix (rn rx : RegNum) (s : State) : Res State := computeOnly (.flt1 .fix rn rx) s

/-- `Rn___FIX_Fx_BY_Ry`. -/
def execFFixBy (rn rx ry : RegNum) (s : State) : Res State := computeOnly (.flt2 .fixBy rn rx ry) s

/-- `Rn___TRUNC_Fx`. -/
def execFTrunc (rn rx : RegNum) (s : State) : Res State := computeOnly (.flt1 .trunc rn rx) s

/-- `Rn___TRUNC_Fx_BY_Ry`. -/
def execFTruncBy (rn rx ry : RegNum) (s : State) : Res State := computeOnly (.flt2 .truncBy rn rx ry) s

/-- `Fn___FLOAT_Rx`. -/
def execFFloat (rn rx : RegNum) (s : State) : Res State := computeOnly (.flt1 .float rn rx) s

/-- `Fn___FLOAT_Rx_BY_Ry`. -/
def execFFloatBy (rn rx ry : RegNum) (s : State) : Res State := computeOnly (.flt2 .floatBy rn rx ry) s

/-- `Fn___RECIPS_Fx`. -/
def execFRecips (rn rx : RegNum) (s : State) : Res State := computeOnly (.flt1 .recips rn rx) s

/-- `Fn___RSQRTS_Fx`. -/
def execFRsqrts (rn rx : RegNum) (s : State) : Res State := computeOnly (.flt1 .rsqrts rn rx) s

/-- `Fn___Fx_COPYSIGN_Fy`. -/
def execFCopysign (rn rx ry : RegNum) (s : State) : Res State := computeOnly (.flt2 .copysign rn rx ry) s

/-- `Fn___MIN_Fx__Fy`. -/
def execFMin (rn rx ry : RegNum) (s : State) : Res State := computeOnly (.flt2 .min rn rx ry) s

/-- `Fn___MAX_Fx__Fy`. -/
def execFMax (rn rx ry : RegNum) (s : State) : Res State := computeOnly (.flt2 .max rn rx ry) s

/-- `Fn___CLIP_Fx_BY_Fy`. -/
def execFClip (rn rx ry : RegNum) (s : State) : Res State := computeOnly (.flt2 .clip rn rx ry) s

/-- `Rn___Rx___Ry__mod1`. -/
def execMulRn (md : MulMod) (rn rx ry : RegNum) (s : State) : Res State := computeOnly (.mulReg .mul md rn rx ry) s

/-- `MRF___Rx___Ry__mod1`. -/
def execMulMrf (md : MulMod) (rx ry : RegNum) (s : State) : Res State := computeOnly (.mulAcc .mulF md rx ry) s

/-- `MRB___Rx___Ry__mod1`. -/
def execMulMrb (md : MulMod) (rx ry : RegNum) (s : State) : Res State := computeOnly (.mulAcc .mulB md rx ry) s

/-- `Rn___MRF_+_Rx___Ry__mod1`. -/
def execMulRnAddF (md : MulMod) (rn rx ry : RegNum) (s : State) : Res State :=
  computeOnly (.mulReg .addF md rn rx ry) s

/-- `Rn___MRB_+_Rx___Ry__mod1`. -/
def execMulRnAddB (md : MulMod) (rn rx ry : RegNum) (s : State) : Res State :=
  computeOnly (.mulReg .addB md rn rx ry) s

/-- `MRF___MRF_+_Rx___Ry__mod1`. -/
def execMulAddF (md : MulMod) (rx ry : RegNum) (s : State) : Res State := computeOnly (.mulAcc .addF md rx ry) s

/-- `MRB___MRB_+_Rx___Ry__mod1`. -/
def execMulAddB (md : MulMod) (rx ry : RegNum) (s : State) : Res State := computeOnly (.mulAcc .addB md rx ry) s

/-- `Rn___MRF_-_Rx___Ry__mod1`. -/
def execMulRnSubF (md : MulMod) (rn rx ry : RegNum) (s : State) : Res State :=
  computeOnly (.mulReg .subF md rn rx ry) s

/-- `Rn___MRB_-_Rx___Ry__mod1`. -/
def execMulRnSubB (md : MulMod) (rn rx ry : RegNum) (s : State) : Res State :=
  computeOnly (.mulReg .subB md rn rx ry) s

/-- `MRF___MRF_-_Rx___Ry__mod1`. -/
def execMulSubF (md : MulMod) (rx ry : RegNum) (s : State) : Res State := computeOnly (.mulAcc .subF md rx ry) s

/-- `MRB___MRB_-_Rx___Ry__mod1`. -/
def execMulSubB (md : MulMod) (rx ry : RegNum) (s : State) : Res State := computeOnly (.mulAcc .subB md rx ry) s

/-- `Rn___SAT_MRF__mod2`. -/
def execSatRnF (fmt : SatMod) (rn : RegNum) (s : State) : Res State := computeOnly (.satReg false fmt rn) s

/-- `Rn___SAT_MRB__mod2`. -/
def execSatRnB (fmt : SatMod) (rn : RegNum) (s : State) : Res State := computeOnly (.satReg true fmt rn) s

/-- `MRF___SAT_MRF__mod2`. -/
def execSatF (fmt : SatMod) (s : State) : Res State := computeOnly (.satAcc false fmt) s

/-- `MRB___SAT_MRB__mod2`. -/
def execSatB (fmt : SatMod) (s : State) : Res State := computeOnly (.satAcc true fmt) s

/-- `Rn___RND_MRF__mod3`. -/
def execRndRnF (sgn : Bool) (rn : RegNum) (s : State) : Res State := computeOnly (.rndReg false sgn rn) s

/-- `Rn___RND_MRB__mod3`. -/
def execRndRnB (sgn : Bool) (rn : RegNum) (s : State) : Res State := computeOnly (.rndReg true sgn rn) s

/-- `MRF___RND_MRF__mod3`. -/
def execRndF (sgn : Bool) (s : State) : Res State := computeOnly (.rndAcc false sgn) s

/-- `MRB___RND_MRB__mod3`. -/
def execRndB (sgn : Bool) (s : State) : Res State := computeOnly (.rndAcc true sgn) s

/-- `MRF___0`. -/
def execClrF (s : State) : Res State := computeOnly (.clrAcc false) s

/-- `MRB___0`. -/
def execClrB (s : State) : Res State := computeOnly (.clrAcc true) s

/-- `Fn___Fx___Fy`. -/
def execFMul (rn rx ry : RegNum) (s : State) : Res State := computeOnly (.fmul rn rx ry) s

/-- `Rn___MR0F_MR1F_MR2F_MR0B_MR1B_MR2B`. -/
def execMrGet (sel : MrPart) (rn : RegNum) (s : State) : Res State := computeOnly (.mrGet sel rn) s

/-- `MR0F_MR1F_MR2F_MR0B_MR1B_MR2B___Rn`. -/
def execMrSet (sel : MrPart) (rn : RegNum) (s : State) : Res State := computeOnly (.mrSet sel rn) s

/-- `Rn___LSHIFT_Rx_BY_Ry`. -/
def execLshift (rn rx ry : RegNum) (s : State) : Res State := computeOnly (.shf .lshift rn rx ry) s

/-- `Rn___Rn_OR_LSHIFT_Rx_BY_Ry`. -/
def execOrLshift (rn rx ry : RegNum) (s : State) : Res State := computeOnly (.shf .orLshift rn rx ry) s

/-- `Rn___ASHIFT_Rx_BY_Ry`. -/
def execAshift (rn rx ry : RegNum) (s : State) : Res State := computeOnly (.shf .ashift rn rx ry) s

/-- `Rn___Rn_OR_ASHIFT_Rx_BY_Ry`. -/
def execOrAshift (rn rx ry : RegNum) (s : State) : Res State := computeOnly (.shf .orAshift rn rx ry) s

/-- `Rn___ROT_Rx_BY_Ry`. -/
def execRot (rn rx ry : RegNum) (s : State) : Res State := computeOnly (.shf .rot rn rx ry) s

/-- `Rn___BCLR_Rx_BY_Ry`. -/
def execBclr (rn rx ry : RegNum) (s : State) : Res State := computeOnly (.shf .bclr rn rx ry) s

/-- `Rn___BSET_Rx_BY_Ry`. -/
def execBset (rn rx ry : RegNum) (s : State) : Res State := computeOnly (.shf .bset rn rx ry) s

/-- `Rn___BTGL_Rx_BY_Ry`. -/
def execBtgl (rn rx ry : RegNum) (s : State) : Res State := computeOnly (.shf .btgl rn rx ry) s

/-- `BTST_Rx_BY_Ry`. -/
def execBtst (rx ry : RegNum) (s : State) : Res State := computeOnly (.btst rx ry) s

/-- `Rn___FDEP_Rx_BY_Ry`. -/
def execFdep (rn rx ry : RegNum) (s : State) : Res State := computeOnly (.fld .fdep rn rx ry) s

/-- `Rn___Rn_OR_FDEP_Rx_BY_Ry`. -/
def execOrFdep (rn rx ry : RegNum) (s : State) : Res State := computeOnly (.fld .orFdep rn rx ry) s

/-- `Rn___FDEP_Rx_BY_Ry__SE`. -/
def execFdepSe (rn rx ry : RegNum) (s : State) : Res State := computeOnly (.fld .fdepSe rn rx ry) s

/-- `Rn___Rn_OR_FDEP_Rx_BY_Ry__SE`. -/
def execOrFdepSe (rn rx ry : RegNum) (s : State) : Res State := computeOnly (.fld .orFdepSe rn rx ry) s

/-- `Rn___FEXT_Rx_BY_Ry`. -/
def execFext (rn rx ry : RegNum) (s : State) : Res State := computeOnly (.fld .fext rn rx ry) s

/-- `Rn___FEXT_Rx_BY_Ry__SE`. -/
def execFextSe (rn rx ry : RegNum) (s : State) : Res State := computeOnly (.fld .fextSe rn rx ry) s

/-- `Rn___EXP_Rx`. -/
def execExp (rn rx : RegNum) (s : State) : Res State := computeOnly (.shf1 .exp rn rx) s

/-- `Rn___EXP_Rx__EX`. -/
def execExpEx (rn rx : RegNum) (s : State) : Res State := computeOnly (.shf1 .expEx rn rx) s

/-- `Rn___LEFTZ_Rx`. -/
def execLeftz (rn rx : RegNum) (s : State) : Res State := computeOnly (.shf1 .leftz rn rx) s

/-- `Rn___LEFTO_Rx`. -/
def execLefto (rn rx : RegNum) (s : State) : Res State := computeOnly (.shf1 .lefto rn rx) s

/-- `Rn___FPACK_Fx`. -/
def execFpack (rn rx : RegNum) (s : State) : Res State := computeOnly (.shf1 .fpack rn rx) s

/-- `Fn___FUNPACK_Rx`. -/
def execFunpack (rn rx : RegNum) (s : State) : Res State := computeOnly (.shf1 .funpack rn rx) s

/-- `BITDEP_Rx_BY_Ry`. -/
def execBitdep (rx ry : RegNum) (s : State) : Res State := computeOnly (.bitdep rx ry) s

/-- `Rn___BITEXT_Rx`. -/
def execBitext (rn rx : RegNum) (s : State) : Res State := computeOnly (.bitext false rn rx) s

/-- `Rn___BITEXT_Rx__NU`. -/
def execBitextNu (rn rx : RegNum) (s : State) : Res State := computeOnly (.bitext true rn rx) s

/-- `BFFWRP___Rn`. -/
def execBffwrpSet (rn : RegNum) (s : State) : Res State := computeOnly (.bffwrpSet rn) s

/-- `Rn___BFFWRP`. -/
def execBffwrpGet (rn : RegNum) (s : State) : Res State := computeOnly (.bffwrpGet rn) s

/-- `Rn___LSHIFT_Rx_BY__data8`. -/
def execLshiftImm (data : BitVec 8) (rn rx : RegNum) (s : State) : Res State := shiftOnly (.by8 .lshift data rn rx) s

/-- `Rn___Rn_OR_LSHIFT_Rx_BY__data8`. -/
def execOrLshiftImm (data : BitVec 8) (rn rx : RegNum) (s : State) : Res State :=
  shiftOnly (.by8 .orLshift data rn rx) s

/-- `Rn___ASHIFT_Rx_BY__data8`. -/
def execAshiftImm (data : BitVec 8) (rn rx : RegNum) (s : State) : Res State := shiftOnly (.by8 .ashift data rn rx) s

/-- `Rn___Rn_OR_ASHIFT_Rx_BY__data8`. -/
def execOrAshiftImm (data : BitVec 8) (rn rx : RegNum) (s : State) : Res State :=
  shiftOnly (.by8 .orAshift data rn rx) s

/-- `Rn___ROT_Rx_BY__data8`. -/
def execRotImm (data : BitVec 8) (rn rx : RegNum) (s : State) : Res State := shiftOnly (.by8 .rot data rn rx) s

/-- `Rn___BCLR_Rx_BY__data8`. -/
def execBclrImm (data : BitVec 8) (rn rx : RegNum) (s : State) : Res State := shiftOnly (.by8 .bclr data rn rx) s

/-- `Rn___BSET_Rx_BY__data8`. -/
def execBsetImm (data : BitVec 8) (rn rx : RegNum) (s : State) : Res State := shiftOnly (.by8 .bset data rn rx) s

/-- `Rn___BTGL_Rx_BY__data8`. -/
def execBtglImm (data : BitVec 8) (rn rx : RegNum) (s : State) : Res State := shiftOnly (.by8 .btgl data rn rx) s

/-- `BTST_Rx_BY__data8`. -/
def execBtstImm (data : BitVec 8) (rx : RegNum) (s : State) : Res State := shiftOnly (.btst8 data rx) s

/-- `Rn___FDEP_Rx_BY__bit6___len6`. -/
def execFdepImm (imm : BitVec 12) (rn rx : RegNum) (s : State) : Res State := shiftOnly (.field .fdep imm rn rx) s

/-- `Rn___Rn_OR_FDEP_Rx_BY__bit6___len6`. -/
def execOrFdepImm (imm : BitVec 12) (rn rx : RegNum) (s : State) : Res State := shiftOnly (.field .orFdep imm rn rx) s

/-- `Rn___FDEP_Rx_BY__bit6___len6___SE`. -/
def execFdepSeImm (imm : BitVec 12) (rn rx : RegNum) (s : State) : Res State := shiftOnly (.field .fdepSe imm rn rx) s

/-- `Rn___Rn_OR_FDEP_Rx_BY__bit6___len6___SE`. -/
def execOrFdepSeImm (imm : BitVec 12) (rn rx : RegNum) (s : State) : Res State :=
  shiftOnly (.field .orFdepSe imm rn rx) s

/-- `Rn___FEXT_Rx_BY__bit6___len6`. -/
def execFextImm (imm : BitVec 12) (rn rx : RegNum) (s : State) : Res State := shiftOnly (.field .fext imm rn rx) s

/-- `Rn___FEXT_Rx_BY__bit6___len6___SE`. -/
def execFextSeImm (imm : BitVec 12) (rn rx : RegNum) (s : State) : Res State := shiftOnly (.field .fextSe imm rn rx) s

/-- `BITDEP_Rx_BY__bitlen12`. -/
def execBitdepImm (imm : BitVec 12) (rx : RegNum) (s : State) : Res State := shiftOnly (.bitdep12 imm rx) s

/-- `Rn___BITEXT__bitlen12`. -/
def execBitextImm (imm : BitVec 12) (rn : RegNum) (s : State) : Res State := shiftOnly (.bitext12 false imm rn) s

/-- `Rn___BITEXT__bitlen12___NU`. -/
def execBitextNuImm (imm : BitVec 12) (rn : RegNum) (s : State) : Res State := shiftOnly (.bitext12 true imm rn) s

/-- `BFFWRP____data7`. -/
def execBffwrpImm (data : BitVec 7) (s : State) : Res State := shiftOnly (.bffwrp7 data) s

/-- `Ra___Rx_+_Ry__Rs___Rx_-_Ry`. -/
def execDualAddSub (ra rs rx ry : RegNum) (s : State) : Res State := computeOnly (.dualFix ra rs rx ry) s

/-- `Fa___Fx_+_Fy__Fs___Fx_-_Fy`. -/
def execFDualAddSub (ra rs rx ry : RegNum) (s : State) : Res State := computeOnly (.dualFlt ra rs rx ry) s

/-- `Rm___R3-0___R7-4__SSFR___Ra___R11-8_+_R15-12`. -/
def execMulRmAdd (rm ra : RegNum) (xm ym xa ya : BitVec 2) (s : State) : Res State :=
  computeOnly (.mulAluReg .mul .add rm ra xm ym xa ya) s

/-- `Rm___R3-0___R7-4__SSFR___Ra___R11-8_-_R15-12`. -/
def execMulRmSub (rm ra : RegNum) (xm ym xa ya : BitVec 2) (s : State) : Res State :=
  computeOnly (.mulAluReg .mul .sub rm ra xm ym xa ya) s

/-- `Rm___R3-0___R7-4__SSFR___Ra____R11-8_+_R15-12__2`. -/
def execMulRmAvg (rm ra : RegNum) (xm ym xa ya : BitVec 2) (s : State) : Res State :=
  computeOnly (.mulAluReg .mul .avg rm ra xm ym xa ya) s

/-- `MRF___MRF_+_R3-0___R7-4__SSF___Ra___R11-8_+_R15-12`. -/
def execMacFAdd (ra : RegNum) (xm ym xa ya : BitVec 2) (s : State) : Res State :=
  computeOnly (.mulAluAcc false .add ra xm ym xa ya) s

/-- `MRF___MRF_+_R3-0___R7-4__SSF___Ra___R11-8_-_R15-12`. -/
def execMacFSub (ra : RegNum) (xm ym xa ya : BitVec 2) (s : State) : Res State :=
  computeOnly (.mulAluAcc false .sub ra xm ym xa ya) s

/-- `MRF___MRF_+_R3-0___R7-4__SSF___Ra____R11-8_+_R15-12__2`. -/
def execMacFAvg (ra : RegNum) (xm ym xa ya : BitVec 2) (s : State) : Res State :=
  computeOnly (.mulAluAcc false .avg ra xm ym xa ya) s

/-- `Rm___MRF_+_R3-0___R7-4__SSFR___Ra___R11-8_+_R15-12`. -/
def execMacRmAdd (rm ra : RegNum) (xm ym xa ya : BitVec 2) (s : State) : Res State :=
  computeOnly (.mulAluReg .add .add rm ra xm ym xa ya) s

/-- `Rm___MRF_+_R3-0___R7-4__SSFR___Ra___R11-8_-_R15-12`. -/
def execMacRmSub (rm ra : RegNum) (xm ym xa ya : BitVec 2) (s : State) : Res State :=
  computeOnly (.mulAluReg .add .sub rm ra xm ym xa ya) s

/-- `Rm___MRF_+_R3-0___R7-4__SSFR___Ra____R11-8_+_R15-12__2`. -/
def execMacRmAvg (rm ra : RegNum) (xm ym xa ya : BitVec 2) (s : State) : Res State :=
  computeOnly (.mulAluReg .add .avg rm ra xm ym xa ya) s

/-- `MRF___MRF_-_R3-0___R7-4__SSF___Ra___R11-8_+_R15-12`. -/
def execMsubFAdd (ra : RegNum) (xm ym xa ya : BitVec 2) (s : State) : Res State :=
  computeOnly (.mulAluAcc true .add ra xm ym xa ya) s

/-- `MRF___MRF_-_R3-0___R7-4__SSF___Ra___R11-8_-_R15-12`. -/
def execMsubFSub (ra : RegNum) (xm ym xa ya : BitVec 2) (s : State) : Res State :=
  computeOnly (.mulAluAcc true .sub ra xm ym xa ya) s

/-- `MRF___MRF_-_R3-0___R7-4__SSF___Ra____R11-8_+_R15-12__2`. -/
def execMsubFAvg (ra : RegNum) (xm ym xa ya : BitVec 2) (s : State) : Res State :=
  computeOnly (.mulAluAcc true .avg ra xm ym xa ya) s

/-- `Rm___MRF_-_R3-0___R7-4__SSFR___Ra___R11-8_+_R15-12`. -/
def execMsubRmAdd (rm ra : RegNum) (xm ym xa ya : BitVec 2) (s : State) : Res State :=
  computeOnly (.mulAluReg .sub .add rm ra xm ym xa ya) s

/-- `Rm___MRF_-_R3-0___R7-4__SSFR___Ra___R11-8_-_R15-12`. -/
def execMsubRmSub (rm ra : RegNum) (xm ym xa ya : BitVec 2) (s : State) : Res State :=
  computeOnly (.mulAluReg .sub .sub rm ra xm ym xa ya) s

/-- `Rm___MRF_-_R3-0___R7-4__SSFR___Ra____R11-8_+_R15-12__2`. -/
def execMsubRmAvg (rm ra : RegNum) (xm ym xa ya : BitVec 2) (s : State) : Res State :=
  computeOnly (.mulAluReg .sub .avg rm ra xm ym xa ya) s

/-- `Fm___F3-0___F7-4__Fa___F11-8_+_F15-12`. -/
def execFMulAdd (rm ra : RegNum) (xm ym xa ya : BitVec 2) (s : State) : Res State :=
  computeOnly (.fmulAlu .add rm ra xm ym xa ya) s

/-- `Fm___F3-0___F7-4__Fa___F11-8_-_F15-12`. -/
def execFMulSub (rm ra : RegNum) (xm ym xa ya : BitVec 2) (s : State) : Res State :=
  computeOnly (.fmulAlu .sub rm ra xm ym xa ya) s

/-- `Fm___F3-0___F7-4__Fa___FLOAT_R11-8_BY_R15-12`. -/
def execFMulFloat (rm ra : RegNum) (xm ym xa ya : BitVec 2) (s : State) : Res State :=
  computeOnly (.fmulAlu .floatBy rm ra xm ym xa ya) s

/-- `Fm___F3-0___F7-4__Ra___FIX_F11-8_BY_R15-12`. -/
def execFMulFix (rm ra : RegNum) (xm ym xa ya : BitVec 2) (s : State) : Res State :=
  computeOnly (.fmulAlu .fixBy rm ra xm ym xa ya) s

/-- `Fm___F3-0___F7-4__Fa____F11-8_+_F15-12__2`. -/
def execFMulAvg (rm ra : RegNum) (xm ym xa ya : BitVec 2) (s : State) : Res State :=
  computeOnly (.fmulAlu .avg rm ra xm ym xa ya) s

/-- `Fm___F3-0___F7-4__Fa___ABS_F11-8`. -/
def execFMulAbs (rm ra : RegNum) (xm ym xa : BitVec 2) (s : State) : Res State :=
  computeOnly (.fmulAbs rm ra xm ym xa) s

/-- `Fm___F3-0___F7-4__Fa___MAX__F11-8__F15-12`. -/
def execFMulMax (rm ra : RegNum) (xm ym xa ya : BitVec 2) (s : State) : Res State :=
  computeOnly (.fmulAlu .max rm ra xm ym xa ya) s

/-- `Fm___F3-0___F7-4__Fa___MIN__F11-8__F15-12`. -/
def execFMulMin (rm ra : RegNum) (xm ym xa ya : BitVec 2) (s : State) : Res State :=
  computeOnly (.fmulAlu .min rm ra xm ym xa ya) s

/-- `Rm___R3-0___R7-4__SSFR___Ra___R11-8_+_R15-12__Rs___R11-8`. -/
def execMulDual (rs rm ra : RegNum) (xm ym xa ya : BitVec 2) (s : State) : Res State :=
  computeOnly (.mulDualFix rs rm ra xm ym xa ya) s

/-- `Fm___F3-0___F7-4__Fa___F11-8_+_F15-12__Fs___F11-8_-_F15-`. -/
def execFMulDual (rs rm ra : RegNum) (xm ym xa ya : BitVec 2) (s : State) : Res State :=
  computeOnly (.mulDualFlt rs rm ra xm ym xa ya) s

end Sys2Proof.Machine
end

