-- ==== Sys2Proof/Machine/Moves.lean ====
section
/-! DEFINITION. Group I instructions (`spec/40_group1_compute_move.md`): compute with a memory transfer, a register
move, an immediate shift or an index modify. -/

namespace Sys2Proof.Machine

/-! ## Type 1 (R360, R361) -/

/-- A transfer of type 1 through index register `a`. -/
def dualTransfer (s : State) (pm : Bool) (a : RegNum) : Transfer :=
  { pm := pm, addr := postAddr s a, lw := false, dual := true, conditional := false, index := some a }

/-- The compute, both transfers and both index updates. Of two stores the PM one comes last, of two loads the DM one
(20_memory.md R174, R211). -/
def dualMove (dmd : Bool) (dmi dmm : DagNum) (pmd : Bool) (dmdreg : RegNum) (pmi pmm : DagNum) (pmdreg : RegNum)
    (c : Compute) (s : State) : Res State :=
  let a := dagReg false dmi
  let b := dagReg true pmi
  Res.bind (doCompute s .open c s) fun t =>
    Res.bind (if dmd then access s .open (dualTransfer s false a) true (.r dmdreg) t else .next t) fun t =>
      Res.bind (access s .open (dualTransfer s true b) pmd (.r pmdreg) t) fun t =>
        Res.bind (if dmd then .next t else access s .open (dualTransfer s false a) false (.r dmdreg) t) fun t =>
          .next (postMod s true b (s.mreg (dagReg true pmm)) (postMod s true a (s.mreg (dagReg false dmm)) t))

/-- Type 1a (R360). -/
def execDualMove1a (dmd : Bool) (dmi dmm : DagNum) (pmd : Bool) (dmdreg : RegNum) (pmi pmm : DagNum)
    (pmdreg : RegNum) (c : Compute) (s : State) : Res State :=
  dualMove dmd dmi dmm pmd dmdreg pmi pmm pmdreg c s

/-- Type 1b (R361). -/
def execDualMove1b (dmd : Bool) (dmi dmm : DagNum) (pmd : Bool) (dmdreg : RegNum) (pmi pmm : DagNum)
    (pmdreg : RegNum) (s : State) : Res State :=
  dualMove dmd dmi dmm pmd dmdreg pmi pmm pmdreg .none s

/-! ## Type 2 (R362, R363) -/

/-- A compute under a condition. -/
def conditionalCompute (cond : Cond) (c : Compute) (s : State) : Res State :=
  let g := gates s false cond
  (doCompute s g c s).map (noteAborted g)

/-- Type 2a (R362). -/
def execCompute2a (cond : Cond) (c : Compute) (s : State) : Res State := conditionalCompute cond c s

/-- Type 2b (R363). -/
def execCompute2b (c : Compute) (s : State) : Res State := conditionalCompute .always c s

/-! ## Types 3 and 4 (R370 to R375) -/

/-- The compute, one transfer through index register `i` of the DAG `pm`, and with `post` the index update by `mod`. A
load of a register of that DAG is outside the domain (R356 (a)); a store of one is executed, though the example of R190 is
a store, and a load whose condition is false in every executing element is not made and not refused (DESIGN CHOICES, log
40). -/
def indexedMove (s : State) (g : Gates) (pm : Bool) (i : DagNum) (mod : Word) (post lw write : Bool) (u : UReg)
    (conditional : Bool) (c : Compute) : Res State :=
  let a := dagReg pm i
  if g.any && !write && sameDag pm u then .refused .sameDagLoad
  else
    Res.bind (doCompute s g c s) fun t =>
      Res.bind
        (access s g
          { pm := pm, addr := if post then postAddr s a else preAddr s a mod, lw := lw, dual := false
            conditional := conditional, index := some a } write u t) fun t =>
        .next (noteAborted g (postMod s (post && g.any) a mod t))

/-- Type 3 with the M register as the modifier (R370). -/
def memUreg (u : Bool) (i m : DagNum) (cond : Cond) (g d l : Bool) (ureg : UReg) (c : Compute) (s : State) :
    Res State :=
  indexedMove s (gates s false cond) g i (s.mreg (dagReg g m)) u l d ureg (cond != .always) c

/-- Type 3a (R370). -/
def execMemUreg3a (u : Bool) (i m : DagNum) (cond : Cond) (g d l : Bool) (ureg : UReg) (c : Compute) (s : State) :
    Res State :=
  memUreg u i m cond g d l ureg c s

/-- Type 3b (R371). -/
def execMemUreg3b (u : Bool) (i m : DagNum) (cond : Cond) (g d l : Bool) (ureg : UReg) (s : State) : Res State :=
  memUreg u i m cond g d l ureg .none s

/-- Type 3c: DAG1, post-modify, a data register, without a condition (R372). -/
def execMemDreg3c (i m : DagNum) (d : Bool) (dreg : RegNum) (s : State) : Res State :=
  memUreg true i m .always false d false (.r dreg) .none s

/-- Type 4 with a 6-bit immediate modifier (R374). -/
def memDreg (i : DagNum) (g d u : Bool) (cond : Cond) (data : BitVec 6) (dreg : RegNum) (c : Compute) (s : State) :
    Res State :=
  indexedMove s (gates s false cond) g i (data.signExtend 32) u false d (.r dreg) (cond != .always) c

/-- Type 4a (R374). -/
def execMemDreg4a (i : DagNum) (g d u : Bool) (cond : Cond) (data : BitVec 6) (dreg : RegNum) (c : Compute)
    (s : State) : Res State :=
  memDreg i g d u cond data dreg c s

/-- Type 4b (R375). -/
def execMemDreg4b (i : DagNum) (g d u : Bool) (cond : Cond) (data : BitVec 6) (dreg : RegNum) (s : State) :
    Res State :=
  memDreg i g d u cond data dreg .none s

/-! ## Type 5 (R378 to R380) -/

/-- A register move under a condition, with a compute. -/
def regMove (src : UReg) (cond : Cond) (dst : UReg) (c : Compute) (s : State) : Res State :=
  let g := gates s false cond
  Res.bind (doCompute s g c s) fun t => (transfer s g dst src t).map (noteAborted g)

/-- Type 5a transfer (R378). -/
def execMove5a (src : UReg) (cond : Cond) (dst : UReg) (c : Compute) (s : State) : Res State :=
  regMove src cond dst c s

/-- Type 5b transfer (R380). -/
def execMove5b (src : UReg) (cond : Cond) (dst : UReg) (s : State) : Res State := regMove src cond dst .none s

/-- A swap: R[dreg] under `cx`, S[cdreg] under `cy`, which is `cx` in SISD mode (R379). -/
def regSwap (cdreg : RegNum) (cond : Cond) (dreg : RegNum) (c : Compute) (s : State) : Res State :=
  let g := gates s false cond
  Res.bind (doCompute s g c s) fun t =>
    let t := if g.cx then t.setReg .x dreg (s.reg .y cdreg) else t
    .next (noteAborted g (if g.cy then t.setReg .y cdreg (s.reg .x dreg) else t))

/-- Type 5a swap (R379). -/
def execSwap5a (cdreg : RegNum) (cond : Cond) (dreg : RegNum) (c : Compute) (s : State) : Res State :=
  regSwap cdreg cond dreg c s

/-- Type 5b swap (R380). -/
def execSwap5b (cdreg : RegNum) (cond : Cond) (dreg : RegNum) (s : State) : Res State := regSwap cdreg cond dreg .none s

/-! ## Type 6 (R383, R384) -/

/-- Type 6a with memory (R383). -/
def execShiftMem6a (i m : DagNum) (cond : Cond) (g d : Bool) (dreg : RegNum) (sh : ShiftImm) (s : State) : Res State :=
  let ga := gates s false cond
  let a := dagReg g i
  Res.bind
    (access s ga
      { pm := g, addr := postAddr s a, lw := false, dual := false, conditional := cond != .always, index := some a }
      d (.r dreg) (doShift s ga sh s)) fun t =>
    .next (noteAborted ga (postMod s ga.any a (s.mreg (dagReg g m)) t))

/-- Type 6a without memory (R384). -/
def execShift6a (cond : Cond) (sh : ShiftImm) (s : State) : Res State :=
  let g := gates s false cond
  .next (noteAborted g (doShift s g sh s))

/-! ## Type 7 (R387, R388) -/

/-- An index modify under a condition; the destination is `is xor idx` (log 15). -/
def indexModify (g : Bool) (cond : Cond) (is m idx : DagNum) (c : Compute) (s : State) : Res State :=
  let ga := gates s false cond
  Res.bind (doCompute s ga c s) fun t =>
    .next (noteAborted ga
      (if ga.any then modifyIndex s (dagReg g is) (dagReg g (is ^^^ idx)) (s.mreg (dagReg g m)) t else t))

/-- Type 7a (R387). -/
def execModify7a (g : Bool) (cond : Cond) (is m idx : DagNum) (c : Compute) (s : State) : Res State :=
  indexModify g cond is m idx c s

/-- Type 7b (R388). -/
def execModify7b (g : Bool) (cond : Cond) (is m idx : DagNum) (s : State) : Res State :=
  indexModify g cond is m idx .none s

end Sys2Proof.Machine
end

