-- ==== Sys2Proof/Machine/ImmediateMoves.lean ====
section
/-! DEFINITION. Group III instructions (`spec/42_group3_immediate_move.md`): immediate addresses and immediate data. -/

namespace Sys2Proof.Machine

/-- Type 14a: a direct address (R450). -/
def execMemDirect14a (g d l : Bool) (ureg : UReg) (addr : Word) (s : State) : Res State :=
  access s .open { pm := g, addr := addr, lw := l, dual := false, conditional := false, index := none } d ureg s

/-- A pre-modified address with an immediate modifier, the index register unchanged (R455). -/
def memOffset (g : Bool) (i : DagNum) (d l : Bool) (ureg : UReg) (data : Word) (s : State) : Res State :=
  indexedMove s .open g i data false l d ureg false .none

/-- Type 15a (R455). -/
def execMemOffset15a (g : Bool) (i : DagNum) (d l : Bool) (ureg : UReg) (data : Word) (s : State) : Res State :=
  memOffset g i d l ureg data s

/-- Type 15b, the modifier sign-extended (R456). -/
def execMemOffset15b (i : DagNum) (d l g : Bool) (ureg : UReg) (data : BitVec 7) (s : State) : Res State :=
  memOffset g i d l ureg (data.signExtend 32) s

/-- A store of immediate data, post-modify, the same data in both elements (R460). -/
def storeImmediate (i m : DagNum) (g : Bool) (data : Word) (s : State) : Res State :=
  let a := dagReg g i
  (accessStore s .open
    { pm := g, addr := postAddr s a, lw := false, dual := false, conditional := false, index := some a } .dreg
    (immediateData data) (some (immediateData data)) s).map fun t => postMod s true a (s.mreg (dagReg g m)) t

/-- Type 16a (R460). -/
def execStoreImm16a (i m : DagNum) (g : Bool) (data : Word) (s : State) : Res State := storeImmediate i m g data s

/-- Type 16b, the data sign-extended (R461). -/
def execStoreImm16b (i m : DagNum) (g : Bool) (data : BitVec 16) (s : State) : Res State :=
  storeImmediate i m g (data.signExtend 32) s

/-- Type 17a (R465). -/
def execLoadImm17a (ureg : UReg) (data : Word) (s : State) : Res State := loadImmediate s ureg data s

/-- Type 17b, the data sign-extended (R466). -/
def execLoadImm17b (ureg : UReg) (data : BitVec 16) (s : State) : Res State :=
  loadImmediate s ureg (data.signExtend 32) s

end Sys2Proof.Machine
end

