-- ==== Sys2Proof/Machine/Flow.lean ====
section
/-! DEFINITION. Group II instructions (`spec/41_group2_program_flow.md`): branches, returns and DO UNTIL. An instruction
asks for a branch; the step takes it. -/

namespace Sys2Proof.Machine

/-! ## Branches (R401 to R409) -/

/-- Ask for a branch, delayed when `j` (R404, R405). -/
def goTo (j : Bool) (target : Addr24) (t : State) : State :=
  if j then t.setScratch { t.scratch with dbReq := some target } else t.setScratch { t.scratch with br := some target }

/-- A PC-relative target (R401 (b)). -/
def relTarget {w : Nat} (s : State) (rel : BitVec w) : Addr24 := s.seq.pc + rel.signExtend 24

/-- An indirect target (R401 (c)). -/
def indTarget (s : State) (pmi pmm : DagNum) : Addr24 :=
  (s.ireg (dagReg true pmi) + s.mreg (dagReg true pmm)).setWidth 24

/-- Loop abort: the loop stacks and the PC stack popped once (R407). -/
def abortLoop (t : State) : Res State :=
  Res.bind (popLoop t) fun t => Res.bind (popPc t) fun (_, t) => .next t.syncLce

/-- A JUMP when `take`: (LA) when `a`, (CI) when `ci`, (DB) when `j`. -/
def jump (take a j ci : Bool) (target : Addr24) (t : State) : Res State :=
  if take then
    Res.bind (if a then abortLoop t else .next t) fun t =>
      Res.bind (if ci then clearInterrupt t else .next t) fun t => .next (goTo j target t)
  else .next t

/-- The return address of a CALL of `k` short words (R405). -/
def returnAddress (s : State) (j : Bool) (k : Nat) : Res Addr24 :=
  if j then afterSlots s k else .next (s.seq.pc + lengthAt s.seq.pc k)

/-- The arithmetic loop on its way out when the instruction at `n` lies in its body (R433; log 36). -/
def leavingAt (s : State) (n : Addr24) : Option Exiting :=
  match s.seq.exiting with
  | some x => if x.top.toNat ≤ n.toNat ∧ n.toNat ≤ x.last.toNat then some x else none
  | none => none

/-- A loop termination test was true while this instruction was in the Address stage, that is, while the instruction
before it executed: the test of a counter loop just made, or that of an arithmetic loop two instructions from its end
(10_state.md R45; log 44). -/
def loopEnding (s : State) : Bool :=
  s.scratch.loopEnded ||
    match leavingAt s s.seq.pc with
    | some x => x.left == 2
    | none => false

/-- A CALL when `take`. Bit 25 of the entry tells of a loop that is ending (10_state.md R45). The bits A and CI are ignored
(log 19). -/
def call (s : State) (take j : Bool) (k : Nat) (target : Addr24) (t : State) : Res State :=
  if take then
    Res.bind (returnAddress s j k) fun r => (pushPc (pcEntry r true (loopEnding s)) t).map (goTo j target)
  else .next t

/-- A branch instruction whose condition is false counts as aborted, also when an ELSE part executes (60_exceptions.md
R786); not one whose compute `ran` where the condition held in one element only: DESIGN CHOICE (log 24). -/
def noteBranch (take ran : Bool) (t : State) : State :=
  t.setScratch { t.scratch with aborted := !take && !ran }

/-- The gates of the compute: negated by ELSE (R409). -/
def elseGates (g : Gates) (e : Bool) : Gates := if e then g.negate else g

/-- A branch instruction: the compute, then `f`, which branches when the condition holds in both elements. -/
def branchWith (cond : Cond) (e : Bool) (c : Compute) (f : Bool → State → Res State) (s : State) : Res State :=
  let g := gates s true cond
  Res.bind (doCompute s (elseGates g e) c s) fun t => (f g.both t).map (noteBranch g.both (!e && g.any && c != .none))

/-! ## Type 8 (R415) -/

/-- `JUMP addr24`. -/
def execJumpDirect8a (a : Bool) (cond : Cond) (j ci : Bool) (addr : Addr24) (s : State) : Res State :=
  branchWith cond false .none (fun take => jump take a j ci addr) s

/-- `JUMP (PC, reladdr24)`. -/
def execJumpRel8a (a : Bool) (cond : Cond) (j ci : Bool) (rel : Addr24) (s : State) : Res State :=
  branchWith cond false .none (fun take => jump take a j ci (relTarget s rel)) s

/-- `CALL addr24`. -/
def execCallDirect8a (_a : Bool) (cond : Cond) (j _ci : Bool) (addr : Addr24) (s : State) : Res State :=
  branchWith cond false .none (fun take => call s take j 3 addr) s

/-- `CALL (PC, reladdr24)`. -/
def execCallRel8a (_a : Bool) (cond : Cond) (j _ci : Bool) (rel : Addr24) (s : State) : Res State :=
  branchWith cond false .none (fun take => call s take j 3 (relTarget s rel)) s

/-! ## Type 9 (R416) -/

/-- `JUMP (Md, Ic)` with a compute. -/
def execJumpInd9a (a : Bool) (cond : Cond) (pmi pmm : DagNum) (j e ci : Bool) (c : Compute) (s : State) : Res State :=
  branchWith cond e c (fun take => jump take a j ci (indTarget s pmi pmm)) s

/-- `JUMP (PC, reladdr6)` with a compute. -/
def execJumpRel9a (a : Bool) (cond : Cond) (rel : BitVec 6) (j e ci : Bool) (c : Compute) (s : State) : Res State :=
  branchWith cond e c (fun take => jump take a j ci (relTarget s rel)) s

/-- `CALL (Md, Ic)` with a compute. -/
def execCallInd9a (_a : Bool) (cond : Cond) (pmi pmm : DagNum) (j e _ci : Bool) (c : Compute) (s : State) :
    Res State :=
  branchWith cond e c (fun take => call s take j 3 (indTarget s pmi pmm)) s

/-- `CALL (PC, reladdr6)` with a compute. -/
def execCallRel9a (_a : Bool) (cond : Cond) (rel : BitVec 6) (j e _ci : Bool) (c : Compute) (s : State) : Res State :=
  branchWith cond e c (fun take => call s take j 3 (relTarget s rel)) s

/-- Type 9b, `JUMP (Md, Ic)`. -/
def execJumpInd9b (a : Bool) (cond : Cond) (pmi pmm : DagNum) (j ci : Bool) (s : State) : Res State :=
  branchWith cond false .none (fun take => jump take a j ci (indTarget s pmi pmm)) s

/-- Type 9b, `JUMP (PC, reladdr6)`. -/
def execJumpRel9b (a : Bool) (cond : Cond) (rel : BitVec 6) (j ci : Bool) (s : State) : Res State :=
  branchWith cond false .none (fun take => jump take a j ci (relTarget s rel)) s

/-- Type 9b, `CALL (Md, Ic)`. -/
def execCallInd9b (_a : Bool) (cond : Cond) (pmi pmm : DagNum) (j _ci : Bool) (s : State) : Res State :=
  branchWith cond false .none (fun take => call s take j 2 (indTarget s pmi pmm)) s

/-- Type 9b, `CALL (PC, reladdr6)`. -/
def execCallRel9b (_a : Bool) (cond : Cond) (rel : BitVec 6) (j _ci : Bool) (s : State) : Res State :=
  branchWith cond false .none (fun take => call s take j 2 (relTarget s rel)) s

/-! ## Type 10 (R417) -/

/-- The jump when the condition holds in both elements; the compute and the data move under the negated conditions. -/
def jumpElseMove (d : Bool) (dmi dmm : DagNum) (cond : Cond) (target : Addr24) (dreg : RegNum) (c : Compute)
    (s : State) : Res State :=
  let g := gates s true cond
  let ge := g.negate
  let a := dagReg false dmi
  Res.bind (doCompute s ge c s) fun t =>
    Res.bind
      (access s ge
        { pm := false, addr := postAddr s a, lw := false, dual := false, conditional := cond != .always
          index := some a } d (.r dreg) t) fun t =>
      Res.map (noteBranch g.both false)
        (jump g.both false false false target (postMod s ge.any a (s.mreg (dagReg false dmm)) t))

/-- `JUMP (Md, Ic), ELSE compute, DM(Ia, Mb) <-> dreg`. -/
def execJumpInd10a (d : Bool) (dmi dmm : DagNum) (cond : Cond) (pmi pmm : DagNum) (dreg : RegNum) (c : Compute)
    (s : State) : Res State :=
  jumpElseMove d dmi dmm cond (indTarget s pmi pmm) dreg c s

/-- `JUMP (PC, reladdr6), ELSE compute, DM(Ia, Mb) <-> dreg`. -/
def execJumpRel10a (d : Bool) (dmi dmm : DagNum) (cond : Cond) (rel : BitVec 6) (dreg : RegNum) (c : Compute)
    (s : State) : Res State :=
  jumpElseMove d dmi dmm cond (relTarget s rel) dreg c s

/-! ## Type 11 (R418 to R421) -/

/-- RTS when `take`; (LR) needs no action of its own (R421). -/
def doRts (take j : Bool) (t : State) : Res State :=
  if take then (popPc t).map fun (e, t) => goTo j (e.setWidth 24) t else .next t

/-- RTI when `take`: what it pops of the status stack wins over the flags of the compute (R419). -/
def doRti (take j : Bool) (t : State) : Res State :=
  if take then (returnFromInterrupt t).map fun (r, t) => goTo j r t else .next t

/-- Type 11a, RTS (R418). -/
def execRts11a (cond : Cond) (j e _lr : Bool) (c : Compute) (s : State) : Res State :=
  branchWith cond e c (fun take => doRts take j) s

/-- Type 11a, RTI (R419). -/
def execRti11a (cond : Cond) (j e : Bool) (c : Compute) (s : State) : Res State :=
  branchWith cond e c (fun take => doRti take j) s

/-- Type 11c, RTS (R420). -/
def execRts11c (cond : Cond) (j _lr : Bool) (s : State) : Res State :=
  branchWith cond false .none (fun take => doRts take j) s

/-- Type 11c, RTI (R420). -/
def execRti11c (cond : Cond) (j : Bool) (s : State) : Res State :=
  branchWith cond false .none (fun take => doRti take j) s

/-! ## Types 12 and 13 (R425, R426, R430) -/

/-- The type field of LADDR for a body of `k` instructions (10_state.md R48). -/
def loopType (lce : Bool) (k : Nat) : BitVec 3 :=
  if lce then (if k = 1 then 2 else if k = 2 then 4 else if k = 3 then 6 else 7) else if k = 1 then 1 else 0

/-- The number of instructions from `top` to `last`; in VISA space each of three short words (R430, R437). -/
def bodyLength (top last : Addr24) : Nat :=
  if isVisa top then (last - top).toNat / 3 + 1 else (last - top).toNat + 1

/-- `DoLoop`. -/
def doLoop (rel : Addr24) (term : Term) (count : Word) (t : State) : Res State :=
  let n := t.seq.pc
  let last := n + rel
  let top := n + lengthAt n 3
  if last.toNat < top.toNat then .refused .loopEndBeforeStart
  else
    Res.bind (pushPc (pcEntry top false false) t) fun t =>
      (pushLoop (loopType (term == .lce) (bodyLength top last) ++ BitVec.ofNat 5 term.code ++ last) count t).map
        State.syncLce

/-- `LCNTR = data16, DO ... UNTIL LCE`. -/
def execDoImm12a (data : BitVec 16) (rel : Addr24) (s : State) : Res State :=
  Res.bind (writeUReg .lcntr (data.setWidth 32) s) fun t => doLoop rel .lce (data.setWidth 32) t

/-- `LCNTR = ureg, DO ... UNTIL LCE`. -/
def execDoUreg12a (ureg : UReg) (rel : Addr24) (s : State) : Res State :=
  Res.bind (readUReg s ureg) fun v => Res.bind (writeUReg .lcntr v s) fun t => doLoop rel .lce v t

/-- `DO ... UNTIL term`; the count stack takes LCNTR (R426). -/
def execDoUntil13a (term : Term) (rel : Addr24) (s : State) : Res State := doLoop rel term s.seq.lcntr s

end Sys2Proof.Machine
end

