-- ==== Sys2Proof/Machine/Misc.lean ====
section
/-! DEFINITION. Group IV instructions (`spec/43_group4_misc.md`): system register bits, index arithmetic, stacks, NOP,
IDLE, CJUMP and RFRAME. -/

namespace Sys2Proof.Machine

/-! ## Type 18 (R480, R481) -/

/-- A bit change `f` of a system register and, in SIMD mode, of its complement. -/
def bitChange (f : Word → Word) (x : SReg) (s : State) : Res State :=
  let t := writeSReg x (f (readSReg s x)) s
  if s.simd then
    match x.complement with
    | some c => .next (writeSReg c (f (readSReg s c)) t)
    | none => .next t
  else .next t

/-- BTF of an element, a hardware update of bit 18 of ASTAT. -/
def setBtf (e : Elem) (b : Bool) (t : State) : State :=
  t.setAstat e (mergeBits (t.astat e).val (bitIf b 18) 0x00040000)

/-- A test `f` of a system register into ASTATx.BTF and, in SIMD mode, of its complement, or of itself where it has none,
into ASTATy.BTF. -/
def sregTest (f : Word → Bool) (x : SReg) (s : State) : Res State :=
  let t := setBtf .x (f (readSReg s x)) s
  .next (if s.simd then setBtf .y (f (readSReg s (x.complement.getD x))) t else t)

/-- `BIT SET`. -/
def execBitSet18a (sreg : SReg) (data : Word) (s : State) : Res State := bitChange (fun v => v ||| data) sreg s

/-- `BIT CLR`. -/
def execBitClr18a (sreg : SReg) (data : Word) (s : State) : Res State := bitChange (fun v => v &&& ~~~data) sreg s

/-- `BIT TGL`. -/
def execBitTgl18a (sreg : SReg) (data : Word) (s : State) : Res State := bitChange (fun v => v ^^^ data) sreg s

/-- `BIT TST`. -/
def execBitTst18a (sreg : SReg) (data : Word) (s : State) : Res State :=
  sregTest (fun v => v &&& data == data) sreg s

/-- `BIT XOR`. -/
def execBitXor18a (sreg : SReg) (data : Word) (s : State) : Res State := sregTest (fun v => v == data) sreg s

/-! ## Type 19 (R485, R486); the destination is `is xor idx` (log 15) -/

/-- MODIFY with an immediate (R485). -/
def execModifyImm19a (g : Bool) (idx is : DagNum) (data : Word) (s : State) : Res State :=
  .next (modifyIndex s (dagReg g is) (dagReg g (is ^^^ idx)) data s)

/-- BITREV (R486). -/
def execBitrev19a (g : Bool) (idx is : DagNum) (data : Word) (s : State) : Res State :=
  .next (s.setI (dagReg g (is ^^^ idx)) (rev32 (s.ireg (dagReg g is) + data)))

/-! ## Type 20 (R490 to R494) -/

/-- PUSH LOOP. -/
def doPushLoop (t : State) : Res State := (pushLoopPointer t).map State.syncLce

/-- POP LOOP. -/
def doPopLoop (t : State) : Res State := (popLoop t).map State.syncLce

/-- PUSH STS: the new MODE1 is an explicit write (70_reset_and_hazards.md R850 (a)). -/
def doPushSts (t : State) : Res State :=
  let u := saveStatus t
  .next (u.setSys { u.sys with mode1 := u.sys.mode1.write (maskedMode1 t) })

/-- POP STS: MODE1 is an explicit write, the flags a hardware update. -/
def doPopSts (t : State) : Res State :=
  (takeStatus t).map fun (e, u) =>
    let u := restoreAstat e u
    u.setSys { u.sys with mode1 := u.sys.mode1.write e.mode1 }

/-- POP PCSTK. -/
def doPopPcstk (t : State) : Res State := (popPc t).map fun (_, t) => t

/-- FLUSH CACHE (R494): the cache is emptied at the end of the next step (20_memory.md R221). -/
def flushCache (t : State) : State := t.setScratch { t.scratch with flush := true }

/-- A stack operation when its bit is set. -/
def when (b : Bool) (f : State → Res State) (t : State) : Res State := if b then f t else .next t

/-- Type 20a with any combination of bits; a push with a pop is outside the domain (R490). -/
def execStackOps20a (lpu lpo spu spo ppu ppo fc : Bool) (s : State) : Res State :=
  if (lpu || spu || ppu) && (lpo || spo || ppo) then .refused .pushWithPop
  else
    Res.bind (when lpu doPushLoop s) fun t => Res.bind (when lpo doPopLoop t) fun t =>
      Res.bind (when spu doPushSts t) fun t => Res.bind (when spo doPopSts t) fun t =>
        Res.bind (when ppu pushPcPointer t) fun t => Res.bind (when ppo doPopPcstk t) fun t =>
          .next (if fc then flushCache t else t)

/-- `PUSH LOOP`. -/
def execPushLoop20a (s : State) : Res State := doPushLoop s

/-- `POP LOOP`. -/
def execPopLoop20a (s : State) : Res State := doPopLoop s

/-- `PUSH STS`. -/
def execPushSts20a (s : State) : Res State := doPushSts s

/-- `POP STS`. -/
def execPopSts20a (s : State) : Res State := doPopSts s

/-- `PUSH PCSTK`. -/
def execPushPcstk20a (s : State) : Res State := pushPcPointer s

/-- `POP PCSTK`. -/
def execPopPcstk20a (s : State) : Res State := doPopPcstk s

/-- `FLUSH CACHE`. -/
def execFlushCache20a (s : State) : Res State := .next (flushCache s)

/-! ## Types 21 and 22 (R498 to R501) -/

/-- `NOP` (R498). -/
def execNop21a (s : State) : Res State := .next s

/-- `NOP`, VISA. -/
def execNop21c (s : State) : Res State := .next s

/-- The idle state (R500); the step still moves the PC past the instruction. -/
def goIdle (s : State) : State := s.setSeq { s.seq with idle := true }

/-- `IDLE`. -/
def execIdle22a (s : State) : Res State := .next (goIdle s)

/-- `EMUIDLE`: a NOP where no emulator is attached (R501, log 25). -/
def execEmuidle22a (s : State) : Res State := .next s

/-- `IDLE` or, with `emu`, `EMUIDLE`, VISA. -/
def execIdle22c (emu : Bool) (s : State) : Res State := .next (if emu then s else goIdle s)

/-! ## Type 25 (R505, R506) -/

/-- CJUMP: a delayed jump that saves the frame pointer I6 in R2, and in SIMD mode in S2, and moves I7 to I6. -/
def cjump (target : Addr24) (s : State) : Res State :=
  let t := s.setReg32 .x 2 (s.ireg 6)
  let t := if s.simd then t.setReg32 .y 2 (s.ireg 6) else t
  .next (goTo true target (t.setI 6 (s.ireg 7)))

/-- `CJUMP addr24 (DB)`. -/
def execCjumpDirect25a (addr : Addr24) (s : State) : Res State := cjump addr s

/-- `CJUMP (PC, reladdr24) (DB)`. -/
def execCjumpRel25a (rel : Addr24) (s : State) : Res State := cjump (relTarget s rel) s

/-- RFRAME: I7 takes I6, and I6 is loaded from where it points (R506). -/
def rframe (s : State) : Res State :=
  loadTransfer s .open
    { pm := false, addr := preAddr s 6 0, lw := false, dual := false, conditional := false, index := some 6 } (.i 6)
    (s.setI 7 (s.ireg 6))

/-- `RFRAME`. -/
def execRframe25a (s : State) : Res State := rframe s

/-- `RFRAME`, VISA. -/
def execRframe25c (s : State) : Res State := rframe s

end Sys2Proof.Machine
end

