-- ==== Sys2Proof/Machine/Dispatch.lean ====
section
/-! DEFINITION. The meaning of an instruction: one arm per constructor, one call of its own meaning. -/

namespace Sys2Proof.Machine

def exec (i : Instr) (s : State) : Host.Outcome State Fault Refusal :=
  match i with
  | .dualMove1a dmd dmi dmm pmd dmdreg pmi pmm pmdreg c => Sys2Proof.Machine.execDualMove1a dmd dmi dmm pmd dmdreg pmi pmm pmdreg c s
  | .compute2a cond c => Sys2Proof.Machine.execCompute2a cond c s
  | .memUreg3a u ix m cond g d l ureg c => Sys2Proof.Machine.execMemUreg3a u ix m cond g d l ureg c s
  | .memDreg4a ix g d u cond data dreg c => Sys2Proof.Machine.execMemDreg4a ix g d u cond data dreg c s
  | .move5a src cond dst c => Sys2Proof.Machine.execMove5a src cond dst c s
  | .swap5a cdreg cond dreg c => Sys2Proof.Machine.execSwap5a cdreg cond dreg c s
  | .shiftMem6a ix m cond g d dreg sh => Sys2Proof.Machine.execShiftMem6a ix m cond g d dreg sh s
  | .shift6a cond sh => Sys2Proof.Machine.execShift6a cond sh s
  | .modify7a g cond is m idx c => Sys2Proof.Machine.execModify7a g cond is m idx c s
  | .jumpDirect8a a cond j ci addr => Sys2Proof.Machine.execJumpDirect8a a cond j ci addr s
  | .jumpRel8a a cond j ci rel => Sys2Proof.Machine.execJumpRel8a a cond j ci rel s
  | .callDirect8a a cond j ci addr => Sys2Proof.Machine.execCallDirect8a a cond j ci addr s
  | .callRel8a a cond j ci rel => Sys2Proof.Machine.execCallRel8a a cond j ci rel s
  | .jumpInd9a a cond pmi pmm j e ci c => Sys2Proof.Machine.execJumpInd9a a cond pmi pmm j e ci c s
  | .jumpRel9a a cond rel j e ci c => Sys2Proof.Machine.execJumpRel9a a cond rel j e ci c s
  | .callInd9a a cond pmi pmm j e ci c => Sys2Proof.Machine.execCallInd9a a cond pmi pmm j e ci c s
  | .callRel9a a cond rel j e ci c => Sys2Proof.Machine.execCallRel9a a cond rel j e ci c s
  | .jumpInd10a d dmi dmm cond pmi pmm dreg c => Sys2Proof.Machine.execJumpInd10a d dmi dmm cond pmi pmm dreg c s
  | .jumpRel10a d dmi dmm cond rel dreg c => Sys2Proof.Machine.execJumpRel10a d dmi dmm cond rel dreg c s
  | .rts11a cond j e lr c => Sys2Proof.Machine.execRts11a cond j e lr c s
  | .rti11a cond j e c => Sys2Proof.Machine.execRti11a cond j e c s
  | .doImm12a data rel => Sys2Proof.Machine.execDoImm12a data rel s
  | .doUreg12a ureg rel => Sys2Proof.Machine.execDoUreg12a ureg rel s
  | .doUntil13a term rel => Sys2Proof.Machine.execDoUntil13a term rel s
  | .memDirect14a g d l ureg addr => Sys2Proof.Machine.execMemDirect14a g d l ureg addr s
  | .memOffset15a g ix d l ureg data => Sys2Proof.Machine.execMemOffset15a g ix d l ureg data s
  | .storeImm16a ix m g data => Sys2Proof.Machine.execStoreImm16a ix m g data s
  | .loadImm17a ureg data => Sys2Proof.Machine.execLoadImm17a ureg data s
  | .bitSet18a sreg data => Sys2Proof.Machine.execBitSet18a sreg data s
  | .bitClr18a sreg data => Sys2Proof.Machine.execBitClr18a sreg data s
  | .bitTgl18a sreg data => Sys2Proof.Machine.execBitTgl18a sreg data s
  | .bitTst18a sreg data => Sys2Proof.Machine.execBitTst18a sreg data s
  | .bitXor18a sreg data => Sys2Proof.Machine.execBitXor18a sreg data s
  | .modifyImm19a g idx is data => Sys2Proof.Machine.execModifyImm19a g idx is data s
  | .bitrev19a g idx is data => Sys2Proof.Machine.execBitrev19a g idx is data s
  | .stackOps20a lpu lpo spu spo ppu ppo fc => Sys2Proof.Machine.execStackOps20a lpu lpo spu spo ppu ppo fc s
  | .pushLoop20a => Sys2Proof.Machine.execPushLoop20a s
  | .popLoop20a => Sys2Proof.Machine.execPopLoop20a s
  | .pushSts20a => Sys2Proof.Machine.execPushSts20a s
  | .popSts20a => Sys2Proof.Machine.execPopSts20a s
  | .pushPcstk20a => Sys2Proof.Machine.execPushPcstk20a s
  | .popPcstk20a => Sys2Proof.Machine.execPopPcstk20a s
  | .flushCache20a => Sys2Proof.Machine.execFlushCache20a s
  | .nop21a => Sys2Proof.Machine.execNop21a s
  | .idle22a => Sys2Proof.Machine.execIdle22a s
  | .emuidle22a => Sys2Proof.Machine.execEmuidle22a s
  | .cjumpDirect25a addr => Sys2Proof.Machine.execCjumpDirect25a addr s
  | .cjumpRel25a rel => Sys2Proof.Machine.execCjumpRel25a rel s
  | .rframe25a => Sys2Proof.Machine.execRframe25a s
  | .dualMove1b dmd dmi dmm pmd dmdreg pmi pmm pmdreg => Sys2Proof.Machine.execDualMove1b dmd dmi dmm pmd dmdreg pmi pmm pmdreg s
  | .compute2b c => Sys2Proof.Machine.execCompute2b c s
  | .memUreg3b u ix m cond g d l ureg => Sys2Proof.Machine.execMemUreg3b u ix m cond g d l ureg s
  | .memDreg4b ix g d u cond data dreg => Sys2Proof.Machine.execMemDreg4b ix g d u cond data dreg s
  | .move5b src cond dst => Sys2Proof.Machine.execMove5b src cond dst s
  | .swap5b cdreg cond dreg => Sys2Proof.Machine.execSwap5b cdreg cond dreg s
  | .modify7b g cond is m idx => Sys2Proof.Machine.execModify7b g cond is m idx s
  | .jumpInd9b a cond pmi pmm j ci => Sys2Proof.Machine.execJumpInd9b a cond pmi pmm j ci s
  | .jumpRel9b a cond rel j ci => Sys2Proof.Machine.execJumpRel9b a cond rel j ci s
  | .callInd9b a cond pmi pmm j ci => Sys2Proof.Machine.execCallInd9b a cond pmi pmm j ci s
  | .callRel9b a cond rel j ci => Sys2Proof.Machine.execCallRel9b a cond rel j ci s
  | .memOffset15b ix d l g ureg data => Sys2Proof.Machine.execMemOffset15b ix d l g ureg data s
  | .storeImm16b ix m g data => Sys2Proof.Machine.execStoreImm16b ix m g data s
  | .loadImm17b ureg data => Sys2Proof.Machine.execLoadImm17b ureg data s
  | .shortAdd2c rn rx => Sys2Proof.Machine.execShortAdd2c rn rx s
  | .shortSub2c rn rx => Sys2Proof.Machine.execShortSub2c rn rx s
  | .shortPass2c rn rx => Sys2Proof.Machine.execShortPass2c rn rx s
  | .shortComp2c rn rx => Sys2Proof.Machine.execShortComp2c rn rx s
  | .shortNot2c rn rx => Sys2Proof.Machine.execShortNot2c rn rx s
  | .shortInc2c rn rx => Sys2Proof.Machine.execShortInc2c rn rx s
  | .shortDec2c rn rx => Sys2Proof.Machine.execShortDec2c rn rx s
  | .shortMul2c rn rx => Sys2Proof.Machine.execShortMul2c rn rx s
  | .shortFAdd2c rn rx => Sys2Proof.Machine.execShortFAdd2c rn rx s
  | .shortFSub2c rn rx => Sys2Proof.Machine.execShortFSub2c rn rx s
  | .shortFloat2c rn rx => Sys2Proof.Machine.execShortFloat2c rn rx s
  | .shortFComp2c rn rx => Sys2Proof.Machine.execShortFComp2c rn rx s
  | .shortAnd2c rn rx => Sys2Proof.Machine.execShortAnd2c rn rx s
  | .shortOr2c rn rx => Sys2Proof.Machine.execShortOr2c rn rx s
  | .shortXor2c rn rx => Sys2Proof.Machine.execShortXor2c rn rx s
  | .shortFMul2c rn rx => Sys2Proof.Machine.execShortFMul2c rn rx s
  | .memDreg3c ix m d dreg => Sys2Proof.Machine.execMemDreg3c ix m d dreg s
  | .rts11c cond j lr => Sys2Proof.Machine.execRts11c cond j lr s
  | .rti11c cond j => Sys2Proof.Machine.execRti11c cond j s
  | .nop21c => Sys2Proof.Machine.execNop21c s
  | .idle22c emu => Sys2Proof.Machine.execIdle22c emu s
  | .rframe25c => Sys2Proof.Machine.execRframe25c s
  | .aluAdd rn rx ry => Sys2Proof.Machine.execAluAdd rn rx ry s
  | .aluSub rn rx ry => Sys2Proof.Machine.execAluSub rn rx ry s
  | .aluAddCi rn rx ry => Sys2Proof.Machine.execAluAddCi rn rx ry s
  | .aluSubCi rn rx ry => Sys2Proof.Machine.execAluSubCi rn rx ry s
  | .aluAvg rn rx ry => Sys2Proof.Machine.execAluAvg rn rx ry s
  | .aluComp rx ry => Sys2Proof.Machine.execAluComp rx ry s
  | .aluCompu rx ry => Sys2Proof.Machine.execAluCompu rx ry s
  | .aluIncCi rn rx => Sys2Proof.Machine.execAluIncCi rn rx s
  | .aluDecCi rn rx => Sys2Proof.Machine.execAluDecCi rn rx s
  | .aluInc rn rx => Sys2Proof.Machine.execAluInc rn rx s
  | .aluDec rn rx => Sys2Proof.Machine.execAluDec rn rx s
  | .aluNeg rn rx => Sys2Proof.Machine.execAluNeg rn rx s
  | .aluAbs rn rx => Sys2Proof.Machine.execAluAbs rn rx s
  | .aluPass rn rx => Sys2Proof.Machine.execAluPass rn rx s
  | .aluAnd rn rx ry => Sys2Proof.Machine.execAluAnd rn rx ry s
  | .aluOr rn rx ry => Sys2Proof.Machine.execAluOr rn rx ry s
  | .aluXor rn rx ry => Sys2Proof.Machine.execAluXor rn rx ry s
  | .aluNot rn rx => Sys2Proof.Machine.execAluNot rn rx s
  | .aluMin rn rx ry => Sys2Proof.Machine.execAluMin rn rx ry s
  | .aluMax rn rx ry => Sys2Proof.Machine.execAluMax rn rx ry s
  | .aluClip rn rx ry => Sys2Proof.Machine.execAluClip rn rx ry s
  | .fAdd rn rx ry => Sys2Proof.Machine.execFAdd rn rx ry s
  | .fSub rn rx ry => Sys2Proof.Machine.execFSub rn rx ry s
  | .fAbsAdd rn rx ry => Sys2Proof.Machine.execFAbsAdd rn rx ry s
  | .fAbsSub rn rx ry => Sys2Proof.Machine.execFAbsSub rn rx ry s
  | .fAvg rn rx ry => Sys2Proof.Machine.execFAvg rn rx ry s
  | .fComp rx ry => Sys2Proof.Machine.execFComp rx ry s
  | .fNeg rn rx => Sys2Proof.Machine.execFNeg rn rx s
  | .fAbs rn rx => Sys2Proof.Machine.execFAbs rn rx s
  | .fPass rn rx => Sys2Proof.Machine.execFPass rn rx s
  | .fRnd rn rx => Sys2Proof.Machine.execFRnd rn rx s
  | .fScalb rn rx ry => Sys2Proof.Machine.execFScalb rn rx ry s
  | .fMant rn rx => Sys2Proof.Machine.execFMant rn rx s
  | .fLogb rn rx => Sys2Proof.Machine.execFLogb rn rx s
  | .fFix rn rx => Sys2Proof.Machine.execFFix rn rx s
  | .fFixBy rn rx ry => Sys2Proof.Machine.execFFixBy rn rx ry s
  | .fTrunc rn rx => Sys2Proof.Machine.execFTrunc rn rx s
  | .fTruncBy rn rx ry => Sys2Proof.Machine.execFTruncBy rn rx ry s
  | .fFloat rn rx => Sys2Proof.Machine.execFFloat rn rx s
  | .fFloatBy rn rx ry => Sys2Proof.Machine.execFFloatBy rn rx ry s
  | .fRecips rn rx => Sys2Proof.Machine.execFRecips rn rx s
  | .fRsqrts rn rx => Sys2Proof.Machine.execFRsqrts rn rx s
  | .fCopysign rn rx ry => Sys2Proof.Machine.execFCopysign rn rx ry s
  | .fMin rn rx ry => Sys2Proof.Machine.execFMin rn rx ry s
  | .fMax rn rx ry => Sys2Proof.Machine.execFMax rn rx ry s
  | .fClip rn rx ry => Sys2Proof.Machine.execFClip rn rx ry s
  | .mulRn md rn rx ry => Sys2Proof.Machine.execMulRn md rn rx ry s
  | .mulMrf md rx ry => Sys2Proof.Machine.execMulMrf md rx ry s
  | .mulMrb md rx ry => Sys2Proof.Machine.execMulMrb md rx ry s
  | .mulRnAddF md rn rx ry => Sys2Proof.Machine.execMulRnAddF md rn rx ry s
  | .mulRnAddB md rn rx ry => Sys2Proof.Machine.execMulRnAddB md rn rx ry s
  | .mulAddF md rx ry => Sys2Proof.Machine.execMulAddF md rx ry s
  | .mulAddB md rx ry => Sys2Proof.Machine.execMulAddB md rx ry s
  | .mulRnSubF md rn rx ry => Sys2Proof.Machine.execMulRnSubF md rn rx ry s
  | .mulRnSubB md rn rx ry => Sys2Proof.Machine.execMulRnSubB md rn rx ry s
  | .mulSubF md rx ry => Sys2Proof.Machine.execMulSubF md rx ry s
  | .mulSubB md rx ry => Sys2Proof.Machine.execMulSubB md rx ry s
  | .satRnF fmt rn => Sys2Proof.Machine.execSatRnF fmt rn s
  | .satRnB fmt rn => Sys2Proof.Machine.execSatRnB fmt rn s
  | .satF fmt => Sys2Proof.Machine.execSatF fmt s
  | .satB fmt => Sys2Proof.Machine.execSatB fmt s
  | .rndRnF sgn rn => Sys2Proof.Machine.execRndRnF sgn rn s
  | .rndRnB sgn rn => Sys2Proof.Machine.execRndRnB sgn rn s
  | .rndF sgn => Sys2Proof.Machine.execRndF sgn s
  | .rndB sgn => Sys2Proof.Machine.execRndB sgn s
  | .clrF => Sys2Proof.Machine.execClrF s
  | .clrB => Sys2Proof.Machine.execClrB s
  | .fMul rn rx ry => Sys2Proof.Machine.execFMul rn rx ry s
  | .mrGet sel rn => Sys2Proof.Machine.execMrGet sel rn s
  | .mrSet sel rn => Sys2Proof.Machine.execMrSet sel rn s
  | .lshift rn rx ry => Sys2Proof.Machine.execLshift rn rx ry s
  | .orLshift rn rx ry => Sys2Proof.Machine.execOrLshift rn rx ry s
  | .ashift rn rx ry => Sys2Proof.Machine.execAshift rn rx ry s
  | .orAshift rn rx ry => Sys2Proof.Machine.execOrAshift rn rx ry s
  | .rot rn rx ry => Sys2Proof.Machine.execRot rn rx ry s
  | .bclr rn rx ry => Sys2Proof.Machine.execBclr rn rx ry s
  | .bset rn rx ry => Sys2Proof.Machine.execBset rn rx ry s
  | .btgl rn rx ry => Sys2Proof.Machine.execBtgl rn rx ry s
  | .btst rx ry => Sys2Proof.Machine.execBtst rx ry s
  | .fdep rn rx ry => Sys2Proof.Machine.execFdep rn rx ry s
  | .orFdep rn rx ry => Sys2Proof.Machine.execOrFdep rn rx ry s
  | .fdepSe rn rx ry => Sys2Proof.Machine.execFdepSe rn rx ry s
  | .orFdepSe rn rx ry => Sys2Proof.Machine.execOrFdepSe rn rx ry s
  | .fext rn rx ry => Sys2Proof.Machine.execFext rn rx ry s
  | .fextSe rn rx ry => Sys2Proof.Machine.execFextSe rn rx ry s
  | .exp rn rx => Sys2Proof.Machine.execExp rn rx s
  | .expEx rn rx => Sys2Proof.Machine.execExpEx rn rx s
  | .leftz rn rx => Sys2Proof.Machine.execLeftz rn rx s
  | .lefto rn rx => Sys2Proof.Machine.execLefto rn rx s
  | .fpack rn rx => Sys2Proof.Machine.execFpack rn rx s
  | .funpack rn rx => Sys2Proof.Machine.execFunpack rn rx s
  | .bitdep rx ry => Sys2Proof.Machine.execBitdep rx ry s
  | .bitext rn rx => Sys2Proof.Machine.execBitext rn rx s
  | .bitextNu rn rx => Sys2Proof.Machine.execBitextNu rn rx s
  | .bffwrpSet rn => Sys2Proof.Machine.execBffwrpSet rn s
  | .bffwrpGet rn => Sys2Proof.Machine.execBffwrpGet rn s
  | .lshiftImm data rn rx => Sys2Proof.Machine.execLshiftImm data rn rx s
  | .orLshiftImm data rn rx => Sys2Proof.Machine.execOrLshiftImm data rn rx s
  | .ashiftImm data rn rx => Sys2Proof.Machine.execAshiftImm data rn rx s
  | .orAshiftImm data rn rx => Sys2Proof.Machine.execOrAshiftImm data rn rx s
  | .rotImm data rn rx => Sys2Proof.Machine.execRotImm data rn rx s
  | .bclrImm data rn rx => Sys2Proof.Machine.execBclrImm data rn rx s
  | .bsetImm data rn rx => Sys2Proof.Machine.execBsetImm data rn rx s
  | .btglImm data rn rx => Sys2Proof.Machine.execBtglImm data rn rx s
  | .btstImm data rx => Sys2Proof.Machine.execBtstImm data rx s
  | .fdepImm imm rn rx => Sys2Proof.Machine.execFdepImm imm rn rx s
  | .orFdepImm imm rn rx => Sys2Proof.Machine.execOrFdepImm imm rn rx s
  | .fdepSeImm imm rn rx => Sys2Proof.Machine.execFdepSeImm imm rn rx s
  | .orFdepSeImm imm rn rx => Sys2Proof.Machine.execOrFdepSeImm imm rn rx s
  | .fextImm imm rn rx => Sys2Proof.Machine.execFextImm imm rn rx s
  | .fextSeImm imm rn rx => Sys2Proof.Machine.execFextSeImm imm rn rx s
  | .bitdepImm imm rx => Sys2Proof.Machine.execBitdepImm imm rx s
  | .bitextImm imm rn => Sys2Proof.Machine.execBitextImm imm rn s
  | .bitextNuImm imm rn => Sys2Proof.Machine.execBitextNuImm imm rn s
  | .bffwrpImm data => Sys2Proof.Machine.execBffwrpImm data s
  | .dualAddSub ra rs rx ry => Sys2Proof.Machine.execDualAddSub ra rs rx ry s
  | .fDualAddSub ra rs rx ry => Sys2Proof.Machine.execFDualAddSub ra rs rx ry s
  | .mulRmAdd rm ra xm ym xa ya => Sys2Proof.Machine.execMulRmAdd rm ra xm ym xa ya s
  | .mulRmSub rm ra xm ym xa ya => Sys2Proof.Machine.execMulRmSub rm ra xm ym xa ya s
  | .mulRmAvg rm ra xm ym xa ya => Sys2Proof.Machine.execMulRmAvg rm ra xm ym xa ya s
  | .macFAdd ra xm ym xa ya => Sys2Proof.Machine.execMacFAdd ra xm ym xa ya s
  | .macFSub ra xm ym xa ya => Sys2Proof.Machine.execMacFSub ra xm ym xa ya s
  | .macFAvg ra xm ym xa ya => Sys2Proof.Machine.execMacFAvg ra xm ym xa ya s
  | .macRmAdd rm ra xm ym xa ya => Sys2Proof.Machine.execMacRmAdd rm ra xm ym xa ya s
  | .macRmSub rm ra xm ym xa ya => Sys2Proof.Machine.execMacRmSub rm ra xm ym xa ya s
  | .macRmAvg rm ra xm ym xa ya => Sys2Proof.Machine.execMacRmAvg rm ra xm ym xa ya s
  | .msubFAdd ra xm ym xa ya => Sys2Proof.Machine.execMsubFAdd ra xm ym xa ya s
  | .msubFSub ra xm ym xa ya => Sys2Proof.Machine.execMsubFSub ra xm ym xa ya s
  | .msubFAvg ra xm ym xa ya => Sys2Proof.Machine.execMsubFAvg ra xm ym xa ya s
  | .msubRmAdd rm ra xm ym xa ya => Sys2Proof.Machine.execMsubRmAdd rm ra xm ym xa ya s
  | .msubRmSub rm ra xm ym xa ya => Sys2Proof.Machine.execMsubRmSub rm ra xm ym xa ya s
  | .msubRmAvg rm ra xm ym xa ya => Sys2Proof.Machine.execMsubRmAvg rm ra xm ym xa ya s
  | .fMulAdd rm ra xm ym xa ya => Sys2Proof.Machine.execFMulAdd rm ra xm ym xa ya s
  | .fMulSub rm ra xm ym xa ya => Sys2Proof.Machine.execFMulSub rm ra xm ym xa ya s
  | .fMulFloat rm ra xm ym xa ya => Sys2Proof.Machine.execFMulFloat rm ra xm ym xa ya s
  | .fMulFix rm ra xm ym xa ya => Sys2Proof.Machine.execFMulFix rm ra xm ym xa ya s
  | .fMulAvg rm ra xm ym xa ya => Sys2Proof.Machine.execFMulAvg rm ra xm ym xa ya s
  | .fMulAbs rm ra xm ym xa => Sys2Proof.Machine.execFMulAbs rm ra xm ym xa s
  | .fMulMax rm ra xm ym xa ya => Sys2Proof.Machine.execFMulMax rm ra xm ym xa ya s
  | .fMulMin rm ra xm ym xa ya => Sys2Proof.Machine.execFMulMin rm ra xm ym xa ya s
  | .mulDual rs rm ra xm ym xa ya => Sys2Proof.Machine.execMulDual rs rm ra xm ym xa ya s
  | .fMulDual rs rm ra xm ym xa ya => Sys2Proof.Machine.execFMulDual rs rm ra xm ym xa ya s

end Sys2Proof.Machine
end

