-- ==== Sys2Proof/Machine/Loop.lean ====
section
/-! DEFINITION. The hardware loop (`spec/41_group2_program_flow.md` R431 to R433) and the choice of the next address
(R400). -/

namespace Sys2Proof.Machine

/-- The end address of the innermost loop. -/
def State.loopEnd (s : State) : Addr24 := s.laddr.setWidth 24

/-- The termination code of the innermost loop (10_state.md R48). -/
def State.loopTerm (s : State) : Term := .ofCode (s.laddr.extractLsb' 24 5).toNat

/-- `n` is one of the last four instructions before and at `last` (R431, R437). -/
def inWindow (n last : Addr24) : Bool :=
  let d := (last - n).toNat
  if isVisa n then d == 0 || d == 3 || d == 6 || d == 9 else decide (d ≤ 3)

/-- A counter-based loop whose test is due at the PC (R431). -/
def loopTestDue (s : State) : Bool :=
  decide (0 < s.seq.ld) && s.loopTerm == .lce && inWindow s.seq.pc s.loopEnd && !s.loopTested

/-- `LoopTest`; at most one test for each of the six loops. A loop found expired is noted for a CALL (10_state.md R45).
Before which instruction it is made, and in a short loop (R432) each decrement and pop, is the spec's own decision (D21, log
42). -/
def loopTest : Nat → State → Res State
  | 0, s => .next s
  | k + 1, s =>
    if loopTestDue s then
      if loopLost s then .refused .loopStackOverflowed
      else if s.curlcntr = 1 then
        Res.bind (popLoop s) fun s => Res.bind (popPc s) fun (_, s) =>
          loopTest k (s.setScratch { s.scratch with loopEnded := true })
      else .next ((s.setCurlcntr (s.curlcntr - 1)).setTested true)
    else .next s

/-- The termination condition of an arithmetic loop holds in one element; a multiplier flag is seen one instruction
later (R433, log 29). -/
def termHolds (s : State) (e : Elem) (t : Term) : Bool :=
  let old (k : Test) : Word :=
    match k, e with
    | .mv, .x => s.seq.oldAstatx
    | .mv, .y => s.seq.oldAstaty
    | .ms, .x => s.seq.oldAstatx
    | .ms, .y => s.seq.oldAstaty
    | _, e => s.astatEff e
  match t with
  | .is k => testHolds (old k) s.flagsEff s.sys.mode1.eff k
  | .isNot k => !testHolds (old k) s.flagsEff s.sys.mode1.eff k
  | .lce => false
  | .forever => false

/-- The address before which an arithmetic loop from `top` to `last` is tested (R433). -/
def testPoint (top last : Addr24) : Addr24 :=
  if 3 ≤ bodyLength top last then last - (if isVisa last then 6 else 2) else last

/-- `ArithTest`, before the instruction that the spec's own decision names (D21, log 42). An instruction outside the body of a
loop on its way out is not of that loop (log 36). -/
def arithTest (s : State) : Res State :=
  if 0 < s.seq.ld ∧ s.loopTerm ≠ .lce ∧ leavingAt s s.seq.pc = none ∧ inWindow s.seq.pc s.loopEnd = true then
    if loopLost s then .refused .loopStackOverflowed
    else
      Res.bind (readPcstk s) fun entry =>
        let top : Addr24 := entry.setWidth 24
        let last := s.loopEnd
        if s.seq.pc = testPoint top last ∧ termHolds s .x s.loopTerm = true ∧
            (s.simd = true → termHolds s .y s.loopTerm = true) then
          Res.bind (popLoop s) fun s => Res.bind (popPc s) fun (_, s) =>
            .next (s.setSeq { s.seq with exiting := some { top := top, last := last, left := 3 } })
        else .next s
  else .next s

/-- The loop-back of the instruction at `n` (R431, R433). -/
def loopBack (n next : Addr24) (t : State) : Res (Addr24 × State) :=
  if 0 < t.seq.ld ∧ t.loopEnd = n then
    if t.loopTerm = .lce ∧ t.loopTested = false then .next (next, t)
    else if loopLost t then .refused .loopStackOverflowed
    else (readPcstk t).map fun entry => (entry.setWidth 24, t.setTested false)
  else .next (next, t)

/-- The address after the instruction at `n` in the absence of a branch: the way out of an arithmetic loop, a loop-back,
or the next instruction. Only the instructions of the body count for the way out (R433 "three more loop instructions";
log 36). The nested loops that R434 puts outside the modelled domain run by the same rules: DESIGN CHOICE (log 20). -/
def flowOn (n next : Addr24) (t : State) : Res (Addr24 × State) :=
  match leavingAt t n with
  | some x =>
    if x.left ≤ 1 then .next (x.last + lengthAt x.last 3, t.setSeq { t.seq with exiting := none })
    else
      .next (if n = x.last then x.top else next,
        t.setSeq { t.seq with exiting := some { x with left := x.left - 1 } })
  | none => loopBack n next t

/-- A branch of this instruction against a delayed branch pending before it: only a delayed one in the first slot has a
meaning (R406). DO UNTIL is no branch here, and runs in a slot: DESIGN CHOICE (log 22; R406 item 1 does not name it). -/
def branchAllowed (pending : Option Delayed) (t : State) : Bool :=
  match pending with
  | none => true
  | some d => t.scratch.br.isNone && (t.scratch.dbReq.isNone || decide (2 ≤ d.count))

/-- The delayed branch pending after this instruction. One that replaces another in its first slot has one slot to go, as the
other had (R400 step 5, R406 item 1). After IDLE in either slot it stays pending, so that no interrupt ends the idle state
(R406 item 4; 43_group4_misc.md R500). -/
def nextDelayed (pending : Option Delayed) (t : State) : Option Delayed :=
  match t.scratch.dbReq with
  | some target => some { target := target, count := if pending.isSome then 1 else 2 }
  | none =>
    match pending with
    | some d => if 2 ≤ d.count ∨ t.seq.idle = true then some { d with count := 1 } else none
    | none => none

/-- The PC after this instruction, whose flow without a branch is `next`. -/
def nextPc (pending : Option Delayed) (next : Addr24) (t : State) : Addr24 :=
  match pending with
  | some d => if d.count ≤ 1 ∧ t.seq.idle = false then d.target else next
  | none => t.scratch.br.getD next

/-- Steps 5 and 6 of R400 after the instruction of `len` address units at the PC of `s`, which left `t`; and the copies
of CURLCNTR for NOT LCE (R411). -/
def advance (s : State) (count : Word) (len : Nat) (t : State) : Res State :=
  let n := s.seq.pc
  if branchAllowed s.seq.db t then
    (flowOn n (n + .ofNat 24 len) t).map fun (next, t) =>
      t.setSeq { t.seq with
        pc := nextPc s.seq.db next t
        db := nextDelayed s.seq.db t
        irqHold := false
        clc1 := if t.scratch.lceSync then t.curlcntr else count
        clc2 := if t.scratch.lceSync then t.curlcntr else s.seq.clc1 }
  else .refused .branchInDelaySlot

end Sys2Proof.Machine
end

