-- ==== Sys2Proof/Machine/Step.lean ====
section
/-! DEFINITION. One step of the machine (`spec/41_group2_program_flow.md` R400): reset, an interrupt entry, an idle step,
or one instruction; and how a program's next instruction is placed. -/

namespace Sys2Proof.Machine

/-- The interrupt to be taken now, if any: held only by a delayed branch and by the first instruction of a service routine
(60_exceptions.md R745). -/
def interruptNow (s : State) : Option Nat :=
  if s.seq.db = none ∧ s.seq.irqHold = false then nextIrq s else none

/-- One instruction: the loop tests, the fetch, the meaning, the next address. A fetch of modified code is outside the
domain (20_memory.md R222; log 46), as is a PM data access directly after a change of the cache (R221,
93_implementation_defined.md item 10). Of the two loop tests the counter loop's comes first: DESIGN CHOICE (log 47; R400
and R433 give no order). -/
def runInstr (s : State) : Res State :=
  Res.bind (Res.bind (loopTest 7 s) arithTest) fun u =>
    Res.bind (fetch u.mem u.seq.pc) fun (i, len) =>
      if modifiedAt u.stale u.seq.pc len then .refused (.modifiedCode u.seq.pc)
      else if u.cacheHold && usesPm i then .refused .pmAccessAfterCacheChange
      else Res.bind (exec i u) fun t => advance u s.curlcntr len t

/-- A step with its input `inp` already taken into `s`. -/
def stepWith (inp : EnvInput) (s : State) : Res State :=
  if inp.reset ∨ s.iop.sysctl.eff.getLsbD 0 = true then .next s.restart
  else
    match interruptNow s with
    | some p => (takeInterrupt p s).map (endStep s inp none)
    | none =>
      if s.seq.idle then .next (endStep s inp none s)
      else (runInstr s).map (endStep s inp (some s.seq.pc))

/-- One step. -/
def step (s : State) : Host.Outcome State Fault Refusal := stepWith s.input s.takeInput

/-! ## Placing an instruction -/

/-- Where a VISA instruction of fewer than 48 bits is placed: the first RAM cell of block 0 that is a multiple of
0x10000. -/
def visaSlot : Addr24 := 0x130000

/-- Three cells from `c` up loaded with `w` from outside, not as a store. -/
def State.load48 (s : State) (c : Nat) (w : BitVec 48) : State :=
  { s with
    mem := write48 s.mem c w
    stale := s.stale.filter fun x => decide (x.cell < c) || decide (c + 3 ≤ x.cell) }

/-- The instruction of a table word of `nbits` bits placed where the next step fetches: 48 bits at the PC; 24 bits, a
compute or shift-immediate field, in an unconditional type 2a or 6a word at the PC; 32 or 16 bits at a VISA address, to
which the PC is set. -/
def State.withFetchWord (s : State) (nbits w : Nat) : State :=
  let word48 : BitVec 48 :=
    if nbits = 24 then
      (if (decodeCompute (w % 2 ^ 23)).isSome ∧ w % 2 ^ 23 ≠ 0 then .ofNat 48 (0x013E00000000 + w % 2 ^ 23)
       else .ofNat 48 (0x023E00000000 + w % 2 ^ 23))
    else .ofNat 48 w
  if nbits = 32 then
    (s.load48 visaSlot.toNat (.ofNat 48 (w / 2 ^ 16 % 2 ^ 16 + w % 2 ^ 16 * 2 ^ 16))).setSeq
      { s.seq with pc := visaSlot }
  else if nbits = 16 then
    (s.load48 visaSlot.toNat (.ofNat 48 (w % 2 ^ 16))).setSeq { s.seq with pc := visaSlot }
  else
    match cell48 s.seq.pc.toNat with
    | some c => s.load48 c word48
    | none => s

end Sys2Proof.Machine
end

