-- ==== Sys2Proof/Safety.lean ====
section
/-! DEFINITION. What counts as a safe run, and the terms in which statements speak of one: that an instruction answers a
next state, what it may change of it, the values of numbers, and the invariants of every step. -/

namespace Sys2Proof.Safety

open Sys2Proof.Machine

/-! ## Completion -/

/-- `i` answers a next state at `s`, and `p` holds of that state. -/
def gives (i : Instr) (s : State) (p : State → Prop) : Prop := ∃ t, exec i s = .next t ∧ p t

/-- One step of the machine answers a next state, and `p` holds of that state. -/
def stepGives (s : State) (p : State → Prop) : Prop := ∃ t, step s = .next t ∧ p t

/-- `p` of PEx and, in SIMD mode, of PEy (40_group1_compute_move.md R351). -/
def onRunning (s : State) (p : Elem → Prop) : Prop := p .x ∧ (s.simd = true → p .y)

/-! ## Frames -/

/-- All that differs are the two processing elements and their ASTAT and STKY. Memory, every other register and the
stacks are the same. -/
def onlyUnits (s t : State) : Prop :=
  t = { s with
    pex := t.pex
    pey := t.pey
    sys := { s.sys with
      astatx := t.sys.astatx
      astaty := t.sys.astaty
      stkyx := t.sys.stkyx
      stkyy := t.sys.stkyy } }

/-- Nothing of an element differs. -/
def elemSame (s t : State) (e : Elem) : Prop := t.pe e = s.pe e ∧ t.astat e = s.astat e ∧ t.stky e = s.stky e

/-- What an operation may change of its element: the data registers `regs` of the selected set, the result register
`acc` (true is MRB), the bit FIFO when `fifo`, the bits `flags` of ASTAT, and of STKY the bits `sticky`, which it may
only set. -/
structure UnitFrame (s t : State) (e : Elem) (regs : List RegNum) (acc : Option Bool) (fifo : Bool)
    (flags sticky : Word) : Prop where
  primary : ∀ m : RegNum, (m ∈ regs ∧ s.altReg m = false) ∨ (t.pe e).r[m.toNat] = (s.pe e).r[m.toNat]
  alternate : ∀ m : RegNum, (m ∈ regs ∧ s.altReg m = true) ∨ (t.pe e).rAlt[m.toNat] = (s.pe e).rAlt[m.toNat]
  accs : ∀ bg : Bool, acc = some bg ∨ t.mr e bg = s.mr e bg
  bits : fifo = true ∨ ((t.pe e).bff = (s.pe e).bff ∧ (t.pe e).bffwrp = (s.pe e).bffwrp)
  astat : (t.astat e).eff = (s.astat e).eff ∧ (t.astat e).wr = (s.astat e).wr ∧
    (t.astat e).val &&& ~~~flags = (s.astat e).val &&& ~~~flags
  stky : (t.stky e).eff = (s.stky e).eff ∧ (t.stky e).wr = (s.stky e).wr ∧
    (t.stky e).val ||| sticky = (s.stky e).val ||| sticky ∧ (s.stky e).val &&& ~~~(t.stky e).val = 0

/-- The data registers that an operation of the compute field writes (48_multifunction.md R704). -/
def dests : Compute → List RegNum
  | .none => []
  | .fix2 _ n _ _ => [n]
  | .fix1 _ n _ => [n]
  | .fixCmp _ _ _ => []
  | .flt2 _ n _ _ => [n]
  | .flt1 _ n _ => [n]
  | .fltCmp _ _ => []
  | .mulReg _ _ n _ _ => [n]
  | .mulAcc _ _ _ _ => []
  | .satReg _ _ n => [n]
  | .satAcc _ _ => []
  | .rndReg _ _ n => [n]
  | .rndAcc _ _ => []
  | .clrAcc _ => []
  | .fmul n _ _ => [n]
  | .mrGet _ n => [n]
  | .mrSet _ _ => []
  | .shf _ n _ _ => [n]
  | .fld _ n _ _ => [n]
  | .btst _ _ => []
  | .shf1 _ n _ => [n]
  | .bitdep _ _ => []
  | .bitext _ n _ => [n]
  | .bffwrpSet _ => []
  | .bffwrpGet n => [n]
  | .dualFix a d _ _ => [a, d]
  | .dualFlt a d _ _ => [a, d]
  | .mulAluReg _ _ m a _ _ _ _ => [m, a]
  | .mulAluAcc _ _ a _ _ _ _ => [a]
  | .fmulAlu _ m a _ _ _ _ => [m, a]
  | .fmulAbs m a _ _ _ => [m, a]
  | .mulDualFix d m a _ _ _ _ => [d, m, a]
  | .mulDualFlt d m a _ _ _ _ => [d, m, a]

/-- The result register that an operation writes; true is MRB (46_multiplier.md R610). -/
def accDest : Compute → Option Bool
  | .mulAcc .mulF _ _ _ => some false
  | .mulAcc .addF _ _ _ => some false
  | .mulAcc .subF _ _ _ => some false
  | .mulAcc _ _ _ _ => some true
  | .satAcc bg _ => some bg
  | .rndAcc bg _ => some bg
  | .clrAcc bg => some bg
  | .mrSet sel _ => some sel.background
  | .mulAluAcc _ _ _ _ _ _ _ => some false
  | _ => none

/-- The operation writes the bit FIFO or its write pointer (47_shifter.md R680). -/
def fifoDest : Compute → Bool
  | .bitdep _ _ => true
  | .bitext nu _ _ => !nu
  | .bffwrpSet _ => true
  | _ => false

/-- The bits of ASTAT that an operation may change: the seven ALU flags with CACC for a compare, MN, MV, MU and MI, or
SV, SZ and SS (10_state.md R56). -/
def flagBits : Compute → Word
  | .none => 0
  | .fix2 _ _ _ _ => 0x43F
  | .fix1 _ _ _ => 0x43F
  | .fixCmp _ _ _ => 0xFF00043F
  | .flt2 _ _ _ _ => 0x43F
  | .flt1 _ _ _ => 0x43F
  | .fltCmp _ _ => 0xFF00043F
  | .mulReg _ _ _ _ _ => 0x3C0
  | .mulAcc _ _ _ _ => 0x3C0
  | .satReg _ _ _ => 0x3C0
  | .satAcc _ _ => 0x3C0
  | .rndReg _ _ _ => 0x3C0
  | .rndAcc _ _ => 0x3C0
  | .clrAcc _ => 0
  | .fmul _ _ _ => 0x3C0
  | .mrGet _ _ => 0
  | .mrSet _ _ => 0
  | .shf _ _ _ _ => 0x3800
  | .fld _ _ _ _ => 0x3800
  | .btst _ _ => 0x3800
  | .shf1 _ _ _ => 0x3800
  | .bitdep _ _ => 0x3800
  | .bitext _ _ _ => 0x3800
  | .bffwrpSet _ => 0x3800
  | .bffwrpGet _ => 0x3800
  | .dualFix _ _ _ _ => 0x43F
  | .dualFlt _ _ _ _ => 0x43F
  | .mulAluReg _ _ _ _ _ _ _ _ => 0x7FF
  | .mulAluAcc _ _ _ _ _ _ _ => 0x7FF
  | .fmulAlu _ _ _ _ _ _ _ => 0x7FF
  | .fmulAbs _ _ _ _ _ => 0x7FF
  | .mulDualFix _ _ _ _ _ _ _ => 0x7FF
  | .mulDualFlt _ _ _ _ _ _ _ => 0x7FF

/-- The bits of STKY that an operation may set: AUS, AVS, AOS, AIS (0, 1, 2, 5), MOS, MVS, MUS, MIS (6 to 9)
(10_state.md R63). -/
def stickyBits : Compute → Word
  | .fix2 _ _ _ _ => 0x004
  | .fix1 _ _ _ => 0x004
  | .flt2 _ _ _ _ => 0x023
  | .flt1 _ _ _ => 0x023
  | .fltCmp _ _ => 0x020
  | .mulReg _ _ _ _ _ => 0x040
  | .mulAcc _ _ _ _ => 0x040
  | .rndReg _ _ _ => 0x040
  | .rndAcc _ _ => 0x040
  | .fmul _ _ _ => 0x380
  | .dualFix _ _ _ _ => 0x004
  | .dualFlt _ _ _ _ => 0x023
  | .mulAluReg _ _ _ _ _ _ _ _ => 0x044
  | .mulAluAcc _ _ _ _ _ _ _ => 0x044
  | .fmulAlu _ _ _ _ _ _ _ => 0x3A3
  | .fmulAbs _ _ _ _ _ => 0x3A3
  | .mulDualFix _ _ _ _ _ _ _ => 0x044
  | .mulDualFlt _ _ _ _ _ _ _ => 0x3A3
  | _ => 0

/-- The frame of a compute as a whole instruction, in both modes. -/
def computeFrame (s t : State) (c : Compute) : Prop :=
  onlyUnits s t ∧ UnitFrame s t .x (dests c) (accDest c) (fifoDest c) (flagBits c) (stickyBits c) ∧
    (s.simd = true → UnitFrame s t .y (dests c) (accDest c) (fifoDest c) (flagBits c) (stickyBits c)) ∧
    (s.simd = false → elemSame s t .y)

/-- The operation of the compute field with the register operands of a shift-immediate operation, which has the same
frame (47_shifter.md R690). -/
def asCompute : ShiftImm → Compute
  | .by8 op _ n x => .shf op n x 0
  | .btst8 _ x => .btst x 0
  | .field op _ n x => .fld op n x 0
  | .bitdep12 _ x => .bitdep x 0
  | .bitext12 nu _ n => .bitext nu n 0
  | .bffwrp7 _ => .bffwrpSet 0

/-! ## Flags -/

/-- AZ, AN, AV, AC, AS, AI and AF of ASTAT (10_state.md R56). -/
def aluFlagsAre (t : State) (e : Elem) (az an av ac as ai af : Bool) : Prop :=
  (t.astat e).val.getLsbD 0 = az ∧ (t.astat e).val.getLsbD 2 = an ∧ (t.astat e).val.getLsbD 1 = av ∧
    (t.astat e).val.getLsbD 3 = ac ∧ (t.astat e).val.getLsbD 4 = as ∧ (t.astat e).val.getLsbD 5 = ai ∧
    (t.astat e).val.getLsbD 10 = af

/-- MN, MV, MU and MI of ASTAT (10_state.md R56). -/
def mulFlagsAre (t : State) (e : Elem) (mn mv mu mi : Bool) : Prop :=
  (t.astat e).val.getLsbD 6 = mn ∧ (t.astat e).val.getLsbD 7 = mv ∧ (t.astat e).val.getLsbD 8 = mu ∧
    (t.astat e).val.getLsbD 9 = mi

/-- SZ, SV and SS of ASTAT (10_state.md R56). -/
def shfFlagsAre (t : State) (e : Elem) (sz sv ss : Bool) : Prop :=
  (t.astat e).val.getLsbD 12 = sz ∧ (t.astat e).val.getLsbD 11 = sv ∧ (t.astat e).val.getLsbD 13 = ss

/-- The bits set in STKY are exactly those that were, and `bits`. -/
def stuck (s t : State) (e : Elem) (bits : Word) : Prop := (t.stky e).val = (s.stky e).val ||| bits

/-! ## Numbers -/

/-- The value of a conditioned floating-point pattern that is neither a NAN nor an infinity (45_alu_float.md R560). -/
def fpVal (v : Ext) : ℚ := (if fpSign v then -1 else 1) * (fpMant v : ℚ) * (2 : ℚ) ^ ((fpExp v : Int) - 158)

/-- Neither a NAN nor an infinity. -/
def fpFinite (v : Ext) : Prop := fpExp v ≠ 255

/-- A floating-point operand as an operation reads it (45_alu_float.md R561 (a), (b)). -/
def fpOperand (s : State) (e : Elem) (n : RegNum) : Ext := fpIn (s.mode1 16) (s.reg e n)

/-- The weight of the last place of a result at the rounding boundary (45_alu_float.md R561 (d)). -/
def fpUlp (b32 : Bool) (v : Ext) : ℚ := (2 : ℚ) ^ ((fpExp v : Int) - (if b32 then 150 else 158))

/-- `v` is `q` rounded: to nearest, of two nearest ones the even one, or toward zero by less than one last place
(45_alu_float.md R561 (d)). -/
def fpRounds (trunc b32 : Bool) (v : Ext) (q : ℚ) : Prop :=
  fpFinite v ∧ (b32 = true → v.extractLsb' 0 8 = 0) ∧
    (trunc = false → |fpVal v - q| ≤ fpUlp b32 v / 2 ∧
      (|fpVal v - q| = fpUlp b32 v / 2 → v.getLsbD (if b32 then 8 else 0) = false)) ∧
    (trunc = true → |fpVal v| ≤ |q| ∧ |fpVal v - q| < fpUlp b32 v ∧ 0 ≤ fpVal v * q)

/-- A value that neither underflows nor overflows at either boundary: from NORM.MIN to NORM.MAX (45_alu_float.md
R560). -/
def fpNormal (q : ℚ) : Prop := (2 : ℚ) ^ (-126 : Int) ≤ |q| ∧ |q| ≤ (2 - (2 : ℚ) ^ (-23 : Int)) * (2 : ℚ) ^ (127 : Int)

/-- The exact product of a fixed-point multiply: the operands read by their signedness, doubled when both are signed
fractions (46_multiplier.md R611). -/
def mulExact (md : MulMod) (x y : Word) : Int :=
  (if md.xSigned then x.toInt else (x.toNat : Int)) * (if md.ySigned then y.toInt else (y.toNat : Int)) *
    (if md.frac && md.xSigned && md.ySigned then 2 else 1)

/-- Rounding at bit 32 to nearest, ties to even (46_multiplier.md R613). -/
def roundAt32 (v : Int) : Int :=
  if v % 2 ^ 32 = 2 ^ 31 then 2 * ((v / 2 ^ 32 + 1) / 2) * 2 ^ 32 else (v + 2 ^ 31) / 2 ^ 32 * 2 ^ 32

/-- The overflow of a multiplier result: it does not fit its 64-bit fraction or its 32-bit integer (46_multiplier.md
R612). -/
def mulOverflows (signed frac : Bool) (r : Acc) : Bool :=
  let bits : Nat := if frac then 64 else 32
  if signed then decide (r.toInt < -(2 ^ (bits - 1)) ∨ 2 ^ (bits - 1) ≤ r.toInt) else decide (2 ^ bits ≤ r.toNat)

/-- The underflow of a fractional multiplier result: only bits below its 32-bit result are set (46_multiplier.md
R612). -/
def mulUnderflows (signed frac : Bool) (r : Acc) : Bool :=
  frac && r.extractLsb' 0 32 != 0 &&
    (if signed then decide (-(2 ^ 32) ≤ r.toInt ∧ r.toInt < 2 ^ 32) else decide (r.toNat < 2 ^ 32))

/-- `v` is what an exact value `q` that is not 0 rounds to, with overflow `ov` and underflow `un` (45_alu_float.md R561
(d), (e)). Of a `q` in the last place below the least normal number, or beyond the greatest, nothing is said. -/
def fpResult (trunc b32 : Bool) (q : ℚ) (v : Ext) (ov un : Bool) : Prop :=
  (fpNormal q → fpRounds trunc b32 v q ∧ ov = false ∧ un = false) ∧
    ((2 : ℚ) ^ 128 ≤ |q| →
      v = (if trunc then fpNormMax b32 (decide (q < 0)) else fpInfOf (decide (q < 0))) ∧ ov = true ∧ un = false) ∧
    (q ≠ 0 → |q| < (2 : ℚ) ^ (-126 : Int) - (2 : ℚ) ^ (-150 : Int) →
      v = fpZeroOf (decide (q < 0)) ∧ ov = false ∧ un = true)

/-- The number fits a 32-bit two's complement word. -/
def fits32 (d : Int) : Bool := decide (-(2 ^ 31) ≤ d ∧ d < 2 ^ 31)

/-- What the adder gives for the exact value `d`: the word, or with MODE1.ALUSAT the nearer limit when `d` does not fit
(44_alu_fixed.md R520 (d)). -/
def adderResult (s : State) (d : Int) : Word :=
  if !fits32 d && s.mode1 13 then (if 0 ≤ d then 0x7FFFFFFF else 0x80000000) else .ofInt 32 d

/-- A fixed-point ALU result `r` in register `n`, AZ and AN by it, AOS set when AV is (44_alu_fixed.md R520 (e)). -/
def fixResult (s t : State) (e : Elem) (n : RegNum) (r : Word) (av ac as : Bool) : Prop :=
  t.reg e n = r.toExt ∧ aluFlagsAre t e (r == 0) (r.getLsbD 31) av ac as false false ∧ stuck s t e (bitIf av 2)

/-- A floating-point ALU result `v` in register `n`, AZ by it, AC cleared and AF set (45_alu_float.md R561 (f)). -/
def fltResult (s t : State) (e : Elem) (n : RegNum) (v : Ext) (an av as ai : Bool) (sticky : Word) : Prop :=
  t.reg e n = v ∧ aluFlagsAre t e (fpZero v) an av false as ai true ∧ stuck s t e sticky

/-- A floating-point ALU result of the exact value `q`; a zero is `z`. -/
def fltRounded (s t : State) (e : Elem) (n : RegNum) (q : ℚ) (z : Ext) : Prop :=
  ∃ v ov un, fpResult (s.mode1 15) (s.mode1 16) q v ov un ∧ (q = 0 → v = z ∧ ov = false ∧ un = false) ∧
    fltResult s t e n v (fpSign v) ov false false (bitIf un 0 ||| bitIf ov 1)

/-- The flags of a fixed-point multiplier result `r`, with MV only where `mvEnable` (46_multiplier.md R612). -/
def mulFixFlagsAre (s t : State) (e : Elem) (r : Acc) (signed frac mvEnable : Bool) : Prop :=
  mulFlagsAre t e (r.getLsbD 79) (mvEnable && mulOverflows signed frac r) (mulUnderflows signed frac r) false ∧
    stuck s t e (bitIf (mvEnable && mulOverflows signed frac r) 6)

/-- The 80-bit value of a multiply of exact product `p` added to or subtracted from `acc` (46_multiplier.md R615, R620). -/
def mulResult (md : MulMod) (sub : Bool) (acc : Acc) (p : Int) : Acc :=
  let v : Acc := .ofInt 80 (if sub then acc.toInt - p else acc.toInt + p)
  if md.round then .ofInt 80 (roundAt32 v.toInt) else v

/-- The 32 bits of a multiplier result that go to a data register (46_multiplier.md R610 (c)). -/
def mulHalf (frac : Bool) (r : Acc) : Word := if frac then r.extractLsb' 32 32 else r.extractLsb' 0 32

/-- A shifter result `r` in register `n` with its flags (47_shifter.md R650). -/
def shfResult (s t : State) (e : Elem) (n : RegNum) (r : Word) (sz sv ss : Bool) : Prop :=
  t.reg e n = r.toExt ∧ shfFlagsAre t e sz sv ss ∧ stuck s t e 0

/-- The value of a 16-bit short floating-point pattern (47_shifter.md R675). -/
def halfVal (h : BitVec 16) : ℚ :=
  let e := (h.extractLsb' 11 4).toNat
  let f := (h.extractLsb' 0 11).toNat
  (if h.getLsbD 15 then -1 else 1) * (if e = 0 then (f : ℚ) else f + 2048) * (2 : ℚ) ^ ((max e 1 : Int) - 18)

/-- What a multiplier operation that left `m` and an ALU operation that left `a`, both from the same state, leave when
done in one instruction (48_multifunction.md R704): the ALU's registers `ras` win over the multiplier's `rms`. -/
structure Parallel (t m a : State) (e : Elem) (rms ras : List RegNum) : Prop where
  alu : ∀ n ∈ ras, t.reg e n = a.reg e n
  mul : ∀ n ∈ rms, n ∉ ras → t.reg e n = m.reg e n
  accs : ∀ bg : Bool, t.mr e bg = m.mr e bg
  aluFlags : (t.astat e).val &&& aluMask = (a.astat e).val &&& aluMask
  mulFlags : (t.astat e).val &&& mulMask = (m.astat e).val &&& mulMask
  sticky : (t.stky e).val = (m.stky e).val ||| (a.stky e).val

/-- An element as the instruction that left `u` leaves it, where `go`; else as in `s`. -/
def elemBy (s t u : State) (e : Elem) (go : Bool) : Prop := if go then elemSame u t e else elemSame s t e

/-! ## Memory -/

/-- The bytes of an access (log 6); a register of IOP space has none. -/
def Access.covers : Access → Nat → Prop
  | .iop, _ => False
  | .w16 c, b => 2 * c ≤ b ∧ b < 2 * c + 2
  | .w32 c, b => 2 * c ≤ b ∧ b < 2 * c + 4
  | .w64 c c', b => (2 * c ≤ b ∧ b < 2 * c + 4) ∨ (2 * c' ≤ b ∧ b < 2 * c' + 4)
  | .w48 c, b => 2 * c ≤ b ∧ b < 2 * c + 6
  | .w40 c, b => 2 * c ≤ b ∧ b < 2 * c + 6

/-- The access is to RAM in all its cells (20_memory.md R157). -/
def Access.inRam (a : Access) : Prop := ∀ b, Access.covers a b → cellRam (b / 2) = true

/-- Memory holds the data of a store where the access lies (20_memory.md R161 to R170). -/
def Access.holds (m : List Host.Cell) (d : StoreData) : Access → Prop
  | .iop => False
  | .w16 c => readCell m c = d.low.extractLsb' 0 16
  | .w32 c => read32 m c = d.low
  | .w64 c c' => read32 m c = d.low ∧ read32 m c' = d.high
  | .w48 c => read48 m c = d.wide
  | .w40 c => read48 m c = d.wide

/-- A 32-bit word at normal-word address `a` exists: its two cells lie in one block of the map, which is not a 40-bit
block (20_memory.md R153, R162). -/
def normalWord (s : State) (a : Word) : Prop :=
  0x80000 ≤ a.toNat ∧ a.toNat < 0x100000 ∧ mappedSpan (2 * a.toNat) 2 = true ∧ imdw s (2 * a.toNat) = false

/-- A normal word of RAM. -/
def ramWord (s : State) (a : Word) : Prop :=
  normalWord s a ∧ cellRam (2 * a.toNat) = true ∧ cellRam (2 * a.toNat + 1) = true

/-- The 32-bit word at a normal-word address (20_memory.md R154). -/
def wordAt (s : State) (a : Word) : Word := read32 s.mem (2 * a.toNat)

/-- The transfer may store; its class is that of the register or of the data it puts on the bus. -/
structure StoreTo where
  addr : Word
  cls : RegClass
  lw : Bool
  dual : Bool

/-- The transfers by which an instruction stores to memory, their addresses by the expressions of the meanings. -/
def stores (s : State) : Instr → List StoreTo
  | .dualMove1a dmd dmi _ pmd _ pmi _ _ _ =>
    (if dmd then [⟨postAddr s (dagReg false dmi), .dreg, false, true⟩] else []) ++
      (if pmd then [⟨postAddr s (dagReg true pmi), .dreg, false, true⟩] else [])
  | .dualMove1b dmd dmi _ pmd _ pmi _ _ =>
    (if dmd then [⟨postAddr s (dagReg false dmi), .dreg, false, true⟩] else []) ++
      (if pmd then [⟨postAddr s (dagReg true pmi), .dreg, false, true⟩] else [])
  | .memUreg3a u i m _ g true l ureg _ =>
    [⟨if u then postAddr s (dagReg g i) else preAddr s (dagReg g i) (s.mreg (dagReg g m)), ureg.cls, l, false⟩]
  | .memUreg3b u i m _ g true l ureg =>
    [⟨if u then postAddr s (dagReg g i) else preAddr s (dagReg g i) (s.mreg (dagReg g m)), ureg.cls, l, false⟩]
  | .memDreg3c i _ true _ => [⟨postAddr s (dagReg false i), .dreg, false, false⟩]
  | .memDreg4a i g true u _ data _ _ =>
    [⟨if u then postAddr s (dagReg g i) else preAddr s (dagReg g i) (data.signExtend 32), .dreg, false, false⟩]
  | .memDreg4b i g true u _ data _ =>
    [⟨if u then postAddr s (dagReg g i) else preAddr s (dagReg g i) (data.signExtend 32), .dreg, false, false⟩]
  | .shiftMem6a i _ _ g true _ _ => [⟨postAddr s (dagReg g i), .dreg, false, false⟩]
  | .jumpInd10a true dmi _ _ _ _ _ _ => [⟨postAddr s (dagReg false dmi), .dreg, false, false⟩]
  | .jumpRel10a true dmi _ _ _ _ _ => [⟨postAddr s (dagReg false dmi), .dreg, false, false⟩]
  | .memDirect14a _ true l ureg addr => [⟨addr, ureg.cls, l, false⟩]
  | .memOffset15a g i true l ureg data => [⟨preAddr s (dagReg g i) data, ureg.cls, l, false⟩]
  | .memOffset15b i true l g ureg data => [⟨preAddr s (dagReg g i) (data.signExtend 32), ureg.cls, l, false⟩]
  | .storeImm16a i _ g _ => [⟨postAddr s (dagReg g i), .dreg, false, false⟩]
  | .storeImm16b i _ g _ => [⟨postAddr s (dagReg g i), .dreg, false, false⟩]
  | _ => []

/-- Byte `b` lies in what a transfer stores to: its own access or, in SIMD mode, the one of the complementary register
one word on (20_memory.md R171). -/
def storesByte (s : State) (x : StoreTo) (b : Nat) : Prop :=
  (∃ a, classify s x.addr x.cls x.lw x.dual = .next a ∧ Access.covers a b) ∨
    (s.simd = true ∧ ∃ a', implicitAccess s x.addr x.cls x.lw = .next (some a') ∧ Access.covers a' b)

/-! ## Transfers -/

/-- The bytes of the 32-bit word at a normal-word address (20_memory.md R154). -/
def inWord (a : Word) (b : Nat) : Prop := 4 * a.toNat ≤ b ∧ b < 4 * a.toNat + 4

/-- Of the DAG registers only the index registers `regs` of the selected set may differ. -/
structure DagFrame (s t : State) (regs : List RegNum) : Prop where
  primary : ∀ n : RegNum, (n ∈ regs ∧ s.altDag n = false) ∨ t.dag.i[n.toNat] = s.dag.i[n.toNat]
  alternate : ∀ n : RegNum, (n ∈ regs ∧ s.altDag n = true) ∨ t.dagAlt.i[n.toNat] = s.dagAlt.i[n.toNat]
  others : t.dag.m = s.dag.m ∧ t.dag.l = s.dag.l ∧ t.dag.b = s.dag.b ∧ t.dagAlt.m = s.dagAlt.m ∧
    t.dagAlt.l = s.dagAlt.l ∧ t.dagAlt.b = s.dagAlt.b

/-- An index register after a post-modify: in a circular buffer where MODE1.CBUFEN is 1 (20_memory.md R182, R184). -/
def stepped (s : State) (a : RegNum) (mod : Word) : Word :=
  if s.mode1 24 then (circReg s a mod).1 else s.ireg a + mod

/-- A post-modify of index register `a` by `k` wraps in a circular buffer (20_memory.md R183, R184). -/
def wraps (s : State) (a : RegNum) (k : Word) : Bool :=
  let sum : Int := (s.ireg a).toNat + k.toInt
  let base : Int := (s.breg a).toNat
  s.mode1 24 && (if 0 ≤ k.toInt then decide (base + (s.lreg a).toNat ≤ sum) else decide (sum < base))

/-- The bit of STKYx that such a wrap sets: CB7S (17) for I7, CB15S (18) for I15 (20_memory.md R185). -/
def wrapSticky (s : State) (a : RegNum) (k : Word) : Word :=
  if wraps s a k then (if a = 7 then 0x00020000 else if a = 15 then 0x00040000 else 0) else 0

/-- The event that it asks for: CB7I (30) or CB15I (31) (60_exceptions.md R772). -/
def wrapEvent (s : State) (a : RegNum) (k : Word) : BitVec 42 :=
  if wraps s a k then (if a = 7 then 0x40000000 else if a = 15 then 0x80000000 else 0) else 0

/-- The explicit transfer of a register is performed (40_group1_compute_move.md R353 step 2). -/
def performed (write : Bool) (u : UReg) (g : Gates) : Bool := if write || u.complement.isSome then g.cx else g.any

/-- An instruction with one transfer between memory and a register. -/
structure Move where
  instr : Instr
  reg : UReg
  write : Bool
  /-- The PM bus. -/
  pm : Bool
  /-- The (LW) option. -/
  lw : Bool
  /-- The elements for which it executes. -/
  gates : Gates
  /-- The state that its compute or shift alone leaves. -/
  after : Res State
  addr : Word
  /-- The index register that makes the address. -/
  index : Option RegNum
  /-- What is added to it afterwards. -/
  step : Option Word

/-- The explicit transfer of the move is performed. -/
def Move.made (x : Move) : Bool := performed x.write x.reg x.gates

/-- The access appears on the bus: of a broadcast load also for the second element alone (log 24). -/
def Move.seen (s : State) (x : Move) : Bool :=
  x.made || (!x.write && x.reg.dreg.isSome && x.gates.cy &&
    ((x.index == some 1 && s.mode1 23) || (x.index == some 9 && s.mode1 22)))

/-- `f` of the index register and modifier of the post-modify, where it is made; else `z`. -/
def Move.stepping {α : Type} (z : α) (f : RegNum → Word → α) (x : Move) : α :=
  match x.index, x.step with
  | some a, some k => if x.gates.any then f a k else z
  | _, _ => z

/-- The single transfers of a universal register, stores when `d`, with (LW) when `l`: types 3a, 3b, 14a, 15a and 15b. -/
def uregMoves (s : State) (d l : Bool) (u : UReg) (post pm : Bool) (i m : DagNum) (cond : Cond) (c : Compute)
    (data : Word) (data7 : BitVec 7) : List Move :=
  let a := dagReg pm i
  let k := s.mreg (dagReg pm m)
  let g := gates s false cond
  let addr := if post then postAddr s a else preAddr s a k
  let step := if post then some k else none
  let move : Move := { instr := .memDirect14a pm d l u data, reg := u, write := d, pm := pm, lw := l, gates := .open
                       after := .next s, addr := data, index := none, step := none }
  [{ move with
     instr := .memUreg3a post i m cond pm d l u c, gates := g, after := doCompute s g c s, addr := addr
     index := some a, step := step },
   { move with instr := .memUreg3b post i m cond pm d l u, gates := g, addr := addr, index := some a, step := step },
   move,
   { move with instr := .memOffset15a pm i d l u data, addr := preAddr s a data, index := some a },
   { move with instr := .memOffset15b i d l pm u data7, addr := preAddr s a (data7.signExtend 32), index := some a }]

/-- The single transfers of a data register only: types 3c, 4a, 4b, 6a and, where the jump is not taken, 10a. -/
def dregMoves (s : State) (d : Bool) (n : RegNum) (post pm : Bool) (i m : DagNum) (cond : Cond) (c : Compute)
    (sh : ShiftImm) (data6 : BitVec 6) : List Move :=
  let a := dagReg pm i
  let a1 := dagReg false i
  let k := s.mreg (dagReg pm m)
  let k1 := s.mreg (dagReg false m)
  let k6 : Word := data6.signExtend 32
  let g := gates s false cond
  let gb := gates s true cond
  let addr6 := if post then postAddr s a else preAddr s a k6
  let step6 := if post then some k6 else none
  let move : Move := { instr := .memDreg3c i m d n, reg := .r n, write := d, pm := false, lw := false, gates := .open
                       after := .next s, addr := postAddr s a1, index := some a1, step := some k1 }
  [move,
   { move with
     instr := .memDreg4a i pm d post cond data6 n c, pm := pm, gates := g, after := doCompute s g c s, addr := addr6
     index := some a, step := step6 },
   { move with
     instr := .memDreg4b i pm d post cond data6 n, pm := pm, gates := g, addr := addr6, index := some a
     step := step6 },
   { move with
     instr := .shiftMem6a i m cond pm d n sh, pm := pm, gates := g, after := .next (doShift s g sh s)
     addr := postAddr s a, index := some a, step := some k }] ++
    if gb.both then []
    else
      [{ move with
         instr := .jumpInd10a d i m cond i m n c, gates := gb.negate, after := doCompute s gb.negate c s },
       { move with
         instr := .jumpRel10a d i m cond data6 n c, gates := gb.negate, after := doCompute s gb.negate c s }]

/-- The stores of an immediate: types 16a and 16b. The register is one of the class of what is put on the bus. -/
def immediateMoves (s : State) (pm : Bool) (i m : DagNum) (data : Word) (data16 : BitVec 16) : List Move :=
  let a := dagReg pm i
  let move : Move := { instr := .storeImm16a i m pm data, reg := .r 0, write := true, pm := pm, lw := false, gates := .open
                       after := .next s, addr := postAddr s a, index := some a, step := some (s.mreg (dagReg pm m)) }
  [move, { move with instr := .storeImm16b i m pm data16 }]

/-- Apart from memory and the notes for the end of the step, `t` is `v` with the index register of the move advanced. A
circular buffer of I7 or I15 that wraps sets its bit of STKYx and asks for its interrupt, and the breakpoint unit sees the
access. -/
structure Beside (s v t : State) (x : Move) : Prop where
  rest : t = { v with
    mem := t.mem
    dag := t.dag
    dagAlt := t.dagAlt
    sys := { v.sys with stkyx := { v.sys.stkyx with val := t.sys.stkyx.val } }
    scratch := t.scratch }
  sticky : t.sys.stkyx.val = v.sys.stkyx.val ||| x.stepping 0 (wrapSticky s)
  events : t.scratch.events = v.scratch.events ||| x.stepping 0 (wrapEvent s)
  accesses : t.scratch.accesses = v.scratch.accesses ++ if x.seen s then [⟨x.pm, x.write, x.addr⟩] else []
  notes : t.scratch.br = v.scratch.br ∧ t.scratch.dbReq = v.scratch.dbReq ∧ t.scratch.lceSync = v.scratch.lceSync ∧
    t.scratch.tcountSet = v.scratch.tcountSet ∧ t.scratch.flush = v.scratch.flush ∧
    t.scratch.loopEnded = v.scratch.loopEnded
  index : match x.index, x.step with
    | some a, some k => if x.gates.any then DagFrame v t [a] ∧ t.ireg a = stepped s a k else t.dag = v.dag ∧ t.dagAlt = v.dagAlt
    | _, _ => t.dag = v.dag ∧ t.dagAlt = v.dagAlt

/-- The register can be read and written where the spec says what that does: not a loop stack that overflowed, not a PC
stack that overflowed or whose pointer is pending (92_eei_decisions.md D22; 70_reset_and_hazards.md R851). -/
def usable (s : State) (u : UReg) : Prop :=
  (u = .laddr ∨ u = .curlcntr → loopLost s = false) ∧
    (u = .pcstk → s.seq.pcstkp.val = s.seq.pcstkp.eff ∧ s.seq.pcstkp.val ≠ 31)

/-- The transfer can be completed, to a word of memory, as a forced long word, or to a register of IOP space, there not by a
conditional store in SIMD mode (20_memory.md R160, R164, R172, R190, R195); `cond` is the condition of the instruction. -/
def Move.completes (s : State) (cond : Cond) (x : Move) : Prop :=
  usable s x.reg ∧ (x.write = false → ∀ a ∈ x.index, sameDag (a.getLsbD 3) x.reg = false) ∧
    ((x.lw = false ∧ x.reg ≠ .px ∧ normalWord s x.addr ∧
        (s.simd = true → x.reg.complement.isSome = true → normalWord s (x.addr + 1))) ∨
      (x.lw = true ∧ 0x80000 ≤ x.addr.toNat ∧ x.addr.toNat < 0x100000 ∧ mappedSpan (2 * x.addr.toNat) 2 = true) ∨
      (x.lw = false ∧ x.addr.toNat < 0x40000 ∧ (x.write = true → s.simd = true → cond = .always)))

/-- The address from which the complement of the register is loaded, if it is: the same in a broadcast load, else in SIMD
mode the next word (20_memory.md R171, R173). -/
def secondAddr (s : State) (x : Move) : Option Word :=
  let broadcast := (x.index == some 1 && s.mode1 23) || (x.index == some 9 && s.mode1 22)
  if x.reg.complement.isNone || !x.gates.cy then none
  else if x.reg.dreg.isSome && broadcast then some x.addr
  else if s.simd then some (x.addr + 1) else none

/-- Registers written in order, each with a value, by the one operation that writes universal registers. -/
def writeAll : List (UReg × Word) → State → Res State
  | [], t => .next t
  | (u, v) :: l, t => Res.bind (writeUReg u v t) (writeAll l)

/-- Registers written in order, each with the value of a register of `s`. -/
def moveAll (s : State) : List (UReg × UReg) → State → Res State
  | [], t => .next t
  | (u, v) :: l, t => Res.bind (readUReg s v) fun x => Res.bind (writeUReg u x t) (moveAll s l)

/-- `t` is `v` with a branch to `target` asked for, delayed when `j`, in an instruction that was not aborted. -/
def asks (v t : State) (j : Bool) (target : Addr24) : Prop :=
  t = v.setScratch
    { v.scratch with
      br := if j then v.scratch.br else some target
      dbReq := if j then some target else v.scratch.dbReq
      aborted := false }

/-- The PC stack holds `d` entries, and its pointer is neither pending nor past the end (92_eei_decisions.md D22). -/
def pcHas (s : State) (d : Nat) : Prop := s.seq.pcstkp.val = s.seq.pcstkp.eff ∧ s.seq.pcstkp.val.toNat = d ∧ d ≤ 30

/-- Entry `d` of the PC stack, counted from 1. -/
def pcEntryAt (s : State) (d : Nat) : BitVec 26 := if h : 0 < d ∧ d ≤ 30 then s.seq.pcstack[d - 1] else 0

/-- The PC stack of `t` is that of `s` with `entry` above its `d` entries. -/
def pushedPc (s t : State) (d : Nat) (entry : BitVec 26) : Prop :=
  pcHas t (d + 1) ∧ pcEntryAt t (d + 1) = entry ∧ ∀ k, k ≠ d + 1 → pcEntryAt t k = pcEntryAt s k

/-- The PC stack of `t` is that of `s`, of `d` entries, without its top one. -/
def poppedPc (s t : State) (d : Nat) : Prop := pcHas t (d - 1) ∧ t.seq.pcstack = s.seq.pcstack

/-- The return address of a call of `k` short words: the next instruction, for a delayed one the third (41_group2_program_flow.md
R405). -/
def isReturn (s : State) (j : Bool) (k : Nat) (ret : Addr24) : Prop :=
  (j = false → ret = s.seq.pc + lengthAt s.seq.pc k) ∧ (j = true → isVisa s.seq.pc = false → ret = s.seq.pc + 3) ∧
    (j = true → isVisa s.seq.pc = true →
      ∃ i1 l1 i2 l2, fetch s.mem (s.seq.pc + .ofNat 24 k) = .next (i1, l1) ∧
        fetch s.mem (s.seq.pc + .ofNat 24 k + .ofNat 24 l1) = .next (i2, l2) ∧
        ret = s.seq.pc + .ofNat 24 k + .ofNat 24 l1 + .ofNat 24 l2)

/-- The status stack can give back what an interrupt in service pushed on it (60_exceptions.md R760). -/
def canEndService (s : State) : Prop :=
  ∀ p ∈ inService s, pushesStatus p = true → s.seq.sts ≠ [] ∧ s.sys.stkyx.val.getLsbD 23 = false

/-- The end of the service of the interrupt of highest priority, if one is in service: its latch and mask-pointer bits
are cleared, no other's, MODE1, ASTATx and ASTATy come back where it had pushed them, and that of BKPI clears the breakpoint
status bits of EEMUSTAT (60_exceptions.md R764; 10_state.md R84). -/
def endsService (s t : State) : Prop :=
  match inService s with
  | none => t.sys = s.sys ∧ t.seq.sts = s.seq.sts ∧ t.iop = s.iop
  | some p =>
    t.iop = { s.iop with eemustat := if p = 6 then s.iop.eemustat &&& ~~~0x000100FF else s.iop.eemustat } ∧
    (∀ q < 42, q ≠ 7 →
      latchOf t.sys.irptl.val t.sys.lirptl.val q = (latchOf s.sys.irptl.val s.sys.lirptl.val q && q != p) ∧
        maskpOf t.sys.imaskp.val t.sys.lirptl.val q = (maskpOf s.sys.imaskp.val s.sys.lirptl.val q && q != p) ∧
        maskOf t.sys.imask.val t.sys.lirptl.val q = maskOf s.sys.imask.val s.sys.lirptl.val q) ∧
      (pushesStatus p = false → t.seq.sts = s.seq.sts ∧ t.sys.mode1 = s.sys.mode1 ∧ t.sys.astatx = s.sys.astatx ∧
        t.sys.astaty = s.sys.astaty) ∧
      (pushesStatus p = true → ∃ e, s.seq.sts = e :: t.seq.sts ∧ t.sys.mode1.val = e.mode1 ∧
        t.sys.mode1.eff = s.sys.mode1.eff ∧ t.sys.astatx.val = e.astatx ∧ t.sys.astaty.val = e.astaty)

/-- The next step is neither a reset, nor an interrupt entry, nor idle: it runs an instruction. -/
def running (s : State) : Prop :=
  s.input.reset = false ∧ s.iop.sysctl.eff.getLsbD 0 = false ∧ interruptNow s.takeInput = none ∧ s.seq.idle = false

/-- The instruction `i` of `len` address units at the PC may be executed: it is not modified code, and not a PM data access
after a change of the cache (20_memory.md R221, R222). -/
def executable (s : State) (i : Instr) (len : Nat) : Prop :=
  modifiedAt s.takeInput.stale s.seq.pc len = false ∧ (s.cacheHold = true → usesPm i = false)

/-- The next step, before its end, leaves `t`: an interrupt entry, an idle step, or one instruction with its next address
(41_group2_program_flow.md R400). -/
def beforeEnd (s t : State) : Prop :=
  s.input.reset = false ∧ s.iop.sysctl.eff.getLsbD 0 = false ∧
    match interruptNow s.takeInput with
    | some p => takeInterrupt p s.takeInput = .next t
    | none => if s.seq.idle then t = s.takeInput else runInstr s.takeInput = .next t

/-- The next step executes `i`, of `len` address units, outside loops, and the instruction leaves `t`. -/
def executes (s : State) (i : Instr) (len : Nat) (t : State) : Prop :=
  running s ∧ s.seq.ld = 0 ∧ fetch s.takeInput.mem s.seq.pc = .next (i, len) ∧ executable s i len ∧
    exec i s.takeInput = .next t

/-- The next step executes `i`, of `len` address units, in a loop or outside: the loop tests before it leave `u`, and the
instruction leaves `t` (41_group2_program_flow.md R400 steps 3 and 4). -/
def executesFrom (s : State) (i : Instr) (len : Nat) (u t : State) : Prop :=
  running s ∧ Res.bind (loopTest 7 s.takeInput) arithTest = .next u ∧ fetch s.takeInput.mem s.seq.pc = .next (i, len) ∧
    executable s i len ∧ exec i u = .next t

/-- The branch that the instruction asks for, if any, is one that may stand where it does: in a delay slot only a delayed one,
and only in the first (41_group2_program_flow.md R406). -/
def branchFits (s t : State) : Prop :=
  s.seq.db = none ∨ (t.scratch.br = none ∧ (t.scratch.dbReq = none ∨ ∃ x, s.seq.db = some ⟨x, 2⟩))

/-! ## The flow of a loop (41_group2_program_flow.md R431 to R433) -/

/-- The arithmetic loop `x` is on its way out, and the instruction at `n` is one of its body (R433; log 36). -/
def leaves (t : State) (n : Addr24) (x : Exiting) : Prop :=
  t.seq.exiting = some x ∧ x.top.toNat ≤ n.toNat ∧ n.toNat ≤ x.last.toNat

/-- The instruction at `n` ends the innermost loop, and this pass is not the last: of a counter loop the test was made
(R431, R433). -/
def loopsBack (t : State) (n : Addr24) : Prop :=
  0 < t.seq.ld ∧ t.loopEnd = n ∧ (t.loopTerm = .lce → t.loopTested = true)

/-- Where control goes back to the top of a loop, the stacks that name it are in a state in which the spec says what they
hold (92_eei_decisions.md D22). -/
def canLoopBack (t : State) (n : Addr24) : Prop :=
  loopsBack t n → (∀ x, ¬ leaves t n x) → loopLost t = false ∧ ∃ d, 0 < d ∧ pcHas t d

/-- Without a branch, control goes from the instruction at `n`, which left `t` and which `on` follows in memory, to `next`: on
the way out of an arithmetic loop in its order, after the third instruction behind its end; else at the end of a loop to the
address on top of the PC stack, and anywhere else to what follows (R400 step 5, R431, R433). -/
def flowsTo (t : State) (n on next : Addr24) : Prop :=
  (∀ x, leaves t n x →
    next = if x.left ≤ 1 then x.last + (if isVisa x.last then 3 else 1) else if n = x.last then x.top else on) ∧
  ((∀ x, ¬ leaves t n x) →
    (loopsBack t n → next = (pcEntryAt t t.seq.pcstkp.val.toNat).extractLsb' 0 24) ∧ (¬ loopsBack t n → next = on))

/-! ## Universal registers -/

/-- The cells of a long word or, with (LW), of the word at a normal-word address and the other word of its pair
(20_memory.md R163, R164). -/
def longCells (addr : Word) (lw : Bool) (c c' : Nat) : Prop :=
  let a := addr.toNat
  (0x40000 ≤ a ∧ a < 0x80000 ∧ c = 4 * a ∧ c' = 4 * a + 2 ∧ mappedSpan c 4 = true) ∨
    (0x80000 ≤ a ∧ a < 0x100000 ∧ lw = true ∧ c = 2 * a ∧ c' = 2 * (a ^^^ 1) ∧ mappedSpan c 2 = true)

/-- The row, of eight bytes, of a long-word or normal-word address (20_memory.md R151). -/
def addrRow (addr : Word) : Nat := if addr.toNat < 0x80000 then addr.toNat else addr.toNat / 2

/-- `t` is `w` but for the notes of an access: bits 19 and 20 of STKYx, and what is asked of the end of the step. -/
def accessed (w t : State) : Prop :=
  t = { w with
    sys := { w.sys with stkyx := { w.sys.stkyx with val := t.sys.stkyx.val } }
    scratch := t.scratch } ∧
  t.sys.stkyx.val ||| 0x180000 = w.sys.stkyx.val ||| 0x180000 ∧ w.sys.stkyx.val &&& ~~~t.sys.stkyx.val = 0

/-! ## Invariants -/

/-- The latches of interrupts 0 and 1 are read-only and stay 0, and the two stay unmasked (60_exceptions.md R742;
10_state.md R67). -/
def InterruptBits (y : SysRegs) : Prop :=
  y.irptl.val &&& 3 = 0 ∧ y.irptl.eff &&& 3 = 0 ∧ y.imask.val &&& 3 = 3 ∧ y.imask.eff &&& 3 = 3

/-- No register holds an explicit write that the end of the step has not taken in (70_reset_and_hazards.md R850). -/
def Settled (s : State) : Prop :=
  s.sys.mode1.wr = none ∧ s.sys.mode2.wr = none ∧ s.sys.mmask.wr = none ∧ s.sys.flags.wr = none ∧
    s.sys.astatx.wr = none ∧ s.sys.astaty.wr = none ∧ s.sys.stkyx.wr = none ∧ s.sys.stkyy.wr = none ∧
    s.sys.irptl.wr = none ∧ s.sys.imask.wr = none ∧ s.sys.imaskp.wr = none ∧ s.sys.lirptl.wr = none ∧
    s.seq.pcstkp.wr = none ∧ s.iop.sysctl.wr = none ∧ s.iop.brkctl.wr = none ∧
    ∀ k : Fin 16, s.iop.brk[k].wr = none

/-- What holds between steps. -/
structure Inv (s : State) : Prop where
  /-- Memory keeps its canonical form. -/
  memory : Memory.wf s.mem = true
  /-- The loop stacks are at most six deep (10_state.md R48). -/
  loops : s.seq.ld ≤ 6
  /-- The status stack is at most fifteen deep (10_state.md R50). -/
  statuses : s.seq.sts.length ≤ 15
  /-- A pending delayed branch has one or two slots to go (41_group2_program_flow.md R404). -/
  delayed : ∀ d, s.seq.db = some d → d.count = 1 ∨ d.count = 2
  /-- An arithmetic loop on its way out has one to three instructions to go (41_group2_program_flow.md R433). -/
  leaving : ∀ x, s.seq.exiting = some x → 1 ≤ x.left ∧ x.left ≤ 3
  /-- Nothing is asked of the end of a step. -/
  quiet : s.scratch = Scratch.none
  settled : Settled s
  interrupts : InterruptBits s.sys

/-- A run of any length from `s` by `step` to `t`. -/
inductive Runs : State → State → Prop
  | here (s : State) : Runs s s
  | on {s t u : State} : Runs s t → step t = .next u → Runs s u

end Sys2Proof.Safety
end

