-- ==== Sys2Proof/Certificates/Slice0/Obligations.lean ====
section
/-! DEFINITION. The statements of `OBLIGATIONS.json`, each about the machine that `Sys2Proof.Machine.exec` and
`Sys2Proof.Machine.step` define. -/

open Sys2Proof Sys2Proof.Machine Sys2Proof.Safety

/-! ## Encoding (`spec/30_encoding.md`) -/

/-- Words written out from the layouts of `spec/30_encoding.md` and the examples of the spec, and what they decode to. The
words of types 8a and 18a and of computes rest on positions and opcodes that the spec marks as general knowledge (R267 G6,
R277 G8, R310 G12, R316, R317; presumed, log 16); that a table word of 24 bits is a compute or else a shift-immediate field
is the model's choice (log 18). -/
def Obligations.DecodeWords : Prop :=
  decode48 0x013E00001123 = some (.aluAdd 1 2 3) ∧ decode48 0x000000000000 = some .nop21a ∧
  decode48 0x063E00012345 = some (.jumpDirect8a false .always false false 0x012345) ∧
  decode48 0x0F0580000001 = some (.loadImm17a (.r 5) 0x80000001) ∧
  decode48 0x0A3E00000000 = some (.rts11a .always false false false .none) ∧
  decode48 0x0C0003000002 = some (.doImm12a 3 2) ∧
  decode48 0x140400000070 = some (.bitSet18a .mode2 0x70) ∧
  decode16 0xC012 = some (.shortAdd2c 1 2) ∧ decode32 0x0F851234 = some (.loadImm17b (.r 5) 0x1234) ∧
  decodeTableWord 24 0x000426 = some (.lshiftImm 4 2 6) ∧ decodeTableWord 24 0x274012 = some (.bitdep 1 2) ∧
  (decodeTableWord 24 0x040012, decodeTableWord 24 0x041334, decodeTableWord 24 0x042000, decodeTableWord 24 0x021490) =
    (some (.aluAnd 0 1 2), some (.aluOr 3 3 4), some (.aluXor 0 0 0), some (.aluPass 4 9)) ∧
  (decodeTableWord 24 0x043110, decodeTableWord 24 0x061201, decodeTableWord 24 0x062201) =
    (some (.aluNot 1 1), some (.aluMin 2 0 1), some (.aluMax 2 0 1)) ∧
  (decodeTableWord 24 0x411500, decodeTableWord 24 0x406200, decodeTableWord 24 0x410000, decodeTableWord 24 0x400000) =
    (some (.mrSet .mr1f 5), some (.mrGet .mr2b 2), some (.mrSet .mr0f 0), some (.mrGet .mr0f 0)) ∧
  (decodeTableWord 24 0x200012, decodeTableWord 24 0x204012, decodeTableWord 24 0x208012) =
    (some (.lshift 0 1 2), some (.ashift 0 1 2), some (.rot 0 1 2))

/-- Decoding the words of a well-formed instruction gives it back, with every operand at every value; and in a stream of
short words a 32-bit or 16-bit form is read as itself, with its length, whatever follows (R250 to R286). -/
def Obligations.DecodeEncode : Prop :=
  ∀ i : Instr, i.wellFormed = true → decode (encode i) = some i ∧
    (∀ (w : BitVec 32) (z : BitVec 16), encode i = .w32 w →
      decodeVisa (w.extractLsb' 16 16) (w.extractLsb' 0 16) z = some (i, 2)) ∧
    ∀ (w y z : BitVec 16), encode i = .w16 w → decodeVisa w y z = some (i, 1)

/-! ## Fixed-point ALU (`spec/44_alu_fixed.md`) -/

/-- The operations of the adder: the exact value, saturated under ALUSAT; AV when it does not fit, AC the carry out of
bit 31, of a difference that of the sum with the complement, as the spec decides (D29, log 42) (R521 to R524, R529 to
R533, R364). -/
def Obligations.FixedAddSubtract : Prop :=
  ∀ (s : State) (rn rx ry : RegNum),
    let n (e : Elem) : Int := (s.reg32 e rn).toInt
    let x (e : Elem) : Int := (s.reg32 e rx).toInt
    let y (e : Elem) : Int := (s.reg32 e ry).toInt
    let un (e : Elem) : Nat := (s.reg32 e rn).toNat
    let ux (e : Elem) : Nat := (s.reg32 e rx).toNat
    let uy (e : Elem) : Nat := (s.reg32 e ry).toNat
    let ci (e : Elem) : Nat := ((s.astatEff e).getLsbD 3).toNat
    ∀ p ∈ ([(Instr.aluAdd rn rx ry, fun e => x e + y e, fun e => decide (2 ^ 32 ≤ ux e + uy e)),
        (.aluSub rn rx ry, fun e => x e - y e, fun e => decide (uy e ≤ ux e)),
        (.aluAddCi rn rx ry, fun e => x e + y e + ci e, fun e => decide (2 ^ 32 ≤ ux e + uy e + ci e)),
        (.aluSubCi rn rx ry, fun e => x e - y e + ci e - 1, fun e => decide (uy e + 1 ≤ ux e + ci e)),
        (.aluIncCi rn rx, fun e => x e + ci e, fun e => decide (2 ^ 32 ≤ ux e + ci e)),
        (.aluDecCi rn rx, fun e => x e + ci e - 1, fun e => decide (1 ≤ ux e + ci e)),
        (.aluInc rn rx, fun e => x e + 1, fun e => decide (2 ^ 32 ≤ ux e + 1)),
        (.aluDec rn rx, fun e => x e - 1, fun e => decide (1 ≤ ux e)),
        (.aluNeg rn rx, fun e => -x e, fun e => decide (ux e = 0)),
        (.shortAdd2c rn rx, fun e => n e + x e, fun e => decide (2 ^ 32 ≤ un e + ux e)),
        (.shortSub2c rn rx, fun e => n e - x e, fun e => decide (ux e ≤ un e)),
        (.shortInc2c rn rx, fun e => x e + 1, fun e => decide (2 ^ 32 ≤ ux e + 1)),
        (.shortDec2c rn rx, fun e => x e - 1, fun e => decide (1 ≤ ux e))] :
        List (Instr × (Elem → Int) × (Elem → Bool))),
      gives p.1 s fun t => onRunning s fun e =>
        fixResult s t e rn (adderResult s (p.2.1 e)) (!fits32 (p.2.1 e)) (p.2.2 e) false

/-- Bitwise logic, PASS, MIN and MAX: the result of the two 32-bit fields, AZ and AN by it, the other flags cleared
(R535 to R541). -/
def Obligations.FixedLogic : Prop :=
  ∀ (s : State) (rn rx ry : RegNum),
    let x (e : Elem) : Word := s.reg32 e rx
    let y (e : Elem) : Word := s.reg32 e ry
    ∀ p ∈ ([(Instr.aluAnd rn rx ry, fun e => x e &&& y e),
        (.aluOr rn rx ry, fun e => x e ||| y e),
        (.aluXor rn rx ry, fun e => x e ^^^ y e),
        (.aluNot rn rx, fun e => ~~~x e),
        (.aluPass rn rx, fun e => x e),
        (.aluMin rn rx ry, fun e => if (x e).toInt ≤ (y e).toInt then x e else y e),
        (.aluMax rn rx ry, fun e => if (y e).toInt ≤ (x e).toInt then x e else y e)] : List (Instr × (Elem → Word))),
      gives p.1 s fun t => onRunning s fun e => fixResult s t e rn (p.2 e) false false false

/-- ABS gives the magnitude, AS the sign of the operand, and overflows on the most negative number; CLIP brings the
magnitude down to that of the other operand; the average is exact when the sum is even, else rounded down under TRUNC
and to the even neighbour otherwise (R534, R542, R525; that TRUNC rounds down is the spec's decision D28, log 42). And
the short forms of PASS, NOT, AND, OR and XOR, whose first operand is the destination (R364). -/
def Obligations.FixedAbsClipAverage : Prop :=
  ∀ (s : State) (rn rx ry : RegNum),
    let x (e : Elem) : Word := s.reg32 e rx
    let y (e : Elem) : Word := s.reg32 e ry
    (gives (.aluAbs rn rx) s fun t => onRunning s fun e =>
      fixResult s t e rn (adderResult s |(x e).toInt|) (!fits32 |(x e).toInt|) false (decide ((x e).toInt < 0))) ∧
    (gives (.aluClip rn rx ry) s fun t => onRunning s fun e =>
      fixResult s t e rn
        (.ofInt 32 (if 0 ≤ (x e).toInt then min (x e).toInt |(y e).toInt| else max (x e).toInt (-|(y e).toInt|)))
        false false false) ∧
    (gives (.aluAvg rn rx ry) s fun t => onRunning s fun e =>
      ∃ r : Word, fixResult s t e rn r false (decide (2 ^ 32 ≤ (x e).toNat + (y e).toNat)) false ∧
        ((x e).toInt + (y e).toInt = 2 * r.toInt ∨
          (if s.mode1 15 then (x e).toInt + (y e).toInt = 2 * r.toInt + 1
           else r.toInt % 2 = 0 ∧ |(x e).toInt + (y e).toInt - 2 * r.toInt| = 1))) ∧
    ∀ p ∈ ([(Instr.shortPass2c rn rx, x), (.shortNot2c rn rx, fun e => ~~~x e),
        (.shortAnd2c rn rx, fun e => s.reg32 e rn &&& x e), (.shortOr2c rn rx, fun e => s.reg32 e rn ||| x e),
        (.shortXor2c rn rx, fun e => s.reg32 e rn ^^^ x e)] : List (Instr × (Elem → Word))),
      gives p.1 s fun t => onRunning s fun e => fixResult s t e rn (p.2 e) false false false

/-! ## Floating-point ALU (`spec/45_alu_float.md`) -/

/-- Sums and differences of finite operands: the exact value rounded to the boundary that RND32 sets, in the direction
that TRUNC sets, with overflow and underflow (R562 to R566, R364). The sign of a sum that is exactly zero, -0 of two
operands -0 and +0 else, is what the spec itself marks as general knowledge (R561 (e), G18; presumed, log 16). That AN
is the sign bit of the result, of -0 and of an infinity too, is the spec's decision (D31, log 42). -/
def Obligations.FloatAddSubtract : Prop :=
  ∀ (s : State) (rn rx ry : RegNum),
    let x (e : Elem) : Ext := fpOperand s e rx
    let y (e : Elem) : Ext := fpOperand s e ry
    let n (e : Elem) : Ext := fpOperand s e rn
    (∀ p ∈ ([(Instr.fAdd rn rx ry, fun e => fpVal (x e) + fpVal (y e), fun e => (x e, y e)),
        (.fSub rn rx ry, fun e => fpVal (x e) - fpVal (y e), fun e => (x e, fpNegate (y e))),
        (.fAvg rn rx ry, fun e => (fpVal (x e) + fpVal (y e)) / 2, fun e => (x e, y e)),
        (.shortFAdd2c rn rx, fun e => fpVal (n e) + fpVal (x e), fun e => (n e, x e)),
        (.shortFSub2c rn rx, fun e => fpVal (n e) - fpVal (x e), fun e => (n e, fpNegate (x e)))] :
        List (Instr × (Elem → ℚ) × (Elem → Ext × Ext))),
      gives p.1 s fun t => onRunning s fun e => fpFinite (p.2.2 e).1 → fpFinite (p.2.2 e).2 →
        fltRounded s t e rn (p.2.1 e)
          (if p.2.2 e = (fpZeroOf true, fpZeroOf true) then fpZeroOf true else fpZeroOf false)) ∧
    ∀ p ∈ ([(Instr.fAbsAdd rn rx ry, fun e => |fpVal (x e) + fpVal (y e)|),
        (.fAbsSub rn rx ry, fun e => |fpVal (x e) - fpVal (y e)|)] : List (Instr × (Elem → ℚ))),
      gives p.1 s fun t => onRunning s fun e => fpFinite (x e) → fpFinite (y e) →
        fltRounded s t e rn (p.2 e) (fpZeroOf false)

/-- A product of finite operands: the exact value rounded, the sign the exclusive OR of the signs even of a zero; MN is
the sign, MV and MU overflow and underflow, with their sticky bits (46_multiplier.md R630). That MN is the sign bit, of
-0 and of an infinity too, is the spec's decision (D31, log 42). -/
def Obligations.FloatMultiply : Prop :=
  ∀ (s : State) (rn rx ry : RegNum),
    let x (e : Elem) : Ext := fpOperand s e rx
    let y (e : Elem) : Ext := fpOperand s e ry
    let n (e : Elem) : Ext := fpOperand s e rn
    ∀ p ∈ ([(Instr.fMul rn rx ry, fun e => (x e, y e)), (.shortFMul2c rn rx, fun e => (n e, x e))] :
        List (Instr × (Elem → Ext × Ext))),
      gives p.1 s fun t => onRunning s fun e =>
        let a := (p.2 e).1
        let b := (p.2 e).2
        fpFinite a → fpFinite b → ∃ v ov un, fpResult (s.mode1 15) (s.mode1 16) (fpVal a * fpVal b) v ov un ∧
          (fpVal a * fpVal b = 0 → v = fpZeroOf (fpSign a ^^ fpSign b) ∧ ov = false ∧ un = false) ∧
          t.reg e rn = v ∧ mulFlagsAre t e (fpSign a ^^ fpSign b) ov un false ∧
          stuck s t e (bitIf ov 7 ||| bitIf un 8)

/-- A NAN operand makes the result all ones and sets AI and AIS, in a multiply MI and MIS (45_alu_float.md R561 (c);
46_multiplier.md R630). Of the one-operand operations the operand is Fx alone. Infinities, where the spec itself marks
its reading as general knowledge (45_alu_float.md R561 (e), G18; log 16): a sum takes the sign of an infinite operand,
opposite infinities are an invalid operation; a product with an infinity is infinite, with a zero an invalid operation.
The pattern of the resulting NAN, and that AN and MN are its sign bit, are the spec's decisions (D30, D31, log 42). -/
def Obligations.FloatSpecialValues : Prop :=
  ∀ (s : State) (rn rx ry : RegNum),
    let x (e : Elem) : Bool := fpNan (fpOperand s e rx)
    let y (e : Elem) : Bool := fpNan (fpOperand s e ry)
    let n (e : Elem) : Bool := fpNan (fpOperand s e rn)
    let ones : Ext := if s.mode1 16 then 0xFFFFFFFF00 else 0xFFFFFFFFFF
    (∀ p ∈ ([(Instr.fAdd rn rx ry, fun e => x e || y e), (.fSub rn rx ry, fun e => x e || y e),
        (.fAbsAdd rn rx ry, fun e => x e || y e), (.fAbsSub rn rx ry, fun e => x e || y e),
        (.fAvg rn rx ry, fun e => x e || y e), (.fCopysign rn rx ry, fun e => x e || y e),
        (.fMin rn rx ry, fun e => x e || y e), (.fMax rn rx ry, fun e => x e || y e),
        (.fClip rn rx ry, fun e => x e || y e), (.shortFAdd2c rn rx, fun e => n e || x e),
        (.shortFSub2c rn rx, fun e => n e || x e), (.fNeg rn rx, x), (.fAbs rn rx, x), (.fPass rn rx, x),
        (.fRnd rn rx, x), (.fScalb rn rx ry, x), (.fLogb rn rx, x), (.fFix rn rx, x), (.fFixBy rn rx ry, x),
        (.fTrunc rn rx, x), (.fTruncBy rn rx ry, x), (.fRecips rn rx, x), (.fRsqrts rn rx, x)] :
        List (Instr × (Elem → Bool))),
      gives p.1 s fun t => onRunning s fun e => p.2 e = true →
        t.reg e rn = ones ∧ (t.astat e).val.getLsbD 5 = true ∧ (t.astat e).val.getLsbD 0 = false ∧
          (t.astat e).val.getLsbD 1 = false ∧ (t.astat e).val.getLsbD 10 = true ∧ stuck s t e 0x20) ∧
    (gives (.fMant rn rx) s fun t => onRunning s fun e => x e = true →
      t.reg e rn = 0xFFFFFFFF00 ∧ (t.astat e).val.getLsbD 5 = true ∧ stuck s t e 0x20) ∧
    (∀ p ∈ ([(Instr.fMul rn rx ry, fun e => x e || y e), (.shortFMul2c rn rx, fun e => n e || x e)] :
        List (Instr × (Elem → Bool))),
      gives p.1 s fun t => onRunning s fun e => p.2 e = true →
        t.reg e rn = ones ∧ (t.astat e).val.getLsbD 9 = true ∧ stuck s t e 0x200) ∧
    (gives (.fAdd rn rx ry) s fun t => onRunning s fun e =>
      let x := fpOperand s e rx
      let y := fpOperand s e ry
      (fpInf x = true → (fpFinite y ∨ y = x) → fltResult s t e rn x (fpSign x) false false false 0) ∧
      (fpInf y = true → fpFinite x → fltResult s t e rn y (fpSign y) false false false 0) ∧
      (fpInf x = true → y = fpNegate x → fltResult s t e rn ones true false false true 0x20)) ∧
    (gives (.fSub rn rx ry) s fun t => onRunning s fun e =>
      let x := fpOperand s e rx
      let y := fpOperand s e ry
      (fpInf x = true → (fpFinite y ∨ y = fpNegate x) → fltResult s t e rn x (fpSign x) false false false 0) ∧
      (fpInf y = true → fpFinite x → fltResult s t e rn (fpNegate y) (!fpSign y) false false false 0) ∧
      (fpInf x = true → y = x → fltResult s t e rn ones true false false true 0x20)) ∧
    gives (.fMul rn rx ry) s fun t => onRunning s fun e =>
      let x := fpOperand s e rx
      let y := fpOperand s e ry
      let sg := fpSign x ^^ fpSign y
      ((fpInf x = true ∧ fpZero y = false ∧ fpNan y = false) ∨ (fpInf y = true ∧ fpZero x = false ∧ fpNan x = false) →
        t.reg e rn = fpInfOf sg ∧ mulFlagsAre t e sg false false false ∧ stuck s t e 0) ∧
      ((fpInf x = true ∧ fpZero y = true) ∨ (fpInf y = true ∧ fpZero x = true) →
        t.reg e rn = ones ∧ (t.astat e).val.getLsbD 9 = true ∧ stuck s t e 0x200)

/-- Compares. COMP and COMPU: AZ and AN by the signed or unsigned order, and the eight CACC bits shifted down with the
outcome "greater" entering at bit 31 (44_alu_fixed.md R527, R528, R364). COMP of floating-point operands: AZ and AN by
their values, infinities beyond all finite values and equal if of one sign, CACC as in a fixed-point compare; a NAN sets
AI and AIS (R570, R364). That a NAN clears AZ and AN and shifts a 0 into CACC, as neither less, equal nor greater, is
the spec's own decision, on which the source is silent (D32, log 42). -/
def Obligations.Compares : Prop :=
  (∀ (s : State) (rx ry : RegNum),
    ∀ p ∈ ([(Instr.aluComp rx ry, false), (.aluCompu rx ry, true), (.shortComp2c rx ry, false)] : List (Instr × Bool)),
      gives p.1 s fun t => onRunning s fun e =>
        let x : Word := s.reg32 e rx
        let y : Word := s.reg32 e ry
        let lt : Bool := if p.2 then decide (x.toNat < y.toNat) else decide (x.toInt < y.toInt)
        aluFlagsAre t e (decide (x = y)) lt false false false false false ∧ stuck s t e 0 ∧
          (t.astat e).val.getLsbD 31 = (!lt && decide (x ≠ y)) ∧
          ∀ k, 24 ≤ k → k < 31 → (t.astat e).val.getLsbD k = (s.astatEff e).getLsbD (k + 1)) ∧
  ∀ (s : State) (rx ry : RegNum), ∀ i ∈ [Instr.fComp rx ry, .shortFComp2c rx ry],
    gives i s fun t => onRunning s fun e =>
      let x := fpOperand s e rx
      let y := fpOperand s e ry
      let bad := fpNan x || fpNan y
      let cacc (gt : Bool) : Prop := (t.astat e).val.getLsbD 31 = gt ∧
        ∀ k, 24 ≤ k → k < 31 → (t.astat e).val.getLsbD k = (s.astatEff e).getLsbD (k + 1)
      (fpFinite x → fpFinite y →
        aluFlagsAre t e (decide (fpVal x = fpVal y)) (decide (fpVal x < fpVal y)) false false false false true ∧
          cacc (decide (fpVal y < fpVal x)) ∧ stuck s t e 0) ∧
      (fpInf x = true → fpFinite y →
        aluFlagsAre t e false (fpSign x) false false false false true ∧ cacc (!fpSign x) ∧ stuck s t e 0) ∧
      (fpFinite x → fpInf y = true →
        aluFlagsAre t e false (!fpSign y) false false false false true ∧ cacc (fpSign y) ∧ stuck s t e 0) ∧
      (fpInf x = true → fpInf y = true →
        aluFlagsAre t e (fpSign x == fpSign y) (fpSign x && !fpSign y) false false false false true ∧
          cacc (!fpSign x && fpSign y) ∧ stuck s t e 0) ∧
      (bad = true → aluFlagsAre t e false false false false false true true ∧ cacc false ∧ stuck s t e 0x20)

/-- Results that are an operand with another sign at most: negation, ABS, PASS, COPYSIGN, MIN, MAX and CLIP of operands
that are no NAN; MIN prefers -0 to +0 and MAX +0 to -0 (R571 to R573, R586 to R589). That AN is the sign bit of a result
-0 or infinite is the spec's decision (D31, log 42). -/
def Obligations.FloatSelect : Prop :=
  ∀ (s : State) (rn rx ry : RegNum),
    let x (e : Elem) : Ext := fpOperand s e rx
    let y (e : Elem) : Ext := fpOperand s e ry
    (gives (.fNeg rn rx) s fun t => onRunning s fun e => fpNan (x e) = false →
      fltResult s t e rn (fpNegate (x e)) (!fpSign (x e)) false false false 0) ∧
    (gives (.fAbs rn rx) s fun t => onRunning s fun e => fpNan (x e) = false →
      fltResult s t e rn (fpSetSign false (x e)) false false (fpSign (x e)) false 0) ∧
    (gives (.fPass rn rx) s fun t => onRunning s fun e => fpNan (x e) = false →
      fltResult s t e rn (x e) (fpSign (x e)) false false false 0) ∧
    (gives (.fCopysign rn rx ry) s fun t => onRunning s fun e => fpNan (x e) = false → fpNan (y e) = false →
      fltResult s t e rn (fpSetSign (fpSign (y e)) (x e)) (fpSign (y e)) false false false 0) ∧
    (gives (.fMin rn rx ry) s fun t => onRunning s fun e => fpNan (x e) = false → fpNan (y e) = false →
      ∃ v, (v = x e ∨ v = y e) ∧ fltResult s t e rn v (fpSign v) false false false 0 ∧
        (fpFinite (x e) → fpFinite (y e) → fpVal v = min (fpVal (x e)) (fpVal (y e))) ∧
        (fpInf (x e) = true → v = if fpSign (x e) then x e else y e) ∧
        (fpInf (y e) = true → v = if fpSign (y e) then y e else x e) ∧
        (fpZero (x e) = true → fpZero (y e) = true → fpSign v = (fpSign (x e) || fpSign (y e)))) ∧
    (gives (.fMax rn rx ry) s fun t => onRunning s fun e => fpNan (x e) = false → fpNan (y e) = false →
      ∃ v, (v = x e ∨ v = y e) ∧ fltResult s t e rn v (fpSign v) false false false 0 ∧
        (fpFinite (x e) → fpFinite (y e) → fpVal v = max (fpVal (x e)) (fpVal (y e))) ∧
        (fpInf (x e) = true → v = if fpSign (x e) then y e else x e) ∧
        (fpInf (y e) = true → v = if fpSign (y e) then x e else y e) ∧
        (fpZero (x e) = true → fpZero (y e) = true → fpSign v = (fpSign (x e) && fpSign (y e)))) ∧
    gives (.fClip rn rx ry) s fun t => onRunning s fun e => fpNan (x e) = false → fpNan (y e) = false →
      ∃ v, fpSign v = fpSign (x e) ∧ fltResult s t e rn v (fpSign v) false false false 0 ∧
        (fpFinite (x e) → fpFinite (y e) → |fpVal v| = min |fpVal (x e)| |fpVal (y e)|) ∧
        (fpInf (x e) = true → v = fpSetSign (fpSign (x e)) (y e)) ∧ (fpInf (y e) = true → fpFinite (x e) → v = x e)

/-- Conversions. FLOAT is exact; FIX is within half of the scaled value, or the floor under TRUNC; TRUNC is toward zero
always. The scale of the forms with BY is a power of two (R578 to R582, R364). That a value which rounds to 2^31
overflows, and when FIX underflows, are the spec's decisions (D33, D34, log 42). -/
def Obligations.FloatConvert : Prop :=
  ∀ (s : State) (rn rx ry : RegNum),
    let a (e : Elem) : Word := s.reg32 e rx
    let k (e : Elem) : Int := (s.reg32 e ry).toInt
    let x (e : Elem) : Ext := fpOperand s e rx
    (∀ i ∈ [Instr.fFloat rn rx, .shortFloat2c rn rx],
      gives i s fun t => onRunning s fun e =>
        ∃ v, fltResult s t e rn v (fpSign v) false false false 0 ∧ fpFinite v ∧ fpVal v = (a e).toInt ∧
          (a e = 0 → v = 0)) ∧
    (gives (.fFloatBy rn rx ry) s fun t => onRunning s fun e =>
      let q : ℚ := (a e).toInt * (2 : ℚ) ^ k e
      ∃ v ov un, fpResult (s.mode1 15) false q v ov un ∧ (a e = 0 → v = 0 ∧ ov = false ∧ un = false) ∧
        (fpNormal q → fpVal v = q) ∧ fltResult s t e rn v (fpSign v) ov false false (bitIf un 0 ||| bitIf ov 1)) ∧
    ∀ p ∈ ([(Instr.fFix rn rx, false, fun _ => 0), (.fFixBy rn rx ry, false, k), (.fTrunc rn rx, true, fun _ => 0),
        (.fTruncBy rn rx ry, true, k)] : List (Instr × Bool × (Elem → Int))),
      gives p.1 s fun t => onRunning s fun e =>
        let q : ℚ := fpVal (x e) * (2 : ℚ) ^ p.2.2 e
        (fpFinite (x e) → |q| ≤ 2 ^ 31 - 1 →
          ∃ r : Word,
            t.reg e rn = r.toExt ∧ aluFlagsAre t e (r == 0) (r.getLsbD 31) false false false false true ∧
            stuck s t e (bitIf (decide (0 < |q| ∧ |q| < (2 : ℚ) ^ (-126 : Int))) 0) ∧
            (if p.2.1 then |(r.toInt : ℚ)| ≤ |q| ∧ |(r.toInt : ℚ) - q| < 1 ∧ 0 ≤ r.toInt * q
             else if s.mode1 15 then (r.toInt : ℚ) ≤ q ∧ q < r.toInt + 1
             else |(r.toInt : ℚ) - q| ≤ 1 / 2 ∧ (|(r.toInt : ℚ) - q| = 1 / 2 → r.toInt % 2 = 0))) ∧
        (fpInf (x e) = true ∨ (fpFinite (x e) ∧ 2 ^ 31 ≤ |q|) →
          (t.astat e).val.getLsbD 1 = true ∧
            (s.mode1 13 = true → t.reg e rn = if fpSign (x e) then 0x8000000000 else 0x7FFFFFFF00) ∧
            (s.mode1 13 = false → t.reg e rn = (if s.mode1 16 then 0xFFFFFFFF00 else 0xFFFFFFFFFF) ∧
              (t.astat e).val.getLsbD 5 = true))

/-- SCALB multiplies by a power of two exactly; MANT and LOGB take a value apart, so that it is the mantissa times two
to the power LOGB - 31; RND rounds to the 32-bit boundary. SCALB and RND leave a zero or an infinity as it is; MANT of a
zero is 0, of an infinity all ones with AI; LOGB of an infinity or a zero sets AV and gives, as ALUSAT says, the limits
of the 32-bit integers or an infinity of the floating-point format (R574 to R577). That AN is the sign bit of a result
-0 or infinite is the spec's decision (D31, log 42). -/
def Obligations.FloatScale : Prop :=
  ∀ (s : State) (rn rx ry : RegNum),
    let x (e : Elem) : Ext := fpOperand s e rx
    let usual (e : Elem) : Prop := fpFinite (x e) ∧ fpZero (x e) = false
    let edge (e : Elem) : Prop := fpZero (x e) = true ∨ fpInf (x e) = true
    (gives (.fScalb rn rx ry) s fun t => onRunning s fun e =>
      (edge e → fltResult s t e rn (x e) (fpSign (x e)) false false false 0) ∧
      (usual e →
        let q : ℚ := fpVal (x e) * (2 : ℚ) ^ (s.reg32 e ry).toInt
        ∃ v ov un, fltResult s t e rn v (fpSign (x e)) ov false false (bitIf un 0 ||| bitIf ov 1) ∧
          ((2 : ℚ) ^ (-126 : Int) ≤ |q| → |q| < 2 ^ 128 → fpVal v = q ∧ fpFinite v ∧ ov = false ∧ un = false) ∧
          (2 ^ 128 ≤ |q| → v = (if s.mode1 15 then fpNormMax (s.mode1 16) (fpSign (x e)) else fpInfOf (fpSign (x e))) ∧
            ov = true ∧ un = false) ∧
          (|q| < (2 : ℚ) ^ (-126 : Int) → v = fpZeroOf (fpSign (x e)) ∧ ov = false ∧ un = true))) ∧
    (gives (.fMant rn rx) s fun t => onRunning s fun e =>
      (fpZero (x e) = true → t.reg e rn = 0 ∧ aluFlagsAre t e true false false false (fpSign (x e)) false true ∧
        stuck s t e 0) ∧
      (fpInf (x e) = true → t.reg e rn = 0xFFFFFFFF00 ∧
        aluFlagsAre t e false false false false (fpSign (x e)) true true ∧ stuck s t e 0x20) ∧
      (usual e → ∃ r : Word, t.reg e rn = r.toExt ∧
        aluFlagsAre t e false false false false (fpSign (x e)) false true ∧ stuck s t e 0 ∧
        (r.toNat : ℚ) * (2 : ℚ) ^ ((fpExp (x e) : Int) - 158) = |fpVal (x e)|)) ∧
    (gives (.fLogb rn rx) s fun t => onRunning s fun e =>
      (fpInf (x e) = true → t.reg e rn = (if s.mode1 13 then 0x7FFFFFFF00 else 0x7F80000000) ∧
        aluFlagsAre t e false false true false false false true ∧ stuck s t e 2) ∧
      (fpZero (x e) = true → t.reg e rn = (if s.mode1 13 then 0x8000000000 else 0xFF80000000) ∧
        aluFlagsAre t e false true true false false false true ∧ stuck s t e 2) ∧
      (usual e → ∃ r : Word, t.reg e rn = r.toExt ∧
        aluFlagsAre t e (r == 0) (r.getLsbD 31) false false false false true ∧ stuck s t e 0 ∧
        (2 : ℚ) ^ r.toInt ≤ |fpVal (x e)| ∧ |fpVal (x e)| < (2 : ℚ) ^ (r.toInt + 1))) ∧
    gives (.fRnd rn rx) s fun t => onRunning s fun e =>
      (edge e → fltResult s t e rn (x e) (fpSign (x e)) false false false 0) ∧
      (usual e → ∃ v ov un, fpResult (s.mode1 15) true (fpVal (x e)) v ov un ∧
        fltResult s t e rn v (fpSign v) ov false false (bitIf un 0 ||| bitIf ov 1))

/-- The reciprocal and reciprocal square root seeds: a zero gives an infinity and sets AV, a great value or an infinity
gives a zero, a negative operand of RSQRTS is an invalid operation, and otherwise sign and exponent are as the formula
says, and the seed is accurate: `|v x - 1| < 2^-8`, and `|v sqrt x - 1| < 2^-4`, said here of its square. Which accurate
fraction it is, is the unpublished table's (R584, R585; log 11). -/
def Obligations.FloatSeeds : Prop :=
  ∀ (s : State) (rn rx : RegNum),
    (gives (.fRecips rn rx) s fun t => onRunning s fun e =>
      let x := fpOperand s e rx
      let sg := fpSign x
      (fpZero x = true → t.reg e rn = fpInfOf sg ∧ aluFlagsAre t e false sg true false false false true ∧
        stuck s t e 2) ∧
      (fpNan x = false → 252 < fpExp x → t.reg e rn = fpZeroOf sg ∧
        aluFlagsAre t e true sg false false false false true ∧ stuck s t e 0) ∧
      (fpZero x = false → fpExp x ≤ 252 → fpSign (t.reg e rn) = sg ∧ fpExp (t.reg e rn) = 253 - fpExp x ∧
        |fpVal (t.reg e rn) * fpVal x - 1| < (2 : ℚ) ^ (-8 : Int) ∧
        aluFlagsAre t e false sg false false false false true ∧ stuck s t e 0)) ∧
    gives (.fRsqrts rn rx) s fun t => onRunning s fun e =>
      let x := fpOperand s e rx
      (fpZero x = true → t.reg e rn = fpInfOf (fpSign x) ∧
        aluFlagsAre t e false (fpSign x) true false false false true ∧ stuck s t e 2) ∧
      (x = fpInfOf false → t.reg e rn = 0 ∧ aluFlagsAre t e true false false false false false true ∧ stuck s t e 0) ∧
      (fpSign x = true → fpZero x = false → t.reg e rn = (if s.mode1 16 then 0xFFFFFFFF00 else 0xFFFFFFFFFF) ∧
        (t.astat e).val.getLsbD 5 = true ∧ stuck s t e 0x20) ∧
      (fpSign x = false → fpZero x = false → fpFinite x → fpSign (t.reg e rn) = false ∧
        (fpExp (t.reg e rn) : Int) - 127 = -(((fpExp x : Int) - 127) / 2) - 1 ∧
        (1 - (2 : ℚ) ^ (-4 : Int)) ^ 2 < fpVal (t.reg e rn) ^ 2 * fpVal x ∧
        fpVal (t.reg e rn) ^ 2 * fpVal x < (1 + (2 : ℚ) ^ (-4 : Int)) ^ 2 ∧
        aluFlagsAre t e false false false false false false true ∧ stuck s t e 0)

/-! ## Multiplier (`spec/46_multiplier.md`) -/

/-- Multiplies whose result goes to a data register: the exact product, added to or subtracted from a result register,
rounded at bit 32 by the modifier, its half and its flags by the format (R611 to R615, R620, R621, R622, R625, R626,
R364). MN of an unsigned result, and rounding to the nearest even whatever TRUNC is, are the spec's decisions (D35, D36,
log 42). -/
def Obligations.MultiplyToRegister : Prop :=
  ∀ (s : State) (rn rx ry : RegNum) (md : MulMod),
    let x (e : Elem) : Word := s.reg32 e rx
    let y (e : Elem) : Word := s.reg32 e ry
    ∀ p ∈ ([(Instr.mulRn md rn rx ry, md, fun e => mulResult md false 0 (mulExact md (x e) (y e))),
        (.mulRnAddF md rn rx ry, md, fun e => mulResult md false (s.mr e false) (mulExact md (x e) (y e))),
        (.mulRnAddB md rn rx ry, md, fun e => mulResult md false (s.mr e true) (mulExact md (x e) (y e))),
        (.mulRnSubF md rn rx ry, md, fun e => mulResult md true (s.mr e false) (mulExact md (x e) (y e))),
        (.mulRnSubB md rn rx ry, md, fun e => mulResult md true (s.mr e true) (mulExact md (x e) (y e))),
        (.shortMul2c rn rx, .ssi, fun e => mulResult .ssi false 0 ((s.reg32 e rn).toInt * (x e).toInt))] :
        List (Instr × MulMod × (Elem → Acc))),
      gives p.1 s fun t => onRunning s fun e =>
        t.reg e rn = (mulHalf p.2.1.frac (p.2.2 e)).toExt ∧
          mulFixFlagsAre s t e (p.2.2 e) p.2.1.signed p.2.1.frac true

/-- Multiplies whose result goes to all 80 bits of a result register (R616, R617, R623, R624, R627, R628). MN of an
unsigned result, rounding to the nearest even whatever TRUNC is, and the 0 in the low word of a rounded result are the
spec's decisions (D35 to D37, log 42). -/
def Obligations.MultiplyToAccumulator : Prop :=
  ∀ (s : State) (rx ry : RegNum) (md : MulMod),
    let v (e : Elem) : Int := mulExact md (s.reg32 e rx) (s.reg32 e ry)
    ∀ p ∈ ([(Instr.mulMrf md rx ry, false, fun e => mulResult md false 0 (v e)),
        (.mulMrb md rx ry, true, fun e => mulResult md false 0 (v e)),
        (.mulAddF md rx ry, false, fun e => mulResult md false (s.mr e false) (v e)),
        (.mulAddB md rx ry, true, fun e => mulResult md false (s.mr e true) (v e)),
        (.mulSubF md rx ry, false, fun e => mulResult md true (s.mr e false) (v e)),
        (.mulSubB md rx ry, true, fun e => mulResult md true (s.mr e true) (v e))] :
        List (Instr × Bool × (Elem → Acc))),
      gives p.1 s fun t => onRunning s fun e =>
        t.mr e p.2.1 = p.2.2 e ∧ mulFixFlagsAre s t e (p.2.2 e) md.signed md.frac true

/-- The result registers. SAT puts the nearest value of the format in place of one outside it, RND rounds at bit 32, and
clearing a result register touches no flag; the new value goes to the register or its half to a data register (R632,
R634, R636). The parts of a result register: MR0 and MR1 are its low words, MR2 its top 16 bits, sign-extended when
read; a write of MR1 sign-extends into MR2; no flag changes (R640). That clearing leaves the flags is the reading that
the spec's C34 chooses of two (log 40). MN of an unsigned result, rounding to the nearest even whatever TRUNC is, and
the 0 in the low word of a rounded result are the spec's decisions (D35 to D37, log 42). -/
def Obligations.ResultRegisters : Prop :=
  (∀ (s : State) (rn : RegNum) (fmt : SatMod) (sgn : Bool),
    let lo : Int := if fmt.signed then -(2 ^ (if fmt.frac then 63 else 31)) else 0
    let hi : Int := (if fmt.signed then 2 ^ (if fmt.frac then 63 else 31) else 2 ^ (if fmt.frac then 64 else 32)) - 1
    let sat (e : Elem) (bg : Bool) : Acc :=
      let v : Int := if fmt.signed then (s.mr e bg).toInt else (s.mr e bg).toNat
      .ofInt 80 (max lo (min hi v))
    let rnd (e : Elem) (bg : Bool) : Acc := .ofInt 80 (roundAt32 (s.mr e bg).toInt)
    (∀ p ∈ ([(Instr.satRnF fmt rn, false), (.satRnB fmt rn, true)] : List (Instr × Bool)),
      gives p.1 s fun t => onRunning s fun e =>
        t.reg e rn = (mulHalf fmt.frac (sat e p.2)).toExt ∧
          mulFixFlagsAre s t e (sat e p.2) fmt.signed fmt.frac false) ∧
    (∀ p ∈ ([(Instr.satF fmt, false), (.satB fmt, true)] : List (Instr × Bool)),
      gives p.1 s fun t => onRunning s fun e =>
        t.mr e p.2 = sat e p.2 ∧ mulFixFlagsAre s t e (sat e p.2) fmt.signed fmt.frac false) ∧
    (∀ p ∈ ([(Instr.rndRnF sgn rn, false), (.rndRnB sgn rn, true)] : List (Instr × Bool)),
      gives p.1 s fun t => onRunning s fun e =>
        t.reg e rn = (mulHalf true (rnd e p.2)).toExt ∧ mulFixFlagsAre s t e (rnd e p.2) sgn true true) ∧
    (∀ p ∈ ([(Instr.rndF sgn, false), (.rndB sgn, true)] : List (Instr × Bool)),
      gives p.1 s fun t => onRunning s fun e =>
        t.mr e p.2 = rnd e p.2 ∧ mulFixFlagsAre s t e (rnd e p.2) sgn true true) ∧
    ∀ p ∈ ([(Instr.clrF, false), (.clrB, true)] : List (Instr × Bool)),
      gives p.1 s fun t => onRunning s fun e =>
        t.mr e p.2 = 0 ∧ (t.astat e).val = (s.astat e).val ∧ stuck s t e 0) ∧
  ∀ (s : State) (rn : RegNum),
    ∀ p ∈ ([(false, MrPart.mr0f, .mr1f, .mr2f), (true, .mr0b, .mr1b, .mr2b)] : List (Bool × MrPart × MrPart × MrPart)),
      let m (u : State) (e : Elem) : Acc := u.mr e p.1
      let does (i : Instr) (f : State → Elem → Prop) : Prop := gives i s fun t => onRunning s fun e =>
        f t e ∧ (t.astat e).val = (s.astat e).val ∧ stuck s t e 0
      (does (.mrGet p.2.1 rn) fun t e =>
        (t.reg e rn).word.toNat = (m s e).toNat % 2 ^ 32 ∧ (t.reg e rn).toNat % 2 ^ 8 = 0) ∧
      (does (.mrGet p.2.2.1 rn) fun t e =>
        (t.reg e rn).word.toNat = (m s e).toNat / 2 ^ 32 % 2 ^ 32 ∧ (t.reg e rn).toNat % 2 ^ 8 = 0) ∧
      (does (.mrGet p.2.2.2 rn) fun t e =>
        (t.reg e rn).word.toInt = (m s e).toInt / 2 ^ 64 ∧ (t.reg e rn).toNat % 2 ^ 8 = 0) ∧
      (does (.mrSet p.2.1 rn) fun t e =>
        (m t e).toNat = (m s e).toNat / 2 ^ 32 * 2 ^ 32 + (s.reg32 e rn).toNat) ∧
      (does (.mrSet p.2.2.1 rn) fun t e =>
        (m t e).toInt = (s.reg32 e rn).toInt * 2 ^ 32 + (m s e).toNat % 2 ^ 32) ∧
      does (.mrSet p.2.2.2 rn) fun t e =>
        (m t e).toNat = (s.reg32 e rn).toNat % 2 ^ 16 * 2 ^ 64 + (m s e).toNat % 2 ^ 64

/-! ## Shifter (`spec/47_shifter.md`) -/

/-- LSHIFT, ASHIFT and ROT by the signed count of a register or an immediate: left when positive, right when negative,
the rotate modulo 32; SV when shifted left, SZ by the result, SS cleared (R652, R654, R656). -/
def Obligations.Shifts : Prop :=
  ∀ (s : State) (rn rx ry : RegNum) (data : BitVec 8),
    let x (e : Elem) : Word := s.reg32 e rx
    let c (e : Elem) : Int := (s.reg32 e ry).toInt
    let k (_ : Elem) : Int := data.toInt
    (∀ p ∈ ([(Instr.lshift rn rx ry, c), (.lshiftImm data rn rx, k)] : List (Instr × (Elem → Int))),
      gives p.1 s fun t => onRunning s fun e =>
        let n := p.2 e
        ∃ r : Word, shfResult s t e rn r (r == 0) (decide (0 < n)) false ∧
          (0 ≤ n → ∀ j < 32, r.getLsbD j = (decide (n ≤ j) && (x e).getLsbD (j - n.toNat))) ∧
          (n ≤ 0 → ∀ j < 32, r.getLsbD j = (x e).getLsbD (j + (-n).toNat))) ∧
    (∀ p ∈ ([(Instr.ashift rn rx ry, c), (.ashiftImm data rn rx, k)] : List (Instr × (Elem → Int))),
      gives p.1 s fun t => onRunning s fun e =>
        let n := p.2 e
        ∃ r : Word, shfResult s t e rn r (r == 0) (decide (0 < n)) false ∧
          (0 ≤ n → ∀ j < 32, r.getLsbD j = (decide (n ≤ j) && (x e).getLsbD (j - n.toNat))) ∧
          (n ≤ 0 → ∀ j < 32, r.getLsbD j = (x e).getLsbD (min 31 (j + (-n).toNat)))) ∧
    ∀ p ∈ ([(Instr.rot rn rx ry, c), (.rotImm data rn rx, k)] : List (Instr × (Elem → Int))),
      gives p.1 s fun t => onRunning s fun e =>
        ∃ r : Word, shfResult s t e rn r (r == 0) false false ∧
          ∀ j < 32, r.getLsbD j = (x e).getLsbD (((j : Int) - p.2 e) % 32).toNat

/-- Single bits cleared, set, toggled and tested at the position given, which changes nothing and sets SV when it is not
0 to 31; a negative position sets no flag but SZ of the test (R657 to R660, R690; the spec's decision D38, log 42). And
the shifts whose result is ORed onto the destination, SZ by the shifted value (R653, R655; D38): bit `j` comes from bit
`j - n`, a place beyond the operand being 0 or, in the arithmetic shift, above it a copy of the sign. -/
def Obligations.BitOperations : Prop :=
  ∀ (s : State) (rn rx ry : RegNum) (data : BitVec 8),
    let x (e : Elem) : Word := s.reg32 e rx
    let c (e : Elem) : Int := (s.reg32 e ry).toInt
    let k (_ : Elem) : Int := data.toInt
    (∀ p ∈ ([(Instr.bclr rn rx ry, c, fun _ => false), (.bset rn rx ry, c, fun _ => true),
        (.btgl rn rx ry, c, fun b => !b), (.bclrImm data rn rx, k, fun _ => false), (.bsetImm data rn rx, k, fun _ => true),
        (.btglImm data rn rx, k, fun b => !b)] : List (Instr × (Elem → Int) × (Bool → Bool))),
      gives p.1 s fun t => onRunning s fun e =>
        ∃ r : Word, shfResult s t e rn r (r == 0) (decide (31 < p.2.1 e)) false ∧
          ∀ j < 32, r.getLsbD j = if p.2.1 e = j then p.2.2 ((x e).getLsbD j) else (x e).getLsbD j) ∧
    (∀ p ∈ ([(Instr.btst rx ry, c), (.btstImm data rx, k)] : List (Instr × (Elem → Int))),
      gives p.1 s fun t => onRunning s fun e =>
        shfFlagsAre t e (decide (¬ (0 ≤ p.2 e ∧ (x e).getLsbD (p.2 e).toNat = true))) (decide (31 < p.2 e)) false ∧
          stuck s t e 0) ∧
    ∀ p ∈ ([(Instr.orLshift rn rx ry, c, false), (.orLshiftImm data rn rx, k, false), (.orAshift rn rx ry, c, true),
        (.orAshiftImm data rn rx, k, true)] : List (Instr × (Elem → Int) × Bool)),
      gives p.1 s fun t => onRunning s fun e =>
        ∃ r : Word, shfResult s t e rn (s.reg32 e rn ||| r) (r == 0) (decide (0 < p.2.1 e)) false ∧
          ∀ j : Nat, j < 32 → let from_ : Int := (j : Int) - p.2.1 e
            r.getLsbD j = (decide (0 ≤ from_) &&
              (if 31 < from_ then p.2.2 && (x e).getLsbD 31 else (x e).getLsbD from_.toNat))

/-- Field deposit and extract: `len6` bits from the bottom of the operand to bit `bit6` up, or back; the other bits are
0, the sign of the field, or with OR as they were; SV when the field reaches past bit 31 (R661 to R666, R690). That
`bit6` is bits 5 to 0 and `len6` bits 11 to 6 of the register operand the spec marks as general knowledge (R651 (b), G20;
presumed, log 16). -/
def Obligations.FieldOperations : Prop :=
  ∀ (s : State) (rn rx ry : RegNum) (imm : BitVec 12),
    let x (e : Elem) : Word := s.reg32 e rx
    let z (e : Elem) : Word := s.reg32 e rn
    let f (e : Elem) : BitVec 12 := (s.reg32 e ry).extractLsb' 0 12
    let g (_ : Elem) : BitVec 12 := imm
    let at6 (v : BitVec 12) : Nat := v.toNat % 64
    let len (v : BitVec 12) : Nat := v.toNat / 64
    let dep (x : Word) (v : BitVec 12) (j : Nat) : Bool :=
      decide (at6 v ≤ j) && decide (j < at6 v + len v) && x.getLsbD (j - at6 v)
    let sgn (b : Bool) (v : BitVec 12) (from_ : Nat) (j : Nat) : Bool := b && decide (1 ≤ len v) && decide (from_ ≤ j)
    (∀ p ∈ ([(Instr.fdep rn rx ry, f, false, false), (.orFdep rn rx ry, f, true, false),
        (.fdepSe rn rx ry, f, false, true), (.orFdepSe rn rx ry, f, true, true), (.fdepImm imm rn rx, g, false, false),
        (.orFdepImm imm rn rx, g, true, false), (.fdepSeImm imm rn rx, g, false, true),
        (.orFdepSeImm imm rn rx, g, true, true)] : List (Instr × (Elem → BitVec 12) × Bool × Bool)),
      gives p.1 s fun t => onRunning s fun e =>
        let v := p.2.1 e
        ∃ r : Word, shfResult s t e rn r (r == 0) (decide (32 < at6 v + len v)) false ∧
          ∀ j < 32, r.getLsbD j =
            ((p.2.2.1 && (z e).getLsbD j) || dep (x e) v j ||
              (sgn p.2.2.2 v (at6 v + len v) j && (x e).getLsbD (len v - 1)))) ∧
    ∀ p ∈ ([(Instr.fext rn rx ry, f, false), (.fextSe rn rx ry, f, true), (.fextImm imm rn rx, g, false),
        (.fextSeImm imm rn rx, g, true)] : List (Instr × (Elem → BitVec 12) × Bool)),
      gives p.1 s fun t => onRunning s fun e =>
        let v := p.2.1 e
        ∃ r : Word, shfResult s t e rn r (r == 0) (decide (32 < at6 v + len v)) false ∧
          ∀ j < 32, r.getLsbD j =
            ((decide (j < len v) && (x e).getLsbD (at6 v + j)) ||
              (sgn p.2.2 v (len v) j && (x e).getLsbD (at6 v + len v - 1)))

/-- Leading bits: LEFTZ and LEFTO count the leading zeros and ones; EXP is 1 less the count of leading bits that equal
the sign, and so is EXP (EX) with AV clear; with AV set EXP (EX) is the constant 1, and SS is AV exclusive-or the sign
(R667 to R670). The 16-bit floating-point format: FPACK rounds to nearest in it (the model's reading, log 12), a value
beyond its range gives its largest magnitude and sets SV; FUNPACK is exact, and FPACK of what FUNPACK gives is what was
unpacked (R675, R676). The layout of this format, sign 15, exponent 14 to 11, fraction 10 to 0, the spec marks as
general knowledge (R675, G21; presumed, log 16). The widths of the results and the two ends of the exponent range are
the spec's decisions (D39, D41, log 42). -/
def Obligations.LeadingBitsAndShortFloats : Prop :=
  (∀ (s : State) (rn rx : RegNum),
    let x (e : Elem) : Word := s.reg32 e rx
    let leads (e : Elem) (b : Bool) (k : Nat) : Prop :=
      k ≤ 32 ∧ (∀ j < 32, 32 ≤ j + k → (x e).getLsbD j = b) ∧ (k < 32 → (x e).getLsbD (31 - k) = !b)
    (∀ p ∈ ([(Instr.leftz rn rx, false), (.lefto rn rx, true)] : List (Instr × Bool)),
      gives p.1 s fun t => onRunning s fun e =>
        ∃ k, leads e p.2 k ∧
          shfResult s t e rn (.ofNat 32 k) (decide ((x e).getLsbD 31 = !p.2)) (decide (k = 32)) false) ∧
    (gives (.exp rn rx) s fun t => onRunning s fun e =>
      ∃ k, leads e ((x e).getLsbD 31) k ∧
        shfResult s t e rn (.ofInt 32 (1 - k)) (decide (k = 1)) false ((x e).getLsbD 31)) ∧
    gives (.expEx rn rx) s fun t => onRunning s fun e =>
      ((s.astatEff e).getLsbD 1 = false → ∃ k, leads e ((x e).getLsbD 31) k ∧
        shfResult s t e rn (.ofInt 32 (1 - k)) (decide (k = 1)) false ((x e).getLsbD 31)) ∧
      ((s.astatEff e).getLsbD 1 = true → shfResult s t e rn 1 false false (!(x e).getLsbD 31))) ∧
  ∀ (s : State) (rn rx : RegNum),
    (gives (.fpack rn rx) s fun t => onRunning s fun e =>
      let x : Ext := (s.reg32 e rx).toExt
      ∃ (h : BitVec 16) (ov : Bool), shfResult s t e rn (h.setWidth 32) false ov false ∧ h.getLsbD 15 = fpSign x ∧
        (fpExp x ≤ 109 → h.extractLsb' 0 15 = 0 ∧ ov = false) ∧
        (110 ≤ fpExp x → |fpVal x| < 512 - (2 : ℚ) ^ (-4 : Int) →
          ov = false ∧ |halfVal h - fpVal x| ≤ (2 : ℚ) ^ (max ((fpExp x : Int) - 120) 1 - 19)) ∧
        (512 - (2 : ℚ) ^ (-4 : Int) ≤ |fpVal x| → h.extractLsb' 0 15 = 0x7FFF ∧ ov = true)) ∧
    (gives (.funpack rn rx) s fun t => onRunning s fun e =>
      let h : BitVec 16 := (s.reg32 e rx).extractLsb' 0 16
      ∃ r : Word, shfResult s t e rn r false false false ∧ r.getLsbD 31 = h.getLsbD 15 ∧ fpVal r.toExt = halfVal h) ∧
    gives (.funpack rn rx) s fun t => gives (.fpack rn rn) t fun u => onRunning s fun e =>
      u.reg e rn = Word.toExt (((s.reg32 e rx).extractLsb' 0 16).setWidth 32)

/-- The bit FIFO: a deposit appends the low `n` bits of the operand behind the valid bits, an extract takes the oldest
`n` bits off the top, with (NU) without removing them; a length above 32, a full or an empty FIFO sets SV; the write
pointer moves by the length, and is read and written by its own operations (R680 to R684, R690). The bits of an extract
of more than the FIFO holds are those of the formula of R682 and vector Q8, where item 2 of 93_implementation_defined.md
allows any value (log 37). -/
def Obligations.BitFifo : Prop :=
  ∀ (s : State) (rn rx ry : RegNum) (imm : BitVec 12) (data : BitVec 7),
    let wp (e : Elem) : Nat := (s.pe e).bffwrp.toNat
    let x (e : Elem) : Word := s.reg32 e rx
    let k (_ : Elem) : Nat := imm.toNat % 64
    (∀ p ∈ ([(Instr.bitdep rx ry, fun e => (s.reg32 e ry).toNat % 64), (.bitdepImm imm rx, k)] :
        List (Instr × (Elem → Nat))),
      gives p.1 s fun t => onRunning s fun e =>
        let n := p.2 e
        shfFlagsAre t e false (decide (32 < n ∨ 64 < wp e + n)) false ∧ stuck s t e 0 ∧
          (n ≤ 32 → wp e + n ≤ 64 → (t.pe e).bffwrp.toNat = wp e + n ∧
            ∀ j < 64, (t.pe e).bff.getLsbD j =
              ((s.pe e).bff.getLsbD j ||
                (decide (64 ≤ j + wp e + n) && decide (j + wp e < 64) && (x e).getLsbD (j + wp e + n - 64))))) ∧
    (∀ p ∈ ([(Instr.bitext rn rx, fun e => (x e).toNat % 64, true), (.bitextNu rn rx, fun e => (x e).toNat % 64, false),
        (.bitextImm imm rn, k, true), (.bitextNuImm imm rn, k, false)] : List (Instr × (Elem → Nat) × Bool)),
      gives p.1 s fun t => onRunning s fun e =>
        let n := p.2.1 e
        ∃ r : Word, shfResult s t e rn r (r == 0) (decide (32 < n ∨ wp e < n)) false ∧
          (n ≤ 32 → wp e ≤ 64 → r.toNat = (s.pe e).bff.toNat / 2 ^ (64 - n)) ∧
          (p.2.2 = true → n ≤ 32 → n ≤ wp e → wp e ≤ 64 →
            (t.pe e).bffwrp.toNat = wp e - n ∧ (t.pe e).bff.toNat = (s.pe e).bff.toNat * 2 ^ n % 2 ^ 64) ∧
          (p.2.2 = false → (t.pe e).bffwrp = (s.pe e).bffwrp ∧ (t.pe e).bff = (s.pe e).bff)) ∧
    (∀ p ∈ ([(Instr.bffwrpSet rn, fun e => (s.reg32 e rn).extractLsb' 0 7), (.bffwrpImm data, fun _ => data)] :
        List (Instr × (Elem → BitVec 7))),
      gives p.1 s fun t => onRunning s fun e =>
        (t.pe e).bffwrp = p.2 e ∧ (t.pe e).bff = (s.pe e).bff ∧
          shfFlagsAre t e false (decide (64 < (p.2 e).toNat)) false ∧ stuck s t e 0) ∧
    gives (.bffwrpGet rn) s fun t => onRunning s fun e =>
      shfResult s t e rn ((s.pe e).bffwrp.setWidth 32) false false false

/-! ## Several operations in one instruction (`spec/48_multifunction.md`) -/

/-- A dual add and subtract leaves in its two registers what the sum and the difference leave, and of each flag the OR
(R700 to R702). -/
def Obligations.DualAddSubtract : Prop :=
  ∀ (s : State) (ra rs rx ry : RegNum), ra ≠ rs →
    ∀ p ∈ ([(Instr.dualAddSub ra rs rx ry, .aluAdd ra rx ry, .aluSub rs rx ry),
        (.fDualAddSub ra rs rx ry, .fAdd ra rx ry, .fSub rs rx ry)] : List (Instr × Instr × Instr)),
      ∃ a d, exec p.2.1 s = .next a ∧ exec p.2.2 s = .next d ∧
        gives p.1 s fun t => onRunning s fun e =>
          t.reg e ra = a.reg e ra ∧ t.reg e rs = d.reg e rs ∧
            (t.astat e).val &&& aluMask = ((a.astat e).val ||| (d.astat e).val) &&& aluMask ∧
            (t.stky e).val = (a.stky e).val ||| (d.stky e).val

/-- A fixed-point multiply with an ALU operation: each reads the registers as they were and leaves its own result and
flags; of two results in one register the ALU's stays (R704 to R706, R710). -/
def Obligations.FixedMultifunction : Prop :=
  ∀ (s : State) (rs rm ra : RegNum) (xm ym xa ya : BitVec 2),
    let mx : RegNum := 0#2 ++ xm
    let my : RegNum := 1#2 ++ ym
    let ax : RegNum := 2#2 ++ xa
    let ay : RegNum := 3#2 ++ ya
    (∀ p ∈ ([(Instr.mulRmAdd rm ra xm ym xa ya, .mulRn .ssfr rm mx my, .aluAdd ra ax ay),
        (.mulRmSub rm ra xm ym xa ya, .mulRn .ssfr rm mx my, .aluSub ra ax ay),
        (.mulRmAvg rm ra xm ym xa ya, .mulRn .ssfr rm mx my, .aluAvg ra ax ay),
        (.macFAdd ra xm ym xa ya, .mulAddF .ssf mx my, .aluAdd ra ax ay),
        (.macFSub ra xm ym xa ya, .mulAddF .ssf mx my, .aluSub ra ax ay),
        (.macFAvg ra xm ym xa ya, .mulAddF .ssf mx my, .aluAvg ra ax ay),
        (.macRmAdd rm ra xm ym xa ya, .mulRnAddF .ssfr rm mx my, .aluAdd ra ax ay),
        (.macRmSub rm ra xm ym xa ya, .mulRnAddF .ssfr rm mx my, .aluSub ra ax ay),
        (.macRmAvg rm ra xm ym xa ya, .mulRnAddF .ssfr rm mx my, .aluAvg ra ax ay),
        (.msubFAdd ra xm ym xa ya, .mulSubF .ssf mx my, .aluAdd ra ax ay),
        (.msubFSub ra xm ym xa ya, .mulSubF .ssf mx my, .aluSub ra ax ay),
        (.msubFAvg ra xm ym xa ya, .mulSubF .ssf mx my, .aluAvg ra ax ay),
        (.msubRmAdd rm ra xm ym xa ya, .mulRnSubF .ssfr rm mx my, .aluAdd ra ax ay),
        (.msubRmSub rm ra xm ym xa ya, .mulRnSubF .ssfr rm mx my, .aluSub ra ax ay),
        (.msubRmAvg rm ra xm ym xa ya, .mulRnSubF .ssfr rm mx my, .aluAvg ra ax ay)] : List (Instr × Instr × Instr)),
      ∃ m a, exec p.2.1 s = .next m ∧ exec p.2.2 s = .next a ∧
        gives p.1 s fun t => onRunning s fun e => Parallel t m a e [rm] [ra]) ∧
    (ra ≠ rs →
      ∃ m a, exec (.mulRn .ssfr rm mx my) s = .next m ∧ exec (.dualAddSub ra rs ax ay) s = .next a ∧
        gives (.mulDual rs rm ra xm ym xa ya) s fun t => onRunning s fun e => Parallel t m a e [rm] [ra, rs])

/-- A floating-point multiply with an ALU operation, as for fixed point (R704, R705, R707, R711). -/
def Obligations.FloatMultifunction : Prop :=
  ∀ (s : State) (rs rm ra : RegNum) (xm ym xa ya : BitVec 2),
    let mx : RegNum := 0#2 ++ xm
    let my : RegNum := 1#2 ++ ym
    let ax : RegNum := 2#2 ++ xa
    let ay : RegNum := 3#2 ++ ya
    (∀ p ∈ ([(Instr.fMulAdd rm ra xm ym xa ya, .fAdd ra ax ay), (.fMulSub rm ra xm ym xa ya, .fSub ra ax ay),
        (.fMulFloat rm ra xm ym xa ya, .fFloatBy ra ax ay), (.fMulFix rm ra xm ym xa ya, .fFixBy ra ax ay),
        (.fMulAvg rm ra xm ym xa ya, .fAvg ra ax ay), (.fMulAbs rm ra xm ym xa, .fAbs ra ax),
        (.fMulMax rm ra xm ym xa ya, .fMax ra ax ay), (.fMulMin rm ra xm ym xa ya, .fMin ra ax ay)] :
        List (Instr × Instr)),
      ∃ m a, exec (.fMul rm mx my) s = .next m ∧ exec p.2 s = .next a ∧
        gives p.1 s fun t => onRunning s fun e => Parallel t m a e [rm] [ra]) ∧
    (ra ≠ rs →
      ∃ m a, exec (.fMul rm mx my) s = .next m ∧ exec (.fDualAddSub ra rs ax ay) s = .next a ∧
        gives (.fMulDual rs rm ra xm ym xa ya) s fun t => onRunning s fun e => Parallel t m a e [rm] [ra, rs])

/-! ## Computes as instructions (`spec/40_group1_compute_move.md`) -/

/-- Every compute row completes, and changes nothing but its registers, its result register, its flags and sticky bits in
the elements that execute it. -/
def Obligations.ComputeFrames : Prop :=
  ∀ (s : State) (c : Compute), c ≠ .none → c.wellFormed = true → gives c.instr s fun t => computeFrame s t c

/-- Every immediate shifter row completes within the frame of its operation; and every short compute of type 2c within
that of the compute it is short for (R364, R690). -/
def Obligations.ShortFrames : Prop :=
  (∀ (s : State) (sh : ShiftImm), gives sh.instr s fun t => computeFrame s t (asCompute sh)) ∧
  ∀ (s : State) (n x : RegNum),
    ∀ p ∈ ([(Instr.shortAdd2c n x, .fix2 .add n n x), (.shortSub2c n x, .fix2 .sub n n x), (.shortPass2c n x, .fix1 .pass n x),
        (.shortComp2c n x, .fixCmp false n x), (.shortNot2c n x, .fix1 .not n x), (.shortInc2c n x, .fix1 .inc n x),
        (.shortDec2c n x, .fix1 .dec n x), (.shortMul2c n x, .mulReg .mul .ssi n n x),
        (.shortFAdd2c n x, .flt2 .add n n x), (.shortFSub2c n x, .flt2 .sub n n x), (.shortFloat2c n x, .flt1 .float n x),
        (.shortFComp2c n x, .fltCmp n x), (.shortAnd2c n x, .fix2 .and n n x), (.shortOr2c n x, .fix2 .or n n x),
        (.shortXor2c n x, .fix2 .xor n n x), (.shortFMul2c n x, .fmul n n x)] : List (Instr × Compute)),
      gives p.1 s fun t => computeFrame s t p.2

/-- The condition codes: what each of codes 0 to 14 tests in the element's ASTAT, FLAGS and MODE1 in force, code 14
being SF of a part with the bit FIFO; 16 to 30 the negations; 15 NOT LCE by the copies of CURLCNTR one instruction old,
for a branch two; 31 always (41_group2_program_flow.md R410, R411; 10_state.md R56, R72). That TF is ASTAT bit 18 is the
spec's presumption (R56, G1; log 17), and which copies of CURLCNTR NOT LCE sees is the model's reading (log 28). The
gates of an instruction: its condition in each element, in SISD mode that of PEx for both (R350, R351). A compute or
shift under a condition: each element whose condition holds is left as the unconditional instruction leaves it, the
other as it was; in SISD mode PEy never changes (R350, R351, R362, R363, R384). -/
def Obligations.ConditionalComputes : Prop :=
  (∀ (s : State) (e : Elem) (branch : Bool),
    let v (k : Nat) : Bool := (if e = .x then s.sys.astatx else s.sys.astaty).eff.getLsbD k
    let flag (k : Nat) : Bool :=
      if s.sys.flags.eff.getLsbD (2 * k + 1) then s.sys.flags.eff.getLsbD (2 * k) else s.flagPins.getLsbD k
    let lt : Bool := (!v 10 && (v 2 ^^ (v 1 && s.mode1 13))) || (v 10 && v 2 && !v 0)
    (∀ p ∈ ([(0, v 0), (1, lt), (2, lt || v 0), (3, v 3), (4, v 1), (5, v 7), (6, v 6), (7, v 11), (8, v 12), (9, flag 0),
        (10, flag 1), (11, flag 2), (12, flag 3), (13, v 18), (14, decide (32 ≤ (s.pe e).bffwrp.toNat))] :
        List (Nat × Bool)),
      condHolds s e branch (.ofCode p.1) = p.2 ∧ condHolds s e branch (.ofCode (p.1 + 16)) = !p.2) ∧
    condHolds s e branch (.ofCode 15) = decide ((if branch then s.seq.clc2 else s.seq.clc1) ≠ 1) ∧
    condHolds s e branch (.ofCode 31) = true ∧
    ∀ c : Cond, (gates s branch c).cx = condHolds s .x branch c ∧
      (gates s branch c).cy = condHolds s (if s.simd then .y else .x) branch c) ∧
  ∀ (s : State) (cond : Cond),
    let g := gates s false cond
    (∀ c : Compute, c.wellFormed = true →
      ∃ u, exec c.instr s = .next u ∧ gives (.compute2a cond c) s fun t =>
        onlyUnits (s.setScratch t.scratch) t ∧ elemBy s t u .x g.cx ∧ elemBy s t u .y (s.simd && g.cy) ∧
          t.scratch = { s.scratch with aborted := !g.any }) ∧
    (∀ c : Compute, c.wellFormed = true →
      ∃ u, exec c.instr s = .next u ∧ gives (.compute2b c) s fun t =>
        onlyUnits (s.setScratch t.scratch) t ∧ elemSame u t .x ∧ elemBy s t u .y s.simd ∧
          t.scratch = { s.scratch with aborted := false }) ∧
    ∀ sh : ShiftImm, ∃ u, exec sh.instr s = .next u ∧ gives (.shift6a cond sh) s fun t =>
      onlyUnits (s.setScratch t.scratch) t ∧ elemBy s t u .x g.cx ∧ elemBy s t u .y (s.simd && g.cy) ∧
        t.scratch = { s.scratch with aborted := !g.any }

/-! ## Moves (`spec/40_group1_compute_move.md`, `spec/42_group3_immediate_move.md`, `spec/20_memory.md`) -/

/-- A conditional instruction whose condition holds in no element changes nothing, whatever its operands (R350, R351,
R409): all that differs is the note that it was aborted. That this holds also of the forms that are refused where they
execute, a dual add/subtract with one result register, a load of a register of the DAG that makes its address, and a SIMD
store of a register pair to IOP space, is the model's choice (log 40): D42 and items 4, 6 and 55 of
93_implementation_defined.md refuse them and do not speak of a false condition. -/
def Obligations.FalseCondition : Prop :=
  ∀ (s : State) (cond : Cond) (c : Compute) (sh : ShiftImm) (u v : UReg) (n k : RegNum) (i m : DagNum)
    (a b d l j ci lr : Bool) (data6 : BitVec 6) (addr : Addr24),
    let still (x : Instr) : Prop := exec x s = .next (s.setScratch { s.scratch with aborted := true })
    ((gates s false cond).any = false →
      ∀ x ∈ [Instr.compute2a cond c, .memUreg3a a i m cond b d l u c, .memUreg3b a i m cond b d l u,
        .memDreg4a i b d a cond data6 n c, .memDreg4b i b d a cond data6 n, .move5a u cond v c, .move5b u cond v,
        .swap5a k cond n c, .swap5b k cond n, .shiftMem6a i m cond b d n sh, .shift6a cond sh, .modify7a b cond i m i c,
        .modify7b b cond i m i], still x) ∧
    ((gates s true cond).any = false →
      ∀ x ∈ [Instr.jumpDirect8a a cond j ci addr, .jumpRel8a a cond j ci addr, .callDirect8a a cond j ci addr,
        .callRel8a a cond j ci addr, .jumpInd9a a cond i m j false ci c, .jumpRel9a a cond data6 j false ci c,
        .callInd9a a cond i m j false ci c, .callRel9a a cond data6 j false ci c, .jumpInd9b a cond i m j ci,
        .jumpRel9b a cond data6 j ci, .callInd9b a cond i m j ci, .callRel9b a cond data6 j ci,
        .rts11a cond j false lr c, .rti11a cond j false c, .rts11c cond j lr, .rti11c cond j], still x)

/-- Stores of universal registers to words of RAM by every form with one transfer: the register at the address, in SIMD
mode its complement at the next word, each under the gate of its element; no other byte of memory, no register but the
index register changes beyond what the compute of the instruction does, and STKYx by a circular buffer that wraps (R353,
R370 to R375, R383, R417, R450, R455). That a register of the DAG that makes the address is stored like any other is the
model's choice (log 40): the example of R190 forbids it. -/
def Obligations.Stores : Prop :=
  ∀ (s : State) (u : UReg) (n : RegNum) (post pm : Bool) (i m : DagNum) (cond : Cond) (c : Compute) (sh : ShiftImm)
    (data : Word) (data6 : BitVec 6) (data7 : BitVec 7),
    c.wellFormed = true → Memory.wf s.mem = true →
    ∀ x ∈ uregMoves s true false u post pm i m cond c data data7 ++ dregMoves s true n post pm i m cond c sh data6,
      usable s x.reg → x.reg ≠ .px → ramWord s x.addr →
      (s.simd = true → x.reg.complement.isSome = true → ramWord s (x.addr + 1)) →
      ∃ v, x.after = .next v ∧ gives x.instr s fun t =>
        Beside s v t x ∧
        (x.gates.cx = true → ∃ w, readUReg s x.reg = .next w ∧ wordAt t x.addr = w) ∧
        (s.simd = true → x.gates.cy = true → ∀ k ∈ x.reg.complement,
          ∃ w, readUReg s k = .next w ∧ wordAt t (x.addr + 1) = w) ∧
        ∀ b, ¬ (x.gates.cx = true ∧ inWord x.addr b) →
          ¬ (s.simd = true ∧ x.gates.cy = true ∧ x.reg.complement.isSome = true ∧ inWord (x.addr + 1) b) →
          readByte t.mem b = readByte s.mem b

/-- Loads of universal registers from words of memory by every form with one transfer: the register takes the word at the
address, its complement in SIMD mode the next word and in a broadcast load the same one; memory stays. A register without
a complement is loaded when the condition holds in either element (R353, R370 to R375, R383, R417, R450, R455; 20_memory.md
R171 to R173). -/
def Obligations.Loads : Prop :=
  ∀ (s : State) (u : UReg) (n : RegNum) (post pm : Bool) (i m : DagNum) (cond : Cond) (c : Compute) (sh : ShiftImm)
    (data : Word) (data6 : BitVec 6) (data7 : BitVec 7),
    c.wellFormed = true →
    ∀ x ∈ uregMoves s false false u post pm i m cond c data data7 ++ dregMoves s false n post pm i m cond c sh data6,
      usable s x.reg → x.reg ≠ .px → (x.index ≠ none → sameDag pm x.reg = false) → normalWord s x.addr →
      (s.simd = true → x.reg.complement.isSome = true → normalWord s (x.addr + 1)) →
      let first : List (UReg × Word) := if x.made then [(x.reg, wordAt s x.addr)] else []
      let second : List (UReg × Word) :=
        match secondAddr s x, x.reg.complement with
        | some a, some k => [(k, wordAt s a)]
        | _, _ => []
      ∃ v w, x.after = .next v ∧ writeAll (first ++ second) v = .next w ∧
        gives x.instr s fun t => Beside s w t x ∧ t.mem = s.mem

/-- The width of an access by its address, by type 14. A data register: a long word moves two neighbouring registers,
so does (LW) at a normal word and the other word of its pair; a short word moves 16 bits, extended by SSE, in SIMD mode
with the complement two cells on; a 40-bit block moves 40 bits of 48; PX moves 48 bits. The other registers in a long word
and with (LW), in both modes: I, M, L and B registers move with their neighbour; of the registers with a complement the
store puts both on the bus, the load takes the named one alone; a register with neither is stored in both halves and
loaded from the one; the combined PX moves all 64 bits (20_memory.md R160 to R170). At an odd address with (LW) the
registers that are not data registers are placed as the data registers are, which the rules do not say (log 31). -/
def Obligations.AccessWidths : Prop :=
  (∀ (s : State) (pm : Bool) (n : RegNum) (addr : Word),
    let a := addr.toNat
    Memory.wf s.mem = true →
    (0x40000 ≤ a → a < 0x80000 → mappedSpan (4 * a) 4 = true →
      (gives (.memDirect14a pm false false (.r n) addr) s fun t =>
        t.reg .x n = Word.toExt (read32 s.mem (4 * a)) ∧ t.reg .x (n ^^^ 1) = Word.toExt (read32 s.mem (4 * a + 2)) ∧
          t.mem = s.mem) ∧
      gives (.memDirect14a pm true false (.r n) addr) s fun t =>
        (cellRam (4 * a) = true → read64 t.mem (4 * a) = s.reg32 .x (n ^^^ 1) ++ s.reg32 .x n) ∧
          ∀ b, b < 8 * a ∨ 8 * a + 8 ≤ b → readByte t.mem b = readByte s.mem b) ∧
    (0x80000 ≤ a → a < 0x100000 → mappedSpan (2 * a) 2 = true → cellMapped (2 * (a ^^^ 1)) = true →
      (gives (.memDirect14a pm false true (.r n) addr) s fun t =>
        t.reg .x n = Word.toExt (read32 s.mem (2 * a)) ∧ t.reg .x (n ^^^ 1) = Word.toExt (read32 s.mem (2 * (a ^^^ 1))) ∧
          t.mem = s.mem) ∧
      gives (.memDirect14a pm true true (.r n) addr) s fun t =>
        (cellRam (2 * a) = true → read32 t.mem (2 * a) = s.reg32 .x n ∧
          read32 t.mem (2 * (a ^^^ 1)) = s.reg32 .x (n ^^^ 1)) ∧
          ∀ b, b / 8 ≠ a / 2 → readByte t.mem b = readByte s.mem b) ∧
    (0x100000 ≤ a → a < 0x200000 → cellMapped a = true → (s.simd = true → cellMapped (a + 2) = true) →
      (gives (.memDirect14a pm false false (.r n) addr) s fun t =>
        t.reg .x n = Word.toExt (if s.mode1 14 then (readCell s.mem a).signExtend 32 else (readCell s.mem a).setWidth 32) ∧
          (s.simd = true → t.reg .y n =
            Word.toExt (if s.mode1 14 then (readCell s.mem (a + 2)).signExtend 32
              else (readCell s.mem (a + 2)).setWidth 32)) ∧ t.mem = s.mem) ∧
      gives (.memDirect14a pm true false (.r n) addr) s fun t =>
        (cellRam a = true → readCell t.mem a = (s.reg32 .x n).setWidth 16) ∧
          (s.simd = true → cellRam (a + 2) = true → readCell t.mem (a + 2) = (s.reg32 .y n).setWidth 16) ∧
          ∀ b, b / 2 ≠ a → (s.simd = false ∨ b / 2 ≠ a + 2) → readByte t.mem b = readByte s.mem b) ∧
    ∀ k, cell48 a = some k →
      (imdw s (2 * a) = true →
        (gives (.memDirect14a pm false false (.r n) addr) s fun t =>
          t.reg .x n = (read48 s.mem k).extractLsb' 8 40 ∧ t.mem = s.mem) ∧
        gives (.memDirect14a pm true false (.r n) addr) s fun t =>
          (cellRam k = true → read48 t.mem k = s.reg .x n ++ (0#8)) ∧
            ∀ b, b < 2 * k ∨ 2 * k + 6 ≤ b → readByte t.mem b = readByte s.mem b) ∧
      (gives (.memDirect14a pm false false .px addr) s fun t => t.px = read48 s.mem k ++ (0#16) ∧ t.mem = s.mem) ∧
      gives (.memDirect14a pm true false .px addr) s fun t =>
        (cellRam k = true → read48 t.mem k = s.px.extractLsb' 16 48) ∧
          ∀ b, b < 2 * k ∨ 2 * k + 6 ≤ b → readByte t.mem b = readByte s.mem b) ∧
  ∀ (s : State) (pm lw : Bool) (u : UReg) (addr : Word) (c c' : Nat), Memory.wf s.mem = true →
    longCells addr lw c c' → u.dreg = none → usable s u →
    let peer : UReg := (u.neighbour.or u.complement).getD u
    (u ≠ .px →
      (∃ w, writeAll ((u, read32 s.mem c) ::
          match u.neighbour with
          | some n => [(n, read32 s.mem c')]
          | none => []) s = .next w ∧
        gives (.memDirect14a pm false lw u addr) s fun t => accessed w t ∧ t.mem = s.mem) ∧
      ∃ v v', readUReg s u = .next v ∧ readUReg s peer = .next v' ∧
        gives (.memDirect14a pm true lw u addr) s fun t =>
          accessed { s with mem := t.mem } t ∧
          (cellRam c = true → read32 t.mem c = v ∧ read32 t.mem c' = v') ∧
          ∀ b, b / 8 ≠ addrRow addr → readByte t.mem b = readByte s.mem b) ∧
    (u = .px →
      (gives (.memDirect14a pm false lw u addr) s fun t =>
        accessed { s with px := read32 s.mem c' ++ read32 s.mem c } t) ∧
      gives (.memDirect14a pm true lw u addr) s fun t =>
        accessed { s with mem := t.mem } t ∧
          (cellRam c = true → read32 t.mem c = s.px.extractLsb' 0 32 ∧ read32 t.mem c' = s.px.extractLsb' 32 32) ∧
          ∀ b, b / 8 ≠ addrRow addr → readByte t.mem b = readByte s.mem b)

/-- The registers of IOP space, by type 14 of a data register of PEx. A read gives the register, of EEMUSTAT with
EEMUOUTRDY, EEMUOUTFULL and EEMUINFULL as the two channels are, of EEMUOUT the oldest word of its FIFO; reading EEMUIN
empties it. A write is taken at once or, for SYSCTL, BRKCTL and the breakpoint addresses, after a step; one to EEMUOUT
joins its FIFO, REVPID is read-only, and reads 0 in bits 31 to 8, which is the model's choice (log 1). A peripheral's
register is the platform's: it answers a read, by an input of the step, and is handed a write. Memory stays, and every
data register of both elements but the one loaded (10_state.md R80 to R86; 20_memory.md R195; log 23). The breakpoint
addresses are the core's only under BRKCTL.UMODE (60_exceptions.md R786); that EEMUSTAT can be read, EMUN written, and
of EEMUSTAT bit 9 and the reserved bits written, whatever UMODE is, is the model's choice (log 24), as is that a word
written to a full FIFO is lost and how the emulator's side of both channels is an input (log 25). -/
def Obligations.CoreIopRegisters : Prop :=
  (∀ (s : State) (pm : Bool) (n : RegNum) (k : Fin 16) (addr : Word), brkIndex addr.toNat = some k →
    let y := s.iop
    let v := s.reg32 .x n
    let same (t : State) : Prop := t.mem = s.mem ∧ t.platform = s.platform ∧ elemSame s t .y
    let status : Word := (y.eemustat &&& ~~~0x1C00) ||| (if y.eemuout = [] then 0 else 0x400) |||
      (if Config.eemuoutMore < y.eemuout.length then 0x800 else 0) ||| (if y.eemuinFull then 0x1000 else 0)
    let reads (a w : Word) (y' : CoreIop) : Prop := gives (.memDirect14a pm false false (.r n) a) s fun t =>
      t.reg .x n = w.toExt ∧ t.iop = y' ∧ UnitFrame s t .x [n] none false 0 0x80000 ∧ same t
    let writes (a : Word) (y' : CoreIop) : Prop := gives (.memDirect14a pm true false (.r n) a) s fun t =>
      t.iop = y' ∧ t.pex = s.pex ∧ same t
    (∀ p ∈ ([(0x30021, status), (0x30024, y.sysctl.val), (0x30025, y.brkctl.val), (0x30026, Config.revpid.setWidth 32),
        (0x300AE, y.emun), (addr, y.brk[k].val)] : List (Word × Word)), reads p.1 p.2 y) ∧
    reads 0x30020 y.eemuin { y with eemuinFull := false } ∧
    (∀ w l, y.eemuout = w :: l → reads 0x30022 w y) ∧
    (∀ p ∈ ([(0x30020, { y with eemuin := v }),
        (0x30021, { y with eemustat := (y.eemustat &&& ~~~0xFFFE4300) ||| (v &&& 0xFFFE4300) }),
        (0x30022, if Config.eemuoutMore < y.eemuout.length then y else { y with eemuout := y.eemuout ++ [v] }),
        (0x30024, { y with sysctl := y.sysctl.write v }), (0x30025, { y with brkctl := y.brkctl.write v }), (0x30026, y),
        (0x300AE, { y with emun := v }),
        (addr, if y.brkctl.eff.getLsbD 25 then { y with brk := y.brk.set k (y.brk[k].write v) } else y)] :
        List (Word × CoreIop)), writes p.1 p.2)) ∧
  (∀ (s : State) (pm : Bool) (n : RegNum) (addr : Word), addr.toNat < 0x40000 → isCoreIop addr.toNat = false →
    (gives (.memDirect14a pm false false (.r n) addr) s fun t =>
      t.reg .x n = s.platform.answer.toExt ∧ UnitFrame s t .x [n] none false 0 0x80000 ∧ elemSame s t .y ∧ t.platform = { s.platform with access := some ⟨addr, none⟩ } ∧
        t.iop = s.iop ∧ t.mem = s.mem) ∧
    gives (.memDirect14a pm true false (.r n) addr) s fun t =>
      t.platform = { s.platform with access := some ⟨addr, some (s.reg32 .x n)⟩ } ∧ t.pex = s.pex ∧ elemSame s t .y ∧ t.iop = s.iop ∧
        t.mem = s.mem) ∧
  ∀ s : State, s.takeInput.platform = ⟨s.input.answer, none⟩ ∧
    (∀ w, s.input.emuIn = some w → s.takeInput.iop.eemuin = w ∧ s.takeInput.iop.eemuinFull = true) ∧
    (s.input.emuIn = none → s.takeInput.iop.eemuin = s.iop.eemuin ∧ s.takeInput.iop.eemuinFull = s.iop.eemuinFull) ∧
    s.takeInput.iop.eemuout = if s.input.emuOut then s.iop.eemuout.drop 1 else s.iop.eemuout

/-- Type 1: the compute, two transfers and two post-modifies in one instruction, at addresses of 32-bit words, of RAM
and ROM, all from the state before it; a circular buffer of I7 or I15 that wraps sets its bit of STKYx and asks for its
interrupt, and the breakpoint unit sees both addresses (log 24). Of two loads of one register the DM load stays; a store
to ROM has no effect, which is the spec's own decision (D2, log 42) (R360, R361; 20_memory.md R174). Of two stores that
overlap the PM store stays, and a load sees what stood there before, by the spec's own decision on what the source does
not give (20_memory.md R211; D7, log 42). -/
def Obligations.DualMoves : Prop :=
  ∀ (s : State) (dmd pmd : Bool) (dmi dmm pmi pmm : DagNum) (dn pn : RegNum) (c : Compute),
    let a := dagReg false dmi
    let b := dagReg true pmi
    let da := postAddr s a
    let pa := postAddr s b
    let bd : Word := if dmi = 1 ∧ s.mode1 23 = true then 0 else 1
    let bp : Word := if pmi = 1 ∧ s.mode1 22 = true then 0 else 1
    let two (k : Word) : Bool := k == 0 || s.simd
    let ram (a : Word) : Prop := cellRam (2 * a.toNat) = true ∧ cellRam (2 * a.toNat + 1) = true
    c.wellFormed = true → Memory.wf s.mem = true → normalWord s da → normalWord s pa →
    (s.simd = true → normalWord s (da + 1) ∧ normalWord s (pa + 1)) →
    ∀ p ∈ ([(Instr.dualMove1a dmd dmi dmm pmd dn pmi pmm pn c, c), (.dualMove1b dmd dmi dmm pmd dn pmi pmm pn, .none)] :
        List (Instr × Compute)),
      ∃ v, doCompute s .open p.2 s = .next v ∧ gives p.1 s fun t =>
        t = { v with
          pex := t.pex
          pey := t.pey
          mem := t.mem
          dag := t.dag
          dagAlt := t.dagAlt
          sys := { v.sys with stkyx := { v.sys.stkyx with val := t.sys.stkyx.val } }
          scratch := t.scratch } ∧
        t.sys.stkyx.val = v.sys.stkyx.val ||| wrapSticky s a (s.mreg (dagReg false dmm)) |||
          wrapSticky s b (s.mreg (dagReg true pmm)) ∧
        t.scratch.events = v.scratch.events ||| wrapEvent s a (s.mreg (dagReg false dmm)) |||
          wrapEvent s b (s.mreg (dagReg true pmm)) ∧
        t.scratch.accesses = v.scratch.accesses ++
          (if dmd then [⟨false, true, da⟩, ⟨true, pmd, pa⟩] else [⟨true, pmd, pa⟩, ⟨false, false, da⟩]) ∧
        UnitFrame v t .x ((if dmd then [] else [dn]) ++ if pmd then [] else [pn]) none false 0 0x60000 ∧
        UnitFrame v t .y ((if dmd || !two bd then [] else [dn]) ++ if pmd || !two bp then [] else [pn]) none false 0 0 ∧
        DagFrame s t [a, b] ∧ t.ireg a = stepped s a (s.mreg (dagReg false dmm)) ∧
        t.ireg b = stepped s b (s.mreg (dagReg true pmm)) ∧
        (dmd = false → t.reg .x dn = (wordAt s da).toExt ∧ (two bd = true → t.reg .y dn = (wordAt s (da + bd)).toExt)) ∧
        (pmd = false → dmd = true ∨ pn ≠ dn →
          t.reg .x pn = (wordAt s pa).toExt ∧ (two bp = true → t.reg .y pn = (wordAt s (pa + bp)).toExt)) ∧
        (pmd = true → (ram pa → wordAt t pa = s.reg32 .x pn) ∧
          (s.simd = true → ram (pa + 1) → wordAt t (pa + 1) = s.reg32 .y pn)) ∧
        (dmd = true → pmd = false ∨ (da ≠ pa ∧ (s.simd = true → da ≠ pa + 1 ∧ da + 1 ≠ pa)) →
          (ram da → wordAt t da = s.reg32 .x dn) ∧
            (s.simd = true → ram (da + 1) → wordAt t (da + 1) = s.reg32 .y dn)) ∧
        (∀ k, cellRam (k / 2) = false → readByte t.mem k = readByte s.mem k) ∧
        ∀ k, ¬ (dmd = true ∧ (inWord da k ∨ (s.simd = true ∧ inWord (da + 1) k))) →
          ¬ (pmd = true ∧ (inWord pa k ∨ (s.simd = true ∧ inWord (pa + 1) k))) →
          readByte t.mem k = readByte s.mem k

/-- Type 16: an immediate stored at the index register's address, in SIMD mode at the next word too, the index register
post-modified; type 16b sign-extends its 16 bits, which is the spec's own decision (D17, log 42) (R460, R461). -/
def Obligations.ImmediateStores : Prop :=
  ∀ (s : State) (i m : DagNum) (g : Bool) (data : Word) (data16 : BitVec 16),
    let addr := postAddr s (dagReg g i)
    Memory.wf s.mem = true → ramWord s addr → (s.simd = true → ramWord s (addr + 1)) →
    ∀ p ∈ (immediateMoves s g i m data data16).zip [data, .ofInt 32 data16.toInt],
      gives p.1.instr s fun t =>
        Beside s s t p.1 ∧
        wordAt t addr = p.2 ∧ (s.simd = true → wordAt t (addr + 1) = p.2) ∧
        ∀ b, ¬ inWord addr b → ¬ (s.simd = true ∧ inWord (addr + 1) b) → readByte t.mem b = readByte s.mem b

/-- Register moves: a data register to a data register moves all 40 bits; other registers move 32; PX takes and gives a
data register's 40 bits at its top, and takes 32 bits from a register and its complement; in SIMD mode the complements
move too. A swap exchanges all 40 bits of a register of each element (R366, R367, R378 to R380). That a data register
moves all 40 bits, and that the PX cases hold in SISD mode too, are the spec's own decisions (D18, D19, log 42). That PX
= PX leaves all 64 bits of PX is the model's choice (log 49). -/
def Obligations.RegisterMoves : Prop :=
  ∀ (s : State) (src dst : UReg) (n k : RegNum) (cond : Cond) (c : Compute), c.wellFormed = true →
    let g := gates s false cond
    (∀ p ∈ ([(Instr.move5a src cond dst c, c), (.move5b src cond dst, .none)] : List (Instr × Compute)),
      usable s src → usable s dst →
      ∃ v, doCompute s g p.2 s = .next v ∧ gives p.1 s fun t =>
        t.scratch.aborted = !g.any ∧
        (∀ d ∈ dst.dreg,
          let eo : Elem := if d.1 = .x then .y else .x
          (src.dreg.isSome = true ∨ src = .px →
            t = { v with pex := t.pex, pey := t.pey, scratch := t.scratch } ∧
            UnitFrame v t d.1 (if g.cx then [d.2] else []) none false 0 0 ∧
            UnitFrame v t eo (if s.simd && g.cy then [d.2] else []) none false 0 0) ∧
          (∀ q ∈ src.dreg, (g.cx = true → t.reg d.1 d.2 = s.reg q.1 q.2) ∧
            (s.simd = true → g.cy = true → t.reg eo d.2 = s.reg (if q.1 = .x then .y else .x) q.2)) ∧
          (src = .px → (g.cx = true → t.reg d.1 d.2 = s.px.extractLsb' 24 40) ∧
            (s.simd = true → g.cy = true → t.reg eo d.2 = s.px.extractLsb' 24 40))) ∧
        (dst.dreg = none ∨ (src.dreg = none ∧ src ≠ .px) → dst ≠ .px →
          ∃ w, moveAll s
              ((if g.cx then [(dst, src)] else []) ++
                (match dst.complement with
                | some d => if s.simd && g.cy && !(src == .px && dst.isUstat) then [(d, src.complement.getD src)] else []
                | none => [])) v = .next w ∧ t = w.setScratch { w.scratch with aborted := !g.any }) ∧
        (dst = .px → t = { v with px := t.px, scratch := t.scratch } ∧ (g.cx = false → t.px = v.px) ∧
          (g.cx = true →
            (∀ q ∈ src.dreg, t.px = s.reg q.1 q.2 ++ (0#24)) ∧ (src = .px → t.px = s.px) ∧
            (src.dreg = none → src ≠ .px → ∃ lo hi, readUReg s src = .next lo ∧
              readUReg s (src.complement.getD src) = .next hi ∧ t.px = hi ++ lo)))) ∧
    ∀ p ∈ ([(Instr.swap5a k cond n c, c), (.swap5b k cond n, .none)] : List (Instr × Compute)),
      ∃ v, doCompute s g p.2 s = .next v ∧ gives p.1 s fun t =>
        t = { v with pex := t.pex, pey := t.pey, scratch := t.scratch } ∧
        UnitFrame v t .x (if g.cx then [n] else []) none false 0 0 ∧
        UnitFrame v t .y (if g.cy then [k] else []) none false 0 0 ∧
        (g.cx = true → t.reg .x n = s.reg .y k) ∧ (g.cy = true → t.reg .y k = s.reg .x n)

/-- Immediate loads of each kind of register, type 17b sign-extending its 16 bits, which is the spec's own decision
(D17, log 42): what the register holds, and that nothing else changes, of the loop stacks no entry but the top one. In
SIMD mode a complement is loaded with the same value; a B register loads its I register too; read-only registers do not
change; system registers take the value at the end of the step, reserved bits with it, those of interrupt 7 as log 50
says, without the bits that are not writable (R465, R466; 10_state.md R53; 20_memory.md R186). -/
def Obligations.ImmediateLoads : Prop :=
  ∀ (s : State) (n : RegNum) (data : Word) (data16 : BitVec 16),
    ∀ p ∈ ([(fun u => Instr.loadImm17a u data, data), (fun u => .loadImm17b u data16, .ofInt 32 data16.toInt)] :
        List ((UReg → Instr) × Word)),
      let v := p.2
      let loads (u : UReg) (f : State → Prop) : Prop := gives (p.1 u) s f
      (∀ e : Elem, loads (if e = .x then .r n else .s n) fun t => onlyUnits s t ∧
        UnitFrame s t e [n] none false 0 0 ∧ t.reg e n = v.toExt ∧
        UnitFrame s t (if e = .x then .y else .x) (if s.simd then [n] else []) none false 0 0 ∧
        (s.simd = true → t.reg (if e = .x then .y else .x) n = v.toExt)) ∧
      (loads (.i n) fun t => t = { s with dag := t.dag, dagAlt := t.dagAlt } ∧ DagFrame s t [n] ∧ t.ireg n = v) ∧
      (loads (.m n) fun t => t = s.setDagOf n { s.dagOf n with m := (t.dagOf n).m } ∧
        ∀ k : RegNum, (t.dagOf n).m[k.toNat] = if k = n then v else (s.dagOf n).m[k.toNat]) ∧
      (loads (.l n) fun t => t = s.setDagOf n { s.dagOf n with l := (t.dagOf n).l } ∧
        ∀ k : RegNum, (t.dagOf n).l[k.toNat] = if k = n then v else (s.dagOf n).l[k.toNat]) ∧
      (loads (.b n) fun t => t = s.setDagOf n { s.dagOf n with b := (t.dagOf n).b, i := (t.dagOf n).i } ∧
        ∀ k : RegNum, (t.dagOf n).b[k.toNat] = (if k = n then v else (s.dagOf n).b[k.toNat]) ∧
          (t.dagOf n).i[k.toNat] = if k = n then v else (s.dagOf n).i[k.toNat]) ∧
      (loads .px fun t => t = { s with px := v ++ v }) ∧
      (loads .px1 fun t => t = { s with px := (if s.simd then v else s.px.extractLsb' 32 32) ++ v }) ∧
      (loads .px2 fun t => t = { s with px := v ++ if s.simd then v else s.px.extractLsb' 0 32 }) ∧
      (∀ u ∈ [UReg.faddr, .daddr, .pc, .emuclk, .emuclk2], loads u fun t => t = s) ∧
      (loads .tperiod fun t => t = { s with tperiod := v }) ∧
      (loads .tcount fun t => t = { s with tcount := v, scratch := { s.scratch with tcountSet := true } }) ∧
      (s.seq.ld ≠ 6 → loads .lcntr fun t => t = s.setSeq { s.seq with lcntr := v }) ∧
      (loopLost s = false → 0 < s.seq.ld → s.seq.ld ≤ 6 →
        (loads .laddr fun t => t.laddr = v ∧ t = s.setSeq { s.seq with loopaddr := t.seq.loopaddr } ∧
          ∀ k : Fin 6, k.val ≠ s.seq.ld - 1 → t.seq.loopaddr[k] = s.seq.loopaddr[k]) ∧
        loads .curlcntr fun t => t.curlcntr = v ∧
          t = (s.setSeq { s.seq with loopcnt := t.seq.loopcnt }).setScratch { s.scratch with lceSync := true } ∧
          ∀ k : Fin 6, k.val ≠ s.seq.ld - 1 → t.seq.loopcnt[k] = s.seq.loopcnt[k]) ∧
      (∀ d, pcHas s d → 0 < d → loads .pcstk fun t => pcEntryAt t d = v.setWidth 26 ∧
        t = s.setSeq { s.seq with pcstack := t.seq.pcstack } ∧ ∀ k, k ≠ d → pcEntryAt t k = pcEntryAt s k) ∧
      (s.seq.pcstkp.eff ≠ 31 →
        loads .pcstkp fun t => t = s.setSeq { s.seq with pcstkp := s.seq.pcstkp.write (v.setWidth 5) }) ∧
      let skx : Latent 32 := s.sys.stkyx.write ((s.sys.stkyx.val &&& 0x07E00000) ||| (v &&& 0xF81FFFFF))
      ∀ q ∈ ([(.ustat1, { s.sys with ustat1 := v, ustat2 := if s.simd then v else s.sys.ustat2 }),
          (.ustat2, { s.sys with ustat2 := v, ustat1 := if s.simd then v else s.sys.ustat1 }),
          (.ustat3, { s.sys with ustat3 := v, ustat4 := if s.simd then v else s.sys.ustat4 }),
          (.ustat4, { s.sys with ustat4 := v, ustat3 := if s.simd then v else s.sys.ustat3 }),
          (.mode1, { s.sys with mode1 := s.sys.mode1.write v }), (.mode2, { s.sys with mode2 := s.sys.mode2.write v }),
          (.mmask, { s.sys with mmask := s.sys.mmask.write v }), (.flags, { s.sys with flags := s.sys.flags.write v }),
          (.astatx, { s.sys with
            astatx := s.sys.astatx.write v
            astaty := if s.simd then s.sys.astaty.write v else s.sys.astaty }),
          (.astaty, { s.sys with
            astaty := s.sys.astaty.write v
            astatx := if s.simd then s.sys.astatx.write v else s.sys.astatx }),
          (.stkyx, { s.sys with stkyx := skx, stkyy := if s.simd then s.sys.stkyy.write v else s.sys.stkyy }),
          (.stkyy, { s.sys with stkyy := s.sys.stkyy.write v, stkyx := if s.simd then skx else s.sys.stkyx }),
          (.irptl, { s.sys with irptl := s.sys.irptl.write ((s.sys.irptl.val &&& 3) ||| (v &&& ~~~3)) }),
          (.imask, { s.sys with imask := s.sys.imask.write ((s.sys.imask.val &&& 3) ||| (v &&& ~~~3)) }),
          (.imaskp, { s.sys with imaskp := s.sys.imaskp.write v }),
          (.lirptl, { s.sys with lirptl := s.sys.lirptl.write v })] : List (SReg × SysRegs)),
        loads (.sys q.1) fun t => t = s.setSys q.2

/-! ## Index registers, system registers and stacks (`spec/40_group1_compute_move.md`, `spec/43_group4_misc.md`) -/

/-- MODIFY and BITREV: the sum of index register and modifier, in a circular buffer when it goes back to its own
register, bit-reversed by BITREV, in the named index register of the same DAG; no other register changes. Within a
buffer the result stays in it and moves by the modifier, give or take the length (R387, R388, R485, R486; 20_memory.md
R183, R188). How the bounds compare, that no flag is set by a wrap, and that another register than the source does not
wrap are the spec's own decisions (D4 to D6, log 42). -/
def Obligations.IndexModify : Prop :=
  ∀ (s : State) (g : Bool) (is m idx : DagNum) (cond : Cond) (c : Compute) (data : Word), c.wellFormed = true →
    let src := dagReg g is
    let dst := dagReg g (is ^^^ idx)
    let k := s.mreg (dagReg g m)
    let sum (x : Word) : Word := if dst = src then (circReg s src x).1 else s.ireg src + x
    (∀ p ∈ ([(Instr.modify7a g cond is m idx c, c), (.modify7b g cond is m idx, .none)] : List (Instr × Compute)),
      let go := (gates s false cond).any
      ∃ v, doCompute s (gates s false cond) p.2 s = .next v ∧ gives p.1 s fun t =>
        t = { v with dag := t.dag, dagAlt := t.dagAlt, scratch := t.scratch } ∧
          DagFrame v t (if go then [dst] else []) ∧ (go = true → t.ireg dst = sum k)) ∧
    (gives (.modifyImm19a g idx is data) s fun t =>
      t = { s with dag := t.dag, dagAlt := t.dagAlt } ∧ DagFrame s t [dst] ∧ t.ireg dst = sum data) ∧
    (gives (.bitrev19a g idx is data) s fun t =>
      t = { s with dag := t.dag, dagAlt := t.dagAlt } ∧ DagFrame s t [dst] ∧
        ∀ j < 32, (t.ireg dst).getLsbD j = (s.ireg src + data).getLsbD (31 - j)) ∧
    ∀ x : Word,
      let i : Int := (s.ireg src).toNat
      let b : Int := (s.breg src).toNat
      let l : Int := (s.lreg src).toNat
      (l = 0 → (circReg s src x).1 = s.ireg src + x) ∧
      (b ≤ i → i < b + l → b + l ≤ 2 ^ 32 → |x.toInt| < l →
        let r : Int := (circReg s src x).1.toNat
        b ≤ r ∧ r < b + l ∧ (r = i + x.toInt ∨ r = i + x.toInt - l ∨ r = i + x.toInt + l))

/-- What each special register reads as, by a move to a data register: most of them their contents, IMASKP and the mask
pointers of LIRPTL one step late, STKYx with the stack flags and ASTAT with SF as the stacks and the bit FIFO make them,
FLAGS with the levels of input pins; the tops of empty stacks read as all ones (R366; 10_state.md R43 to R77). FADDR and
DADDR read as the addresses four and two on, where the instructions up to there neither branch, end a loop, start one nor
admit an interrupt, and none is admitted now (R368; the choice of these conditions is log 9). That SF reads at bit 14 of
ASTAT is the spec's presumption (R56, G1; log 17). -/
def Obligations.RegisterReads : Prop :=
  ∀ (s : State) (n k : RegNum),
    let y := s.sys
    let sf (v : Word) (e : Elem) : Word := (v &&& ~~~0x4000) ||| (if 32 ≤ (s.pe e).bffwrp.toNat then 0x4000 else 0)
    let reads (u : UReg) (v : Word) : Prop := gives (.move5b u .always (.r n)) s fun t => t.reg .x n = v.toExt
    (∀ p ∈ ([(.i k, s.ireg k), (.m k, s.mreg k), (.l k, s.lreg k), (.b k, s.breg k), (.pc, s.seq.pc.setWidth 32),
        (.pcstkp, s.seq.pcstkp.eff.setWidth 32), (.emuclk, s.emuclk), (.emuclk2, s.emuclk2),
        (.px1, s.px.extractLsb' 0 32), (.px2, s.px.extractLsb' 32 32), (.tperiod, s.tperiod), (.tcount, s.tcount),
        (.sys .ustat1, y.ustat1), (.sys .ustat2, y.ustat2), (.sys .ustat3, y.ustat3), (.sys .ustat4, y.ustat4),
        (.sys .mode1, y.mode1.val), (.sys .mode2, y.mode2.val), (.sys .mmask, y.mmask.val), (.sys .stkyy, y.stkyy.val),
        (.sys .irptl, y.irptl.val), (.sys .imask, y.imask.val), (.sys .imaskp, y.imaskp.eff),
        (.sys .lirptl, (y.lirptl.val &&& 0xC00FFFFF) ||| (y.lirptl.eff &&& 0x3FF00000)),
        (.sys .astatx, sf y.astatx.val .x), (.sys .astaty, sf y.astaty.val .y),
        (.sys .stkyx, (y.stkyx.val &&& 0xFA9FFFFF) ||| (if 29 ≤ s.seq.pcstkp.eff.toNat then 0x00200000 else 0) |||
          (if s.seq.pcstkp.eff = 0 then 0x00400000 else 0) ||| (if s.seq.sts = [] then 0x01000000 else 0) |||
          (if s.seq.ld = 0 then 0x04000000 else 0))] : List (UReg × Word)), reads p.1 p.2) ∧
    (gives (.move5b (.sys .flags) .always (.r n)) s fun t => ∀ j < 16,
      (t.reg32 .x n).getLsbD (2 * j + 1) = y.flags.val.getLsbD (2 * j + 1) ∧
        (t.reg32 .x n).getLsbD (2 * j) =
          if y.flags.val.getLsbD (2 * j + 1) then y.flags.val.getLsbD (2 * j) else s.flagPins.getLsbD j) ∧
    (s.seq.ld ≠ 6 → reads .lcntr s.seq.lcntr) ∧
    (loopLost s = false →
      (s.seq.ld = 0 → reads .laddr 0xFFFFFFFF ∧ reads .curlcntr 0xFFFFFFFF) ∧
      ∀ h : 0 < s.seq.ld ∧ s.seq.ld ≤ 6, reads .laddr s.seq.loopaddr[s.seq.ld - 1] ∧
        reads .curlcntr s.seq.loopcnt[s.seq.ld - 1]) ∧
    (pcHas s 0 → reads .pcstk 0x03FFFFFF) ∧
    (∀ d, pcHas s d → 0 < d → reads .pcstk ((pcEntryAt s d).setWidth 32)) ∧
    let plain (j : Nat) : Prop := (∀ q : Fin 6, q.val < s.seq.ld → s.seq.loopaddr[q].setWidth 24 ≠ s.seq.pc + .ofNat 24 j) ∧
      ∃ i l, fetch s.mem (s.seq.pc + .ofNat 24 j) = .next (i, l) ∧ redirects i = false ∧ mayAdmit i = false ∧
        loopStarted (s.seq.pc + .ofNat 24 j) i = []
    s.seq.pc.toNat < 0x100000 → s.seq.db = none → s.seq.exiting = none → mayInterrupt s = false →
      ((∀ j < 4, plain j) → reads .faddr ((s.seq.pc + 4).setWidth 32)) ∧
        ((∀ j < 2, plain j) → reads .daddr ((s.seq.pc + 2).setWidth 32))

/-- Type 18: BIT SET, CLR and TGL write the register with the bits of the data set, cleared or inverted, in SIMD mode
its complement by its own bits too; BIT TST and BIT XOR put into BTF whether all the bits are set, or the register
equals the data, of PEy by the complement or, where there is none, the same register (R480, R481): that one outcome goes
to both BTF then is the spec's own decision (D26, log 42). That BTF is bit 18 of ASTAT is the spec's presumption
(10_state.md R56, G1; log 17). -/
def Obligations.SystemRegisterBits : Prop :=
  ∀ (s : State) (x : SReg) (data : Word),
    let both (f : Word → Word) : List (UReg × Word) :=
      (.sys x, f (readSReg s x)) ::
        match x.complement with
        | some k => if s.simd then [(.sys k, f (readSReg s k))] else []
        | none => []
    (∀ p ∈ ([(Instr.bitSet18a x data, fun v => v ||| data), (.bitClr18a x data, fun v => v &&& ~~~data),
        (.bitTgl18a x data, fun v => v ^^^ data)] : List (Instr × (Word → Word))),
      ∃ w, writeAll (both p.2) s = .next w ∧ exec p.1 s = .next w) ∧
    ∀ p ∈ ([(Instr.bitTst18a x data, fun v => v &&& data = data), (.bitXor18a x data, fun v => v = data)] :
        List (Instr × (Word → Prop))),
      gives p.1 s fun t => onlyUnits s t ∧
        UnitFrame s t .x [] none false 0x40000 0 ∧ UnitFrame s t .y [] none false (if s.simd then 0x40000 else 0) 0 ∧
        ((t.astat .x).val.getLsbD 18 = true ↔ p.2 (readSReg s x)) ∧
        (s.simd = true → ((t.astat .y).val.getLsbD 18 = true ↔ p.2 (readSReg s (x.complement.getD x))))

/-- The stack instructions. PUSH LOOP and PUSH PCSTK move the pointer and keep the entries below; what the new top entry
holds is any value (93_implementation_defined.md item 46, log 38), of which nothing is said. PUSH PCSTK on 30 entries
leaves the stack overflowed. PUSH STS saves MODE1 and both ASTAT, where there is room, and clears in MODE1 the bits that MMASK
names; POP STS brings them back. A full loop or status stack sets its overflow bit and raises SOVFI. A combined instruction
does its operations in turn. FLUSH CACHE empties the cache at the end of the next step, and a PM access between is shut out
(R490 to R494; 10_state.md R46 to R51; 20_memory.md R221). -/
def Obligations.StackInstructions : Prop :=
  (∀ (s : State),
    let events (k : Word) : Scratch := { s.scratch with events := s.scratch.events ||| k.setWidth 42 }
    (loopLost s = false → s.seq.ld < 6 → gives .pushLoop20a s fun t =>
      t = { s with
        seq := { s.seq with ld := s.seq.ld + 1, tested := t.seq.tested, loopaddr := t.seq.loopaddr
                            loopcnt := t.seq.loopcnt }
        scratch := { s.scratch with lceSync := true } } ∧ t.loopTested = false ∧
      ∀ k : Fin 6, k.val < s.seq.ld → t.seq.tested[k] = s.seq.tested[k] ∧ t.seq.loopaddr[k] = s.seq.loopaddr[k] ∧
        t.seq.loopcnt[k] = s.seq.loopcnt[k]) ∧
    (loopLost s = false → s.seq.ld = 6 → gives .pushLoop20a s fun t =>
      t = { s with
        sys := { s.sys with stkyx := s.sys.stkyx.hw (s.sys.stkyx.val ||| 0x02000000) }
        scratch := { events 8 with lceSync := true } }) ∧
    (loopLost s = false → 0 < s.seq.ld → gives .popLoop20a s fun t =>
      t = { s with seq := { s.seq with ld := s.seq.ld - 1 }, scratch := { s.scratch with lceSync := true } }) ∧
    (s.seq.sts.length < 15 → gives .pushSts20a s fun t =>
      t = { s with
        seq := { s.seq with sts := t.seq.sts }
        sys := { s.sys with mode1 := s.sys.mode1.write (s.sys.mode1.val &&& ~~~s.sys.mmask.eff) } } ∧
        t.seq.sts = ⟨s.sys.mode1.val, readSReg s .astatx, readSReg s .astaty⟩ :: s.seq.sts) ∧
    (15 ≤ s.seq.sts.length → gives .pushSts20a s fun t =>
      t = { s with
        sys := { s.sys with
          mode1 := s.sys.mode1.write (s.sys.mode1.val &&& ~~~s.sys.mmask.eff)
          stkyx := s.sys.stkyx.hw (s.sys.stkyx.val ||| 0x00800000) }
        scratch := events 8 }) ∧
    (s.sys.stkyx.val.getLsbD 23 = false → ∀ e rest, s.seq.sts = e :: rest → gives .popSts20a s fun t =>
      t = { s with
        seq := { s.seq with sts := rest }
        sys := { s.sys with
          mode1 := s.sys.mode1.write e.mode1
          astatx := s.sys.astatx.hw e.astatx
          astaty := s.sys.astaty.hw e.astaty } }) ∧
    (∀ d, pcHas s d → d < 30 → gives .pushPcstk20a s fun t =>
      t = { s with
        seq := { s.seq with pcstack := t.seq.pcstack, pcstkp := t.seq.pcstkp }
        scratch := events (if 29 ≤ d + 1 then 8 else 0) } ∧ pcHas t (d + 1) ∧
        ∀ k, k ≠ d + 1 → pcEntryAt t k = pcEntryAt s k) ∧
    (pcHas s 30 → gives .pushPcstk20a s fun t =>
      t = { s with seq := { s.seq with pcstkp := t.seq.pcstkp }, scratch := events 8 } ∧
        t.seq.pcstkp.val = 31 ∧ t.seq.pcstkp.eff = 31) ∧
    (∀ d, pcHas s d → 0 < d → gives .popPcstk20a s fun t =>
      t = { s with seq := { s.seq with pcstkp := t.seq.pcstkp } } ∧ pcHas t (d - 1)) ∧
    (gives .flushCache20a s fun t => t = s.setScratch { s.scratch with flush := true }) ∧
    ∀ (l o p f : Bool) (d : Nat), pcHas s d → loopLost s = false → s.sys.stkyx.val.getLsbD 23 = false →
      let chain (is : List Instr) : Res State := is.foldl (fun r i => Res.bind r (exec i)) (.next s)
      let some_ (b : Bool) (i : Instr) : List Instr := if b then [i] else []
      (d ≤ 30 → ∃ t, chain (some_ l .pushLoop20a ++ some_ o .pushSts20a ++ some_ p .pushPcstk20a ++
          some_ f .flushCache20a) = .next t ∧ exec (.stackOps20a l false o false p false f) s = .next t) ∧
      (0 < d → 0 < s.seq.ld → s.seq.sts ≠ [] → ∃ t, chain (some_ l .popLoop20a ++ some_ o .popSts20a ++
          some_ p .popPcstk20a ++ some_ f .flushCache20a) = .next t ∧
        exec (.stackOps20a false l false o false p f) s = .next t)) ∧
  ∀ s t : State, beforeEnd s t → stepGives s fun w =>
    w.flushing = t.scratch.flush ∧ (t.scratch.flush = true → w.cacheHold = true) ∧
      (t.flushing = true → ∀ k : Fin 16, w.cache[k].entry0.valid = false ∧ w.cache[k].entry1.valid = false)

/-- CJUMP keeps the frame pointer I6 in R2 and in SIMD mode in S2, makes I7 the frame pointer and branches with two delay
slots; RFRAME makes I6 the stack pointer I7 and loads I6 from the word it points to (R505, R506). -/
def Obligations.FrameInstructions : Prop :=
  ∀ (s : State) (addr : Addr24),
    (∀ p ∈ ([(Instr.cjumpDirect25a addr, addr), (.cjumpRel25a addr, s.seq.pc + addr)] : List (Instr × Addr24)),
      gives p.1 s fun t =>
        t = { s with pex := t.pex, pey := t.pey, dag := t.dag, dagAlt := t.dagAlt
                     scratch := { s.scratch with dbReq := some p.2 } } ∧
        UnitFrame s t .x [2] none false 0 0 ∧ UnitFrame s t .y (if s.simd then [2] else []) none false 0 0 ∧
        DagFrame s t [6] ∧ t.reg .x 2 = (s.ireg 6).toExt ∧ (s.simd = true → t.reg .y 2 = (s.ireg 6).toExt) ∧
        t.ireg 6 = s.ireg 7) ∧
    (normalWord s (s.ireg 6) → ∀ i ∈ [Instr.rframe25a, .rframe25c], gives i s fun t =>
      t = { s with dag := t.dag, dagAlt := t.dagAlt, scratch := t.scratch } ∧ DagFrame s t [6, 7] ∧
        t.ireg 7 = s.ireg 6 ∧ t.ireg 6 = wordAt s (s.ireg 6) ∧
        t.scratch = { s.scratch with accesses := s.scratch.accesses ++ [⟨false, false, s.ireg 6⟩] })

/-- NOP changes nothing of the state; nor does EMUIDLE, where no emulator is attached (the spec's decision D27, log 25);
IDLE puts the core into the idle state; the program counter moves at the end of the step (R498, R500, R501). -/
def Obligations.NopAndIdle : Prop :=
  (∀ s : State, ∀ i ∈ [Instr.nop21a, .nop21c, .emuidle22a, .idle22c true], gives i s fun t => t = s) ∧
  (∀ s : State, ∀ i ∈ [Instr.idle22a, .idle22c false], gives i s fun t => t = s.setSeq { s.seq with idle := true }) ∧
  ∀ s t : State, ∀ i ∈ [Instr.nop21a, .nop21c], ∀ len, executes s i len t → s.seq.exiting = none → s.seq.db = none →
    s.scratch = Scratch.none → stepGives s fun w =>
      w.seq.pc = s.seq.pc + .ofNat 24 len ∧ w.pex = s.pex ∧ w.pey = s.pey ∧ w.dag = s.dag ∧ w.dagAlt = s.dagAlt ∧
        w.px = s.px ∧ w.mem = s.takeInput.mem ∧ w.seq.pcstack = s.seq.pcstack ∧ w.seq.ld = 0 ∧ w.seq.sts = s.seq.sts

/-! ## Branches (`spec/41_group2_program_flow.md`) -/

/-- Jumps: a jump is taken when the condition holds in every executing element, to its direct, relative or indirect
target, at once or after two slots; with ELSE the compute executes where the condition fails; type 10 computes and moves
only where it fails. (LA) pops the loop stacks and the PC stack, (CI) ends the service of the current interrupt, and
both may stand together (R401, R404 to R409, R415 to R417). (CI) clears the breakpoint status bits of EEMUSTAT where it
is BKPI that it ends (10_state.md R84; 60_exceptions.md R764), and with no interrupt in service does nothing, by the
spec's own decision (D46, log 42); that ELSE with the condition TRUE computes nowhere is the model's (log 19). A jump
whose condition fails counts as aborted, with ELSE too, but not where its compute ran in one element (60_exceptions.md
R786; log 24). -/
def Obligations.Jumps : Prop :=
  ∀ (s : State) (a j e ci : Bool) (cond : Cond) (c : Compute) (addr : Addr24) (rel : BitVec 6) (pmi pmm dmi dmm : DagNum)
    (d : Bool) (n : RegNum), c.wellFormed = true →
    let g := gates s true cond
    let near : Addr24 := s.seq.pc + .ofInt 24 rel.toInt
    let ind : Addr24 := .ofNat 24 (s.ireg (dagReg true pmi) + s.mreg (dagReg true pmm)).toNat
    (∀ p ∈ ([(Instr.jumpDirect8a a cond j ci addr, false, .none, addr),
        (.jumpRel8a a cond j ci addr, false, .none, s.seq.pc + addr), (.jumpInd9a a cond pmi pmm j e ci c, e, c, ind),
        (.jumpRel9a a cond rel j e ci c, e, c, near), (.jumpInd9b a cond pmi pmm j ci, false, .none, ind),
        (.jumpRel9b a cond rel j ci, false, .none, near)] : List (Instr × Bool × Compute × Addr24)),
      ∃ v, doCompute s (if p.2.1 then g.negate else g) p.2.2.1 s = .next v ∧
        (g.both = false → gives p.1 s fun t =>
          t = v.setScratch { v.scratch with aborted := p.2.1 || !g.any || p.2.2.1 == .none }) ∧
        (g.both = true → a = false → ci = false → gives p.1 s fun t => asks v t j p.2.2.2) ∧
        (g.both = true → a = true → ci = false → ∀ k, pcHas s k → 0 < k → 0 < s.seq.ld → loopLost s = false →
          gives p.1 s fun t => poppedPc s t k ∧
            asks ((v.setSeq { s.seq with ld := s.seq.ld - 1, pcstkp := t.seq.pcstkp }).setScratch
              { v.scratch with lceSync := true }) t j p.2.2.2) ∧
        (g.both = true → ci = true → canEndService s →
          (a = true → ∃ k, pcHas s k ∧ 0 < k ∧ 0 < s.seq.ld ∧ loopLost s = false) → gives p.1 s fun t =>
          endsService v t ∧ (∀ k, a = true → pcHas s k → poppedPc s t k) ∧
            t = { v with
              seq := { v.seq with
                sts := t.seq.sts
                ld := if a then s.seq.ld - 1 else s.seq.ld
                pcstkp := if a then t.seq.pcstkp else s.seq.pcstkp }
              sys := { v.sys with
                mode1 := t.sys.mode1
                astatx := t.sys.astatx
                astaty := t.sys.astaty
                irptl := t.sys.irptl
                imaskp := t.sys.imaskp
                lirptl := t.sys.lirptl }
              iop := { v.iop with eemustat := t.iop.eemustat }
              scratch := { v.scratch with
                br := if j then v.scratch.br else some p.2.2.2
                dbReq := if j then some p.2.2.2 else v.scratch.dbReq
                lceSync := a || v.scratch.lceSync
                aborted := false } })) ∧
    ∀ p ∈ ([(Instr.jumpInd10a d dmi dmm cond pmi pmm n c, ind), (.jumpRel10a d dmi dmm cond rel n c, near)] :
        List (Instr × Addr24)),
      (g.both = true → gives p.1 s fun t => asks s t false p.2) ∧
        (g.both = false → ∀ t, exec p.1 s = .next t → t.scratch.aborted = true)

/-- Calls: as jumps, with the return address pushed on the PC stack under the call bit: the next instruction, after a
delayed call the third; the (LA) and (CI) bits of a call do nothing (the model's reading, log 19, as is that ELSE with
the condition TRUE computes nowhere) (R402, R405, R415, R416). A call whose condition fails counts as aborted, as a jump
does (60_exceptions.md R786; log 24). Bit 25 of the entry is set where a loop was found to end while the call was in the
Address stage (10_state.md R45): which steps those are is the model's reading (log 44). -/
def Obligations.Calls : Prop :=
  ∀ (s : State) (a j e ci : Bool) (cond : Cond) (c : Compute) (addr : Addr24) (rel : BitVec 6) (pmi pmm : DagNum)
    (d : Nat) (ret ret2 : Addr24), c.wellFormed = true →
    let g := gates s true cond
    let near : Addr24 := s.seq.pc + .ofInt 24 rel.toInt
    let ind : Addr24 := .ofNat 24 (s.ireg (dagReg true pmi) + s.mreg (dagReg true pmm)).toNat
    let ending : Bool := s.scratch.loopEnded ||
      (match s.seq.exiting with
      | some x => decide (x.top.toNat ≤ s.seq.pc.toNat ∧ s.seq.pc.toNat ≤ x.last.toNat ∧ x.left = 2)
      | none => false)
    pcHas s d → d < 30 → isReturn s j 3 ret → isReturn s j 2 ret2 →
    ∀ p ∈ ([(Instr.callDirect8a a cond j ci addr, false, .none, addr, ret),
        (.callRel8a a cond j ci addr, false, .none, s.seq.pc + addr, ret),
        (.callInd9a a cond pmi pmm j e ci c, e, c, ind, ret), (.callRel9a a cond rel j e ci c, e, c, near, ret),
        (.callInd9b a cond pmi pmm j ci, false, .none, ind, ret2),
        (.callRel9b a cond rel j ci, false, .none, near, ret2)] :
        List (Instr × Bool × Compute × Addr24 × Addr24)),
      ∃ v, doCompute s (if p.2.1 then g.negate else g) p.2.2.1 s = .next v ∧
        (g.both = false → gives p.1 s fun t =>
          t = v.setScratch { v.scratch with aborted := p.2.1 || !g.any || p.2.2.1 == .none }) ∧
        (g.both = true → gives p.1 s fun t =>
          pushedPc s t d (BitVec.ofBool ending ++ 1#1 ++ p.2.2.2.2) ∧
            asks ((v.setSeq { s.seq with pcstack := t.seq.pcstack, pcstkp := t.seq.pcstkp }).setScratch
              { v.scratch with events := v.scratch.events ||| if 29 ≤ d + 1 then 8 else 0 }) t j p.2.2.2.1)

/-- Returns: to the address on top of the PC stack, which is popped; RTI also ends the service of the interrupt in
service of highest priority, its restored flags over those of the compute and that of BKPI clears the breakpoint status
bits of EEMUSTAT (R418 to R420; 60_exceptions.md R764; 10_state.md R84). That RTI with no interrupt in service is an RTS
is the spec's own decision (D46, log 42), that ELSE with the condition TRUE computes nowhere the model's (log 19). A
return whose condition fails counts as aborted, as a jump does (60_exceptions.md R786; log 24). -/
def Obligations.Returns : Prop :=
  ∀ (s : State) (j e lr : Bool) (cond : Cond) (c : Compute) (d : Nat), c.wellFormed = true →
    let g := gates s true cond
    let back : Addr24 := (pcEntryAt s d).extractLsb' 0 24
    pcHas s d → 0 < d →
    (∀ p ∈ ([(Instr.rts11a cond j e lr c, e, c), (.rts11c cond j lr, false, .none)] : List (Instr × Bool × Compute)),
      ∃ v, doCompute s (if p.2.1 then g.negate else g) p.2.2 s = .next v ∧
        (g.both = false → gives p.1 s fun t =>
          t = v.setScratch { v.scratch with aborted := p.2.1 || !g.any || p.2.2 == .none }) ∧
        (g.both = true → gives p.1 s fun t => poppedPc s t d ∧
          asks (v.setSeq { s.seq with pcstkp := t.seq.pcstkp }) t j back)) ∧
    ∀ p ∈ ([(Instr.rti11a cond j e c, e, c), (.rti11c cond j, false, .none)] : List (Instr × Bool × Compute)),
      ∃ v, doCompute s (if p.2.1 then g.negate else g) p.2.2 s = .next v ∧
        (g.both = false → gives p.1 s fun t =>
          t = v.setScratch { v.scratch with aborted := p.2.1 || !g.any || p.2.2 == .none }) ∧
        (g.both = true → canEndService s → gives p.1 s fun t =>
          poppedPc s t d ∧ endsService v t ∧
            t = { v with
              seq := { v.seq with sts := t.seq.sts, pcstkp := t.seq.pcstkp }
              sys := { v.sys with
                mode1 := t.sys.mode1
                astatx := t.sys.astatx
                astaty := t.sys.astaty
                irptl := t.sys.irptl
                imaskp := t.sys.imaskp
                lirptl := t.sys.lirptl }
              iop := { v.iop with eemustat := t.iop.eemustat }
              scratch := { v.scratch with
                br := if j then v.scratch.br else some back
                dbReq := if j then some back else v.scratch.dbReq
                aborted := false } })

/-- DO UNTIL pushes the address after itself on the PC stack, and on the loop stacks the end address, the termination
condition and the type of loop, and the count, which the forms with LCNTR also load into LCNTR; a type 13 with the
condition LCE counts with LCNTR as it is (the model's reading, log 19) (R425, R426, R430; 10_state.md R48). The type
goes by the number of instructions of the body, in VISA space by their 48 bits, which R437 requires of short loops. That
the 16-bit count of type 12a is zero-extended is the spec's decision (D24, log 42). -/
def Obligations.DoUntil : Prop :=
  ∀ (s : State) (rel : Addr24) (data : BitVec 16) (u : UReg) (v : Word) (term : Term) (d : Nat),
    let last := s.seq.pc + rel
    let top := s.seq.pc + lengthAt s.seq.pc 3
    let k := (last.toNat - top.toNat) / (if isVisa top then 3 else 1) + 1
    pcHas s d → d < 30 → loopLost s = false → s.seq.ld < 6 → top.toNat ≤ last.toNat → readUReg s u = .next v →
    ∀ p ∈ ([(Instr.doImm12a data rel, .lce, data.setWidth 32, data.setWidth 32), (.doUreg12a u rel, .lce, v, v),
        (.doUntil13a term rel, term, s.seq.lcntr, s.seq.lcntr)] : List (Instr × Term × Word × Word)),
      gives p.1 s fun t =>
        pushedPc s t d (0#2 ++ top) ∧ t.seq.ld = s.seq.ld + 1 ∧ t.seq.lcntr = p.2.2.2 ∧ t.curlcntr = p.2.2.1 ∧
        t.laddr.extractLsb' 0 24 = last ∧ Term.ofCode (t.laddr.extractLsb' 24 5).toNat = p.2.1 ∧
        t.laddr.extractLsb' 29 3 =
          (if p.2.1 = .lce then (if k = 1 then 2 else if k = 2 then 4 else if k = 3 then 6 else 7)
           else if k = 1 then 1 else 0) ∧
        t.loopTested = false ∧
        (∀ k : Fin 6, k.val < s.seq.ld → t.seq.loopaddr[k] = s.seq.loopaddr[k] ∧ t.seq.loopcnt[k] = s.seq.loopcnt[k]) ∧
        t = { s with
          seq := { s.seq with
            pcstack := t.seq.pcstack
            pcstkp := t.seq.pcstkp
            lcntr := t.seq.lcntr
            loopaddr := t.seq.loopaddr
            loopcnt := t.seq.loopcnt
            tested := t.seq.tested
            ld := t.seq.ld }
          scratch := { s.scratch with
            lceSync := true
            events := s.scratch.events ||| if 29 ≤ d + 1 then 8 else 0 } }

/-! ## The machine (`spec/41_group2_program_flow.md` R400, `spec/60_exceptions.md`, `spec/70_reset_and_hazards.md`) -/

/-- A step runs the decoded instruction: without reset, interrupt entry or idle state, a step is the meaning of the
instruction fetched at the program counter, then the choice of the next address and the end of the step; before it the
tests of a loop that is due. What is fetched is what the decoder reads from the bytes at the program counter. Modified code
and a PM access after a change of the cache are shut out (log 46). -/
def Obligations.StepRunsDecoded : Prop :=
  ∀ (s : State) (i : Instr) (len : Nat),
    let s' := s.takeInput
    let runs (u : State) : Prop := step s =
      ((Res.bind (exec i u) fun t => advance u s'.curlcntr len t).map (endStep s' s.input (some s.seq.pc)))
    running s →
    (s.seq.ld = 0 → fetch s'.mem s.seq.pc = .next (i, len) → executable s i len → runs s') ∧
    (∀ u, Res.bind (loopTest 7 s') arithTest = .next u → fetch s'.mem s.seq.pc = .next (i, len) → executable s i len →
      runs u) ∧
    (∀ (m : List Host.Cell) (pc : Addr24), pc.toNat < 0x100000 → ∀ c ∈ cell48 pc.toNat,
      decode48 (readCell m (c + 2) ++ readCell m (c + 1) ++ readCell m c) = some i → fetch m pc = .next (i, 1)) ∧
    ∀ (m : List Host.Cell) (pc : Addr24), let c := pc.toNat
      0x100000 ≤ c → c < 0x200000 → cellMapped c = true → cellMapped (c + len - 1) = true →
      decodeVisa (readCell m c) (readCell m (c + 1)) (readCell m (c + 2)) = some (i, len) → fetch m pc = .next (i, len)

/-- The end of a step, in a loop or outside, with a loop test before it or without: the next address is the following
instruction or where the loop goes, the target of a branch, whatever the loop, or the target of a delayed branch after
its two slots, but after an IDLE in a slot it stays pending; a delayed branch in the first slot of another takes its
place, with the one slot to go that it had; data, index and stack registers and memory stay as the instruction left
them; an explicit write of a system register is read from now on and acts one step later (R400, R404 to R406;
10_state.md R50; 70_reset_and_hazards.md R850), of BRKCTL the NEG bits too and of all breakpoint address registers,
which is the model's choice (log 24). That the latency is one instruction exactly is the spec's decision (D50, log 42),
as are the steps of a loop (D21, log 42). Which instructions count for a way out is the model's reading (log 36), as is
the order of two loop tests (log 47) and what branches among the last instructions of a loop do (log 20). -/
def Obligations.EndOfStep : Prop :=
  ∀ (s u t : State) (i : Instr) (len : Nat), executesFrom s i len u t → branchFits s t → canLoopBack t s.seq.pc →
    stepGives s fun w => ∃ next, flowsTo t s.seq.pc (s.seq.pc + .ofNat 24 len) next ∧
      (s.seq.db = none → t.scratch.br = none → w.seq.pc = next) ∧
      (∀ x, s.seq.db = none → t.scratch.br = some x → w.seq.pc = x) ∧
      (∀ x, s.seq.db = none → t.scratch.dbReq = some x → w.seq.db = some ⟨x, 2⟩) ∧
      (s.seq.db = none → t.scratch.dbReq = none → w.seq.db = none) ∧
      (∀ x, s.seq.db = some ⟨x, 2⟩ → w.seq.pc = next ∧ w.seq.db = some ⟨t.scratch.dbReq.getD x, 1⟩) ∧
      (∀ x, s.seq.db = some ⟨x, 1⟩ → t.seq.idle = false → w.seq.pc = x ∧ w.seq.db = none) ∧
      (∀ x, s.seq.db = some ⟨x, 1⟩ → t.seq.idle = true → w.seq.pc = next ∧ w.seq.db = some ⟨x, 1⟩) ∧
      w.pex = t.pex ∧ w.pey = t.pey ∧ w.dag = t.dag ∧ w.dagAlt = t.dagAlt ∧ w.px = t.px ∧ w.mem = t.mem ∧
      w.seq.pcstack = t.seq.pcstack ∧ w.seq.ld = t.seq.ld ∧ w.seq.loopaddr = t.seq.loopaddr ∧
      w.seq.loopcnt = t.seq.loopcnt ∧ w.seq.sts = t.seq.sts ∧ w.seq.lcntr = t.seq.lcntr ∧ w.seq.idle = t.seq.idle ∧
      w.tperiod = t.tperiod ∧ w.scratch = Scratch.none ∧ w.seq.irqHold = false ∧
      w.seq.pcstkp = ⟨t.seq.pcstkp.wr.getD t.seq.pcstkp.val, t.seq.pcstkp.val, none⟩ ∧
      ∀ p ∈ [(t.sys.mode1, w.sys.mode1), (t.sys.mode2, w.sys.mode2), (t.sys.mmask, w.sys.mmask),
          (t.sys.flags, w.sys.flags), (t.sys.astatx, w.sys.astatx), (t.sys.astaty, w.sys.astaty),
          (t.sys.stkyx, w.sys.stkyx), (t.sys.stkyy, w.sys.stkyy), (t.sys.imask, w.sys.imask),
          (t.sys.imaskp, w.sys.imaskp), (t.iop.sysctl, w.iop.sysctl), (t.iop.brkctl, w.iop.brkctl)] ++
          (List.finRange 16).map fun k => (t.iop.brk[k], w.iop.brk[k]),
        p.2.wr = none ∧ p.2.eff = p.1.val ∧ p.2.val = p.1.wr.getD p.1.val

/-- What reset leaves, where the spec says: the mode, mask and latch registers, empty stacks and how they read, an empty
cache, the program counter at the vector of RSTI, which is number 1 of the vector table; and a step in which reset is
asserted, or SYSCTL.SRST is in force, leaves that, memory kept (10_state.md R95; 70_reset_and_hazards.md R830; the
moment by the spec's decision D51, log 42). The place of the vector table is the model's choice (log 3), and so are the
values of the registers for which the spec gives no reset value, where the last clause has the whole state (log 5), that
a software reset clears SYSCTL.IIVT (log 3), and that code stored before reset no longer counts as modified (log 46). -/
def Obligations.ResetState : Prop :=
  (∀ p ∈ ([(.mode1, 0), (.mode2, 0x42000000), (.mmask, 0x00200000), (.irptl, 0), (.imask, 3), (.imaskp, 0),
      (.lirptl, 0), (.astatx, 0), (.astaty, 0), (.stkyx, 0x05400000), (.ustat1, 0), (.ustat2, 0), (.ustat3, 0),
      (.ustat4, 0)] : List (SReg × Word)), readSReg State.reset p.1 = p.2) ∧
  (∀ p ∈ ([(.pcstk, 0x03FFFFFF), (.pcstkp, 0), (.laddr, 0xFFFFFFFF), (.curlcntr, 0xFFFFFFFF), (.tperiod, 0),
      (.tcount, 0)] : List (UReg × Word)), readUReg State.reset p.1 = .next p.2) ∧
  State.reset.simd = false ∧ State.reset.seq.pc = ivtBase State.reset + 4 ∧ State.reset.seq.db = none ∧
  State.reset.seq.idle = false ∧
  (∀ k : Fin 16, State.reset.cache[k].entry0.valid = false ∧ State.reset.cache[k].entry1.valid = false ∧
    State.reset.cache[k].lru = false) ∧
  ∀ s : State, s.input.reset = true ∨ s.iop.sysctl.eff.getLsbD 0 = true → stepGives s fun t =>
    t = { State.reset with mem := s.takeInput.mem, flagPins := s.input.flagPins, env := s.env.tail, steps := s.steps + 1 }

/-- The machine right after reset meets the invariant of every step. -/
def Obligations.ResetInv : Prop := Inv State.reset

/-- EVERY STEP KEEPS THE INVARIANT, from any state that has it: memory in its canonical form, the loop stacks at most six
and the status stack at most fifteen deep, one or two slots of a delayed branch to go, every register settled, and the
read-only interrupt bits as they are. -/
def Obligations.StepKeepsInv : Prop := ∀ s t : State, Inv s → step s = .next t → Inv t

/-- ROM NEVER CHANGES: in no run, of any length and with any input, does a byte outside RAM change (20_memory.md R157;
that a store to ROM has no effect is the spec's own decision D2, log 42). That no DMA input changes one is the model's
choice (log 35). -/
def Obligations.RomNeverChanges : Prop :=
  ∀ s t : State, Runs s t → ∀ b : Nat, cellRam (b / 2) = false → readByte t.mem b = readByte s.mem b

/-- MEMORY CHANGES ONLY WHERE AN INSTRUCTION STORES, for every instruction: a byte outside the accesses of its stores, at
the addresses its meaning computes and in SIMD mode those of the complements, reads as before, as does every byte after
an instruction that is no store. -/
def Obligations.MemoryFrame : Prop :=
  ∀ (i : Instr) (s t : State), exec i s = .next t → ∀ b : Nat, (∀ x ∈ stores s i, ¬ storesByte s x b) →
    readByte t.mem b = readByte s.mem b

/-- TAKING AN INTERRUPT: it is taken exactly when no delayed branch is pending, the step before was no entry, IRPTEN is
set, and it is the least of those latched and unmasked that NESTM lets in: with none in service any, else under NESTM
those over all in service. The step then pushes the address of the instruction not executed under the interrupt bit,
goes to its vector, clears its latch and sets its mask pointer; the timer and IRQ2-0 push MODE1 and ASTAT, and the bits
MMASK names go from MODE1; a PC stack then at 29 or 30 entries, and a full status stack, raise SOVFI. Nothing else
changes of the data, index, loop and system registers, the memory-mapped core registers, the mask and mask pointer bits
and memory; the latches take the events of the step (60_exceptions.md R744 to R746, R760). That the step after an entry
takes no interrupt is the spec's own decision (D48, log 42). -/
def Obligations.InterruptEntry : Prop :=
  (∀ (s : State) (p : Nat), interruptNow s = some p ↔
    let ready (q : Nat) : Prop := 2 ≤ q ∧ q < 42 ∧ q ≠ 7 ∧ latchOf s.sys.irptl.eff s.sys.lirptl.eff q = true ∧
      maskOf s.sys.imask.eff s.sys.lirptl.eff q = true ∧
      ∀ r < 42, maskpOf s.sys.imaskp.eff s.sys.lirptl.eff r = true → s.mode1 11 = true ∧ q < r
    s.seq.db = none ∧ s.seq.irqHold = false ∧ s.mode1 12 = true ∧ ready p ∧ ∀ q < p, ¬ ready q) ∧
  (∀ (s : State) (p d : Nat), pcHas s d → d < 30 →
    let full : Bool := pushesStatus p && decide (15 ≤ s.seq.sts.length)
    ∃ t, takeInterrupt p s = .next t ∧ pushedPc s t d (1#1 ++ 0#1 ++ s.seq.pc) ∧
      t = { s with
        seq := { s.seq with
          pc := ivtBase s + .ofNat 24 (4 * p)
          idle := false
          irqHold := true
          pcstack := t.seq.pcstack
          pcstkp := t.seq.pcstkp
          sts := if pushesStatus p && !full then
              ⟨s.sys.mode1.val, readSReg s .astatx, readSReg s .astaty⟩ :: s.seq.sts
            else s.seq.sts }
        sys := { s.sys with
          mode1 := if pushesStatus p then s.sys.mode1.hw (s.sys.mode1.val &&& ~~~s.sys.mmask.eff) else s.sys.mode1
          stkyx := if full then s.sys.stkyx.hw (s.sys.stkyx.val ||| 0x00800000) else s.sys.stkyx
          irptl := t.sys.irptl
          imaskp := t.sys.imaskp
          lirptl := t.sys.lirptl }
        scratch := { s.scratch with
          events := s.scratch.events ||| if 29 ≤ d + 1 ∨ full = true then 8 else 0 } } ∧
      ∀ q < 42, q ≠ 7 → 2 ≤ p → p < 42 → p ≠ 7 →
        latchOf t.sys.irptl.val t.sys.lirptl.val q = (latchOf s.sys.irptl.val s.sys.lirptl.val q && q != p) ∧
        maskpOf t.sys.imaskp.val t.sys.lirptl.val q = (maskpOf s.sys.imaskp.val s.sys.lirptl.val q || q == p) ∧
        maskOf t.sys.imask.val t.sys.lirptl.val q = maskOf s.sys.imask.val s.sys.lirptl.val q) ∧
  ∀ (s t : State) (p : Nat), Inv s → s.input.reset = false → s.iop.sysctl.eff.getLsbD 0 = false →
    interruptNow s.takeInput = some p → takeInterrupt p s.takeInput = .next t →
    stepGives s fun w =>
      w.seq = { t.seq with
        oldAstatx := w.seq.oldAstatx
        oldAstaty := w.seq.oldAstaty
        pcstkp := w.seq.pcstkp } ∧ w.seq.pcstkp.val = t.seq.pcstkp.val ∧ w.seq.pcstkp.eff = t.seq.pcstkp.val ∧
      w.pex = s.pex ∧ w.pey = s.pey ∧ w.dag = s.dag ∧ w.dagAlt = s.dagAlt ∧ w.px = s.px ∧ w.tperiod = s.tperiod ∧
      w.mem = s.takeInput.mem ∧ w.iop.eemustat = s.iop.eemustat ∧ w.iop.emun = s.iop.emun ∧
      w.iop.eemuout = s.takeInput.iop.eemuout ∧ w.scratch = Scratch.none ∧
      (∀ q ∈ [(t.sys.mode1, w.sys.mode1), (t.sys.mode2, w.sys.mode2), (t.sys.mmask, w.sys.mmask),
          (t.sys.flags, w.sys.flags), (t.sys.astatx, w.sys.astatx), (t.sys.astaty, w.sys.astaty),
          (t.sys.stkyx, w.sys.stkyx), (t.sys.stkyy, w.sys.stkyy), (t.sys.imask, w.sys.imask),
          (t.sys.imaskp, w.sys.imaskp), (s.iop.sysctl, w.iop.sysctl), (s.iop.brkctl, w.iop.brkctl)],
        q.2.val = q.1.val ∧ q.2.eff = q.1.val ∧ q.2.wr = none) ∧
      (∀ k : Fin 16, w.iop.brk[k].val = s.iop.brk[k].val) ∧
      w.sys.ustat1 = s.sys.ustat1 ∧ w.sys.ustat2 = s.sys.ustat2 ∧ w.sys.ustat3 = s.sys.ustat3 ∧
      w.sys.ustat4 = s.sys.ustat4 ∧ w.sys.lirptl.val &&& 0x3FFFFC00 = t.sys.lirptl.val &&& 0x3FFFFC00 ∧
      latchOf w.sys.irptl.val w.sys.lirptl.val p = false

/-- THE LATCHES AND THEIR SOURCES. At the end of every step, be it an instruction, an idle step or an interrupt entry, the
latch of an interrupt holds what it held, or was written, or its event, but is held at 0 while the interrupt is in service
(60_exceptions.md R740, R741). The events are those the instruction or the entry asked for, and: FIXI, FLTOI, FLTUI and
FLTII by the sticky bits of either element at the start of the step (R770); IRQ2I, IRQ1I and IRQ0I by a low pin, or with
MODE2.IRQxE by a pin that fell (R778); SPERRI and P0I to P18I by the inputs (R788, R790). Of the timer and of BKPI nothing is
said here. The order of the update, that the sticky bits are levels and the other conditions events are the spec's own
choices (D43 to D45; log 42), and that a mask pointer written the step before holds already is the model's (log 43).
What asks for the rest, in the forms with one transfer, types 3, 4, 6a, 10a, 14, 15 and 16: a post-modify through I7 or I15
that wraps sets its sticky bit and asks for CB7I or CB15I (R772; of type 1 so in DualMoves); an access of IOP space under
IIRAE and a forced long word at an odd address under U64MAE set theirs and ask for IICDI, where the explicit transfer is
performed (R773; 40_group1_compute_move.md R353). The stack events are stated with the stack instructions, the calls, DO
UNTIL and the interrupt entry (R775). -/
def Obligations.InterruptSources : Prop :=
  (∀ s t : State, beforeEnd s t → stepGives s fun w => ∀ p, 2 ≤ p → p < 42 → p ∉ [4, 6, 7, 32] →
    let sticky (k : Nat) : Bool := s.sys.stkyx.val.getLsbD k || s.sys.stkyy.val.getLsbD k
    let irq (x : Nat) : Bool := !s.input.irq.getLsbD x && (!t.sys.mode2.eff.getLsbD x || s.irqPins.getLsbD x)
    let source : Bool :=
      (p == 5 && s.input.sperri) || (p == 8 && irq 2) || (p == 9 && irq 1) || (p == 10 && irq 0) ||
      (decide (11 ≤ p) && decide (p ≤ 29) && s.input.prog.getLsbD (p - 11)) ||
      (p == 33 && (sticky 2 || sticky 6)) || (p == 34 && (sticky 1 || sticky 7)) || (p == 35 && (sticky 0 || sticky 8)) ||
      (p == 36 && (sticky 5 || sticky 9))
    latchOf w.sys.irptl.val w.sys.lirptl.val p =
      ((latchOf (t.sys.irptl.wr.getD t.sys.irptl.val) (t.sys.lirptl.wr.getD t.sys.lirptl.val) p ||
        t.scratch.events.getLsbD p || source) && !maskpOf t.sys.imaskp.val t.sys.lirptl.val p)) ∧
  ∀ (s : State) (d l : Bool) (u : UReg) (n : RegNum) (post pm : Bool) (i m : DagNum) (cond : Cond) (c : Compute)
    (sh : ShiftImm) (data : Word) (data6 : BitVec 6) (data7 : BitVec 7) (data16 : BitVec 16), c.wellFormed = true →
    ∀ x ∈ uregMoves s d l u post pm i m cond c data data7 ++ dregMoves s d n post pm i m cond c sh data6 ++
        immediateMoves s pm i m data data16, x.completes s cond →
      let a := x.addr.toNat
      let wrapped (r : RegNum) : Bool := x.stepping false fun b k => b == r && wraps s b k
      let iop : Bool := x.made && decide (a < 0x40000) && s.sys.mode2.val.getLsbD 20
      let odd : Bool := x.made && x.lw && x.addr.getLsbD 0 && s.sys.mode2.val.getLsbD 21
      gives x.instr s fun t =>
        (∀ p ∈ ([(17, wrapped 7), (18, wrapped 15), (19, iop), (20, odd)] : List (Nat × Bool)),
          t.sys.stkyx.val.getLsbD p.1 = (s.sys.stkyx.val.getLsbD p.1 || p.2)) ∧
        ∀ p ∈ ([(30, wrapped 7), (31, wrapped 15), (2, iop || odd)] : List (Nat × Bool)),
          t.scratch.events.getLsbD p.1 = (s.scratch.events.getLsbD p.1 || p.2)

/-- THE USER BREAKPOINT UNIT, after each instruction and with BRKCTL.UMODE: an individual breakpoint fires when an
address of its kind lies in its range, or with its NEG bit outside it, and a data access is of a kind its MODE names; a
range that starts after its end never fires; an instruction that was aborted fires none, of its data access neither. The
groups that are enabled are ORed, or with ANDBKP all must fire, and the I/O group never does. On an event EMUN, as the
instruction left it, counts down (log 24); at 0 every individual breakpoint that fired sets its status bit of EEMUSTAT
and BKPI is latched where it is not in service, by the mask pointers that act from the next step on, which is the
model's choice (log 43). Without UMODE nothing happens (60_exceptions.md R786; 10_state.md R83, R84, R86). The ranges
are those of the address registers in force, which all act one instruction late by the model's choice (log 24;
EndOfStep). The transfer of types 3, 4, 6a, 10a, 14, 15 and 16 is seen under its explicit address and its bus, where it
is made, a broadcast load also for the second element alone (log 24; the two of type 1 so in DualMoves); that of type
10a belongs to an instruction whose condition failed and so was aborted (Jumps). -/
def Obligations.BreakpointUnit : Prop :=
  (∀ s t : State, running s → runInstr s.takeInput = .next t → stepGives s fun w =>
    let y := t.iop
    let ctl := y.brkctl.eff
    let inside (k : Fin 15) (neg : Nat) (a : Word) : Prop :=
      let lo := y.brk[k.val].eff.toNat
      let hi := y.brk[k.val + 1].eff.toNat
      lo ≤ hi ∧ if ctl.getLsbD neg then a.toNat < lo ∨ hi < a.toNat else lo ≤ a.toNat ∧ a.toNat ≤ hi
    let data (pm : Bool) (k : Fin 15) (mode neg : Nat) : Prop := t.scratch.aborted = false ∧
      ∃ a ∈ t.scratch.accesses, a.pm = pm ∧ ctl.getLsbD (if a.write then mode else mode + 1) = true ∧ inside k neg a.addr
    let code (k : Fin 15) (neg : Nat) : Prop := t.scratch.aborted = false ∧ inside k neg (s.seq.pc.setWidth 32)
    let fired (b : Nat) : Prop :=
      match b with
      | 0 => data true 14 0 10
      | 1 => data false 10 2 11
      | 2 => data false 12 4 12
      | 3 => code 0 13
      | 4 => code 2 14
      | 5 => code 4 15
      | 6 => code 6 16
      | _ => False
    let pa : Prop := fired 0
    let da : Prop := fired 1 ∨ fired 2
    let ia : Prop := fired 3 ∨ fired 4 ∨ fired 5 ∨ fired 6
    let on (k : Nat) : Prop := ctl.getLsbD k = true
    let event : Prop := on 25 ∧
      if ctl.getLsbD 24 then
        (on 19 ∨ on 20 ∨ on 21) ∧ (on 19 → pa) ∧ (on 20 → da) ∧ (on 21 → ia) ∧ ¬ on 26 ∧ ¬ on 27
      else (on 19 ∧ pa) ∨ (on 20 ∧ da) ∨ (on 21 ∧ ia)
    let latched : Prop :=
      latchOf (t.sys.irptl.wr.getD t.sys.irptl.val) (t.sys.lirptl.wr.getD t.sys.lirptl.val) 6 = true ∨
        t.scratch.events.getLsbD 6 = true
    let free : Prop := maskpOf t.sys.imaskp.val t.sys.lirptl.val 6 = false
    let bkpi : Prop := latchOf w.sys.irptl.val w.sys.lirptl.val 6 = true
    (¬ event → w.iop.eemustat = y.eemustat ∧ w.iop.emun = y.emun ∧ (bkpi ↔ latched ∧ free)) ∧
    (event → y.emun ≠ 0 → w.iop.eemustat = y.eemustat ∧ w.iop.emun = y.emun - 1 ∧ (bkpi ↔ latched ∧ free)) ∧
    (event → y.emun = 0 → w.iop.emun = 0 ∧ (bkpi ↔ free) ∧
      ∀ b, w.iop.eemustat.getLsbD b = true ↔ y.eemustat.getLsbD b = true ∨ fired b)) ∧
  ∀ (s : State) (d l : Bool) (u : UReg) (n : RegNum) (post pm : Bool) (i m : DagNum) (cond : Cond) (c : Compute)
    (sh : ShiftImm) (data : Word) (data6 : BitVec 6) (data7 : BitVec 7) (data16 : BitVec 16), c.wellFormed = true →
    ∀ x ∈ uregMoves s d l u post pm i m cond c data data7 ++ dregMoves s d n post pm i m cond c sh data6 ++
        immediateMoves s pm i m data data16, x.completes s cond →
      gives x.instr s fun t =>
        t.scratch.accesses = s.scratch.accesses ++ if x.seen s then [⟨x.pm, x.write, x.addr⟩] else []

/-- The core timer, in every step, be it an instruction, an idle step or an interrupt entry: with TIMEN in force it
counts down by one a tick and reloads from TPERIOD after 0, for the ticks of the step, and reaching 0 in any of them
makes the output TMREXP high in this step and latches its high and its low priority interrupt where they are not in
service; a step that writes TCOUNT leaves what was written and asks for neither (60_exceptions.md R795). That a step has
one tick or more, as its input says, is the reading of D47 (log 42); that a TPERIOD which the step wrote is the one
reloaded is the model's choice (log 48), and so is that 'in service' goes by the mask pointers that act from the next
step on (log 43). The idle state: an idle core waits where it is until an interrupt is to be taken (43_group4_misc.md
R500; R748). -/
def Obligations.IdleAndTimer : Prop :=
  (∀ s t : State, beforeEnd s t → stepGives s fun w =>
    let counts : Prop := t.sys.mode2.eff.getLsbD 5 = true ∧ t.scratch.tcountSet = false
    let after (k : Nat) : Word := (fun c : Word => if c = 0 then t.tperiod else c - 1)^[k] t.tcount
    let event : Prop := counts ∧ ∃ k, 1 ≤ k ∧ k ≤ s.input.moreTicks + 1 ∧ after k = 0
    w.tperiod = t.tperiod ∧ (¬ counts → w.tcount = t.tcount) ∧ (counts → w.tcount = after (s.input.moreTicks + 1)) ∧
      (w.tmrexp = true ↔ event) ∧
      ∀ p ∈ [4, 32], (latchOf w.sys.irptl.val w.sys.lirptl.val p = true ↔
        maskpOf t.sys.imaskp.val t.sys.lirptl.val p = false ∧
          (latchOf (t.sys.irptl.wr.getD t.sys.irptl.val) (t.sys.lirptl.wr.getD t.sys.lirptl.val) p = true ∨
            t.scratch.events.getLsbD p = true ∨ event))) ∧
  ∀ s : State, s.input.reset = false → s.iop.sysctl.eff.getLsbD 0 = false → interruptNow s.takeInput = none →
    s.seq.idle = true → s.scratch = Scratch.none →
    stepGives s fun t =>
      t.seq.idle = true ∧ t.seq.pc = s.seq.pc ∧ t.seq.db = s.seq.db ∧ t.pex = s.pex ∧ t.pey = s.pey ∧ t.dag = s.dag ∧
        t.dagAlt = s.dagAlt ∧ t.mem = s.takeInput.mem ∧ t.seq.pcstack = s.seq.pcstack ∧ t.seq.sts = s.seq.sts ∧
        t.seq.ld = s.seq.ld ∧ t.sys.mode1.val = s.sys.mode1.wr.getD s.sys.mode1.val

/-- THE STEPS OF A LOOP. Before an instruction among the last four of a counter loop whose test has not been made, the
loop test decrements CURLCNTR, or where it is 1 pops the loop stacks and the PC stack, after which the enclosing loop is
tested; once made it is not made again, and outside these four there is none (R431, R432). Before the instruction two
from the end of an arithmetic loop of three or more, or at the end of a shorter one, its condition is tested, in SIMD
mode in both elements; where it holds the stacks are popped and three more instructions of the body follow (R433). After
the instruction at the end address control goes back to the top, for a counter loop when its test was made; on the way
out it goes back in a short loop, and after the third instruction behind the loop, whatever the stacks then hold; other
instructions go on. The instruction may be any that completes; where it branches, EndOfStep says where it goes, and the
rest holds of it too. The conditions of an arithmetic loop are those of instructions, but a multiplier flag is seen one
instruction late (R433; log 29). Before which instructions the tests, decrements and pops fall is the spec's own
decision, the behaviour of a pipeline without stalls (D21, log 42), and so is that in a short loop the count goes down
or the stacks pop before each pass, which the source does not settle (R432; log 42). That only instructions of the body
count on the way out is the model's reading (log 36), as is that a counter loop's test comes first (log 47), and that
nested loops which R434 puts outside the modelled domain run by the same rules (log 20). -/
def Obligations.LoopSteps : Prop :=
  (∀ (s : State) (d more : Nat), 0 < s.seq.ld → s.seq.ld ≤ 6 → loopLost s = false → pcHas s d → 0 < d →
    let n := s.seq.pc
    let e := s.loopEnd
    let top : Addr24 := (pcEntryAt s d).extractLsb' 0 24
    let unit : Nat := if isVisa n then 3 else 1
    let near : Prop := n.toNat ∈ [e.toNat, e.toNat - unit, e.toNat - 2 * unit, e.toNat - 3 * unit]
    let tests (u : State) : Prop := Res.bind (loopTest (more + 1) s) arithTest = .next u
    let popped : State := s.setSeq { s.seq with ld := s.seq.ld - 1, pcstkp := s.seq.pcstkp.now (.ofNat 5 (d - 1)) }
    let expired : State := popped.setScratch { s.scratch with loopEnded := true }
    let inBody : Prop := ∃ x ∈ s.seq.exiting, x.top.toNat ≤ n.toNat ∧ n.toNat ≤ x.last.toNat
    3 * unit ≤ e.toNat →
    (s.loopTerm = .lce →
      (near → s.loopTested = false → s.curlcntr ≠ 1 → tests ((s.setCurlcntr (s.curlcntr - 1)).setTested true)) ∧
      (near → s.loopTested = false → s.curlcntr = 1 → (s.seq.ld = 1 ∨ inWindow n popped.loopEnd = false) →
        tests expired) ∧
      (near → s.loopTested = false → s.curlcntr = 1 → ∀ u, Res.bind (loopTest more expired) arithTest = .next u →
        tests u) ∧
      (¬ near ∨ s.loopTested = true → tests s)) ∧
    (s.loopTerm ≠ .lce → top.toNat ≤ e.toNat → isVisa top = isVisa n → isVisa e = isVisa n →
      let point : Prop := n.toNat = if top.toNat + 2 * unit ≤ e.toNat then e.toNat - 2 * unit else e.toNat
      let holds : Prop := termHolds s .x s.loopTerm = true ∧ (s.simd = true → termHolds s .y s.loopTerm = true)
      (point → holds → ¬ inBody → tests (popped.setSeq { popped.seq with exiting := some ⟨top, e, 3⟩ })) ∧
      (¬ point ∨ ¬ holds ∨ inBody → tests s))) ∧
  (∀ (s u t : State) (i : Instr) (len : Nat), executesFrom s i len u t → branchFits s t → canLoopBack t s.seq.pc →
    let n := s.seq.pc
    stepGives s fun w =>
      (s.seq.db = none → t.scratch.br = none → flowsTo t n (n + .ofNat 24 len) w.seq.pc) ∧
      (∀ x, leaves t n x → w.seq.exiting = (if x.left ≤ 1 then none else some { x with left := x.left - 1 }) ∧
        w.seq.tested = t.seq.tested) ∧
      ((∀ x, ¬ leaves t n x) → w.seq.exiting = t.seq.exiting ∧
        (loopsBack t n → ∀ k : Fin 6, w.seq.tested[k] = (t.seq.tested[k] && k.val + 1 != t.seq.ld)) ∧
        (¬ loopsBack t n → w.seq.tested = t.seq.tested)) ∧
      w.seq.ld = t.seq.ld ∧ w.seq.loopaddr = t.seq.loopaddr ∧ w.seq.loopcnt = t.seq.loopcnt ∧
      w.seq.pcstack = t.seq.pcstack ∧ w.seq.pcstkp.val = t.seq.pcstkp.wr.getD t.seq.pcstkp.val) ∧
  ∀ (s : State) (e : Elem) (k : Test),
    let old : Word := if e = .x then s.seq.oldAstatx else s.seq.oldAstaty
    (k ≠ .mv → k ≠ .ms → termHolds s e (.is k) = condHolds s e false (.is k) ∧
      termHolds s e (.isNot k) = condHolds s e false (.isNot k)) ∧
    termHolds s e (.is .mv) = old.getLsbD 7 ∧ termHolds s e (.isNot .mv) = !old.getLsbD 7 ∧
    termHolds s e (.is .ms) = old.getLsbD 6 ∧ termHolds s e (.isNot .ms) = !old.getLsbD 6 ∧
    termHolds s e .forever = false

/-- A COUNTER LOOP RUNS ITS COUNT: with a NOP as its one-instruction body and count `n`, after `n` steps control is behind the
loop, the loop stacks and the PC stack are empty again, and the body has done what a NOP does `n` times, nothing; with the
environment quiet, interrupts off, and the body not modified code (R431, R432). -/
def Obligations.CounterLoopRuns : Prop :=
  ∀ (s : State) (n : Nat), Inv s → s.env = [] → s.seq.idle = false → s.seq.db = none → s.seq.exiting = none →
    s.sys.mode1.val.getLsbD 12 = false → s.sys.mode1.eff.getLsbD 12 = false →
    s.iop.sysctl.val.getLsbD 0 = false → s.iop.sysctl.eff.getLsbD 0 = false → loopLost s = false →
    pcHas s 1 → (pcEntryAt s 1).extractLsb' 0 24 = s.seq.pc → isVisa s.seq.pc = false →
    s.seq.ld = 1 → s.loopTerm = .lce → s.loopEnd = s.seq.pc → s.loopTested = false →
    s.curlcntr.toNat = n → 0 < n → fetch s.mem s.seq.pc = .next (.nop21a, 1) → modifiedAt s.stale s.seq.pc 1 = false →
    ∃ t, Host.Core.run core n s = .next t ∧ t.seq.pc = s.seq.pc + 1 ∧ t.seq.ld = 0 ∧ pcHas t 0 ∧ t.pex = s.pex ∧
      t.pey = s.pey ∧ t.dag = s.dag ∧ t.mem = s.mem

/-- Where instructions stop, as the spec leaves these cases undefined: a dual add/subtract with one result register, a
load of a register of the DAG that makes its address, a push with a pop, an access of IOP space by type 1 or with (LW),
a type 14 access of a data register where the address map has no cells, a DO UNTIL whose end lies before its start, an
encoding that is not assigned, a branch in a delay slot, but for a delayed one in the first, modified code, and a PM
data access directly after FLUSH CACHE or a change of the cache mode (48_multifunction.md R704; 20_memory.md R157, R190,
R195, R220 to R222; 43_group4_misc.md R490; 30_encoding.md R283; 41_group2_program_flow.md R406, R430). That there is no
memory from 0x200000 up is the model's choice of a part without external memory (log 32). What counts as modified code,
and that a PM form directly after a change of the cache is refused whether or not its access is performed, is the
model's choice (log 46). -/
def Obligations.Stops : Prop :=
  ∀ s : State,
    (∀ (r m x y : RegNum) (a b c d : BitVec 2),
      ∀ i ∈ [Instr.dualAddSub r r x y, .fDualAddSub r r x y, .mulDual r m r a b c d, .fMulDual r m r a b c d],
        exec i s = .refused .dualSameResult) ∧
    (∀ (post pm lw : Bool) (i m : DagNum) (u : UReg) (data : Word), sameDag pm u = true →
      ∀ x ∈ [Instr.memUreg3a post i m .always pm false lw u .none, .memUreg3b post i m .always pm false lw u,
        .memOffset15a pm i false lw u data, .memOffset15b i false lw pm u (data.setWidth 7)],
        exec x s = .refused .sameDagLoad) ∧
    (∀ lpu lpo spu spo ppu ppo fc : Bool, (lpu || spu || ppu) = true → (lpo || spo || ppo) = true →
      exec (.stackOps20a lpu lpo spu spo ppu ppo fc) s = .refused .pushWithPop) ∧
    (∀ (g d : Bool) (n : RegNum) (a : Word), a.toNat < 0x40000 →
      exec (.memDirect14a g d true (.r n) a) s = .refused .iopAccessForm) ∧
    (∀ (dmd pmd : Bool) (dmi dmm pmi pmm : DagNum) (dn pn : RegNum) (c : Compute),
      let da := postAddr s (dagReg false dmi)
      let pa := postAddr s (dagReg true pmi)
      let reached (a : Word) : Prop := a.toNat < 0x40000 ∨ (normalWord s a ∧ (s.simd = true → normalWord s (a + 1)))
      c.wellFormed = true → reached da → reached pa → da.toNat < 0x40000 ∨ pa.toNat < 0x40000 →
      ∀ i ∈ [Instr.dualMove1a dmd dmi dmm pmd dn pmi pmm pn c, .dualMove1b dmd dmi dmm pmd dn pmi pmm pn],
        exec i s = .refused .iopAccessForm) ∧
    (∀ (g d l : Bool) (n : RegNum) (a : Word),
      (0x40000 ≤ a.toNat ∧ a.toNat < 0x80000 ∧ mappedSpan (4 * a.toNat) 4 = false) ∨
        (0x80000 ≤ a.toNat ∧ a.toNat < 0x100000 ∧ mappedSpan (2 * a.toNat) 2 = false ∧
          (l = true ∨ imdw s (2 * a.toNat) = false)) ∨
        (0x100000 ≤ a.toNat ∧ a.toNat < 0x200000 ∧ cellMapped a.toNat = false ∧ l = false) →
      exec (.memDirect14a g d l (.r n) a) s = .fault (.unmappedData a)) ∧
    (∀ (g d l : Bool) (n : RegNum) (a : Word), 0x200000 ≤ a.toNat →
      exec (.memDirect14a g d l (.r n) a) s = .fault (.unmappedData a)) ∧
    (∀ (term : Term) (data : BitVec 16) (u : UReg) (v rel), readUReg s u = .next v →
      (s.seq.pc + rel).toNat < (s.seq.pc + lengthAt s.seq.pc 3).toNat →
      ∀ i ∈ [Instr.doUntil13a term rel, .doImm12a data rel, .doUreg12a u rel],
        exec i s = .refused .loopEndBeforeStart) ∧
    (∀ w : BitVec 48, w.extractLsb' 45 3 = 0 → w.extractLsb' 40 5 ∈ [3#5, 5#5, 0x15#5, 0x1A#5, 0x1B#5, 0x1C#5, 0x1D#5, 0x1E#5, 0x1F#5] →
      decode48 w = none) ∧
    (∀ i len u t d, executesFrom s i len u t → s.seq.db = some d →
      t.scratch.br ≠ none ∨ (t.scratch.dbReq ≠ none ∧ d.count = 1) → step s = .refused .branchInDelaySlot) ∧
    (∀ i len u, running s → Res.bind (loopTest 7 s.takeInput) arithTest = .next u →
      fetch s.takeInput.mem s.seq.pc = .next (i, len) → modifiedAt s.takeInput.stale s.seq.pc len = true → step s = .refused (.modifiedCode s.seq.pc)) ∧
    ∀ i len u, running s → Res.bind (loopTest 7 s.takeInput) arithTest = .next u →
      fetch s.takeInput.mem s.seq.pc = .next (i, len) → modifiedAt s.takeInput.stale s.seq.pc len = false → s.cacheHold = true → usesPm i = true →
      step s = .refused .pmAccessAfterCacheChange
end

