-- ==== Sys2Proof/Laws/State.lean ====
section
/-! SUPPORT. What each update of the state does to each part of it, for `simp`. -/

namespace Sys2Proof.Machine

variable (s : State)

/-! ## `setSys` -/

@[simp] theorem State.setSys_pex (x : SysRegs) : (s.setSys x).pex = s.pex := rfl
@[simp] theorem State.setSys_pey (x : SysRegs) : (s.setSys x).pey = s.pey := rfl
@[simp] theorem State.setSys_dag (x : SysRegs) : (s.setSys x).dag = s.dag := rfl
@[simp] theorem State.setSys_dagAlt (x : SysRegs) : (s.setSys x).dagAlt = s.dagAlt := rfl
@[simp] theorem State.setSys_px (x : SysRegs) : (s.setSys x).px = s.px := rfl
@[simp] theorem State.setSys_seq (x : SysRegs) : (s.setSys x).seq = s.seq := rfl
@[simp] theorem State.setSys_sys (x : SysRegs) : (s.setSys x).sys = x := rfl
@[simp] theorem State.setSys_tperiod (x : SysRegs) : (s.setSys x).tperiod = s.tperiod := rfl
@[simp] theorem State.setSys_tcount (x : SysRegs) : (s.setSys x).tcount = s.tcount := rfl
@[simp] theorem State.setSys_emuclk (x : SysRegs) : (s.setSys x).emuclk = s.emuclk := rfl
@[simp] theorem State.setSys_emuclk2 (x : SysRegs) : (s.setSys x).emuclk2 = s.emuclk2 := rfl
@[simp] theorem State.setSys_iop (x : SysRegs) : (s.setSys x).iop = s.iop := rfl
@[simp] theorem State.setSys_mem (x : SysRegs) : (s.setSys x).mem = s.mem := rfl
@[simp] theorem State.setSys_cache (x : SysRegs) : (s.setSys x).cache = s.cache := rfl
@[simp] theorem State.setSys_pmBefore (x : SysRegs) : (s.setSys x).pmBefore = s.pmBefore := rfl
@[simp] theorem State.setSys_flushing (x : SysRegs) : (s.setSys x).flushing = s.flushing := rfl
@[simp] theorem State.setSys_cacheHold (x : SysRegs) : (s.setSys x).cacheHold = s.cacheHold := rfl
@[simp] theorem State.setSys_iab (x : SysRegs) : (s.setSys x).iab = s.iab := rfl
@[simp] theorem State.setSys_stale (x : SysRegs) : (s.setSys x).stale = s.stale := rfl
@[simp] theorem State.setSys_platform (x : SysRegs) : (s.setSys x).platform = s.platform := rfl
@[simp] theorem State.setSys_irqPins (x : SysRegs) : (s.setSys x).irqPins = s.irqPins := rfl
@[simp] theorem State.setSys_flagPins (x : SysRegs) : (s.setSys x).flagPins = s.flagPins := rfl
@[simp] theorem State.setSys_tmrexp (x : SysRegs) : (s.setSys x).tmrexp = s.tmrexp := rfl
@[simp] theorem State.setSys_env (x : SysRegs) : (s.setSys x).env = s.env := rfl
@[simp] theorem State.setSys_steps (x : SysRegs) : (s.setSys x).steps = s.steps := rfl
@[simp] theorem State.setSys_scratch (x : SysRegs) : (s.setSys x).scratch = s.scratch := rfl

/-! ## `setSeq` -/

@[simp] theorem State.setSeq_pex (x : Sequencer) : (s.setSeq x).pex = s.pex := rfl
@[simp] theorem State.setSeq_pey (x : Sequencer) : (s.setSeq x).pey = s.pey := rfl
@[simp] theorem State.setSeq_dag (x : Sequencer) : (s.setSeq x).dag = s.dag := rfl
@[simp] theorem State.setSeq_dagAlt (x : Sequencer) : (s.setSeq x).dagAlt = s.dagAlt := rfl
@[simp] theorem State.setSeq_px (x : Sequencer) : (s.setSeq x).px = s.px := rfl
@[simp] theorem State.setSeq_seq (x : Sequencer) : (s.setSeq x).seq = x := rfl
@[simp] theorem State.setSeq_sys (x : Sequencer) : (s.setSeq x).sys = s.sys := rfl
@[simp] theorem State.setSeq_tperiod (x : Sequencer) : (s.setSeq x).tperiod = s.tperiod := rfl
@[simp] theorem State.setSeq_tcount (x : Sequencer) : (s.setSeq x).tcount = s.tcount := rfl
@[simp] theorem State.setSeq_emuclk (x : Sequencer) : (s.setSeq x).emuclk = s.emuclk := rfl
@[simp] theorem State.setSeq_emuclk2 (x : Sequencer) : (s.setSeq x).emuclk2 = s.emuclk2 := rfl
@[simp] theorem State.setSeq_iop (x : Sequencer) : (s.setSeq x).iop = s.iop := rfl
@[simp] theorem State.setSeq_mem (x : Sequencer) : (s.setSeq x).mem = s.mem := rfl
@[simp] theorem State.setSeq_cache (x : Sequencer) : (s.setSeq x).cache = s.cache := rfl
@[simp] theorem State.setSeq_pmBefore (x : Sequencer) : (s.setSeq x).pmBefore = s.pmBefore := rfl
@[simp] theorem State.setSeq_flushing (x : Sequencer) : (s.setSeq x).flushing = s.flushing := rfl
@[simp] theorem State.setSeq_cacheHold (x : Sequencer) : (s.setSeq x).cacheHold = s.cacheHold := rfl
@[simp] theorem State.setSeq_iab (x : Sequencer) : (s.setSeq x).iab = s.iab := rfl
@[simp] theorem State.setSeq_stale (x : Sequencer) : (s.setSeq x).stale = s.stale := rfl
@[simp] theorem State.setSeq_platform (x : Sequencer) : (s.setSeq x).platform = s.platform := rfl
@[simp] theorem State.setSeq_irqPins (x : Sequencer) : (s.setSeq x).irqPins = s.irqPins := rfl
@[simp] theorem State.setSeq_flagPins (x : Sequencer) : (s.setSeq x).flagPins = s.flagPins := rfl
@[simp] theorem State.setSeq_tmrexp (x : Sequencer) : (s.setSeq x).tmrexp = s.tmrexp := rfl
@[simp] theorem State.setSeq_env (x : Sequencer) : (s.setSeq x).env = s.env := rfl
@[simp] theorem State.setSeq_steps (x : Sequencer) : (s.setSeq x).steps = s.steps := rfl
@[simp] theorem State.setSeq_scratch (x : Sequencer) : (s.setSeq x).scratch = s.scratch := rfl

/-! ## `setIop` -/

@[simp] theorem State.setIop_pex (x : CoreIop) : (s.setIop x).pex = s.pex := rfl
@[simp] theorem State.setIop_pey (x : CoreIop) : (s.setIop x).pey = s.pey := rfl
@[simp] theorem State.setIop_dag (x : CoreIop) : (s.setIop x).dag = s.dag := rfl
@[simp] theorem State.setIop_dagAlt (x : CoreIop) : (s.setIop x).dagAlt = s.dagAlt := rfl
@[simp] theorem State.setIop_px (x : CoreIop) : (s.setIop x).px = s.px := rfl
@[simp] theorem State.setIop_seq (x : CoreIop) : (s.setIop x).seq = s.seq := rfl
@[simp] theorem State.setIop_sys (x : CoreIop) : (s.setIop x).sys = s.sys := rfl
@[simp] theorem State.setIop_tperiod (x : CoreIop) : (s.setIop x).tperiod = s.tperiod := rfl
@[simp] theorem State.setIop_tcount (x : CoreIop) : (s.setIop x).tcount = s.tcount := rfl
@[simp] theorem State.setIop_emuclk (x : CoreIop) : (s.setIop x).emuclk = s.emuclk := rfl
@[simp] theorem State.setIop_emuclk2 (x : CoreIop) : (s.setIop x).emuclk2 = s.emuclk2 := rfl
@[simp] theorem State.setIop_iop (x : CoreIop) : (s.setIop x).iop = x := rfl
@[simp] theorem State.setIop_mem (x : CoreIop) : (s.setIop x).mem = s.mem := rfl
@[simp] theorem State.setIop_cache (x : CoreIop) : (s.setIop x).cache = s.cache := rfl
@[simp] theorem State.setIop_pmBefore (x : CoreIop) : (s.setIop x).pmBefore = s.pmBefore := rfl
@[simp] theorem State.setIop_flushing (x : CoreIop) : (s.setIop x).flushing = s.flushing := rfl
@[simp] theorem State.setIop_cacheHold (x : CoreIop) : (s.setIop x).cacheHold = s.cacheHold := rfl
@[simp] theorem State.setIop_iab (x : CoreIop) : (s.setIop x).iab = s.iab := rfl
@[simp] theorem State.setIop_stale (x : CoreIop) : (s.setIop x).stale = s.stale := rfl
@[simp] theorem State.setIop_platform (x : CoreIop) : (s.setIop x).platform = s.platform := rfl
@[simp] theorem State.setIop_irqPins (x : CoreIop) : (s.setIop x).irqPins = s.irqPins := rfl
@[simp] theorem State.setIop_flagPins (x : CoreIop) : (s.setIop x).flagPins = s.flagPins := rfl
@[simp] theorem State.setIop_tmrexp (x : CoreIop) : (s.setIop x).tmrexp = s.tmrexp := rfl
@[simp] theorem State.setIop_env (x : CoreIop) : (s.setIop x).env = s.env := rfl
@[simp] theorem State.setIop_steps (x : CoreIop) : (s.setIop x).steps = s.steps := rfl
@[simp] theorem State.setIop_scratch (x : CoreIop) : (s.setIop x).scratch = s.scratch := rfl

/-! ## `setScratch` -/

@[simp] theorem State.setScratch_pex (x : Scratch) : (s.setScratch x).pex = s.pex := rfl
@[simp] theorem State.setScratch_pey (x : Scratch) : (s.setScratch x).pey = s.pey := rfl
@[simp] theorem State.setScratch_dag (x : Scratch) : (s.setScratch x).dag = s.dag := rfl
@[simp] theorem State.setScratch_dagAlt (x : Scratch) : (s.setScratch x).dagAlt = s.dagAlt := rfl
@[simp] theorem State.setScratch_px (x : Scratch) : (s.setScratch x).px = s.px := rfl
@[simp] theorem State.setScratch_seq (x : Scratch) : (s.setScratch x).seq = s.seq := rfl
@[simp] theorem State.setScratch_sys (x : Scratch) : (s.setScratch x).sys = s.sys := rfl
@[simp] theorem State.setScratch_tperiod (x : Scratch) : (s.setScratch x).tperiod = s.tperiod := rfl
@[simp] theorem State.setScratch_tcount (x : Scratch) : (s.setScratch x).tcount = s.tcount := rfl
@[simp] theorem State.setScratch_emuclk (x : Scratch) : (s.setScratch x).emuclk = s.emuclk := rfl
@[simp] theorem State.setScratch_emuclk2 (x : Scratch) : (s.setScratch x).emuclk2 = s.emuclk2 := rfl
@[simp] theorem State.setScratch_iop (x : Scratch) : (s.setScratch x).iop = s.iop := rfl
@[simp] theorem State.setScratch_mem (x : Scratch) : (s.setScratch x).mem = s.mem := rfl
@[simp] theorem State.setScratch_cache (x : Scratch) : (s.setScratch x).cache = s.cache := rfl
@[simp] theorem State.setScratch_pmBefore (x : Scratch) : (s.setScratch x).pmBefore = s.pmBefore := rfl
@[simp] theorem State.setScratch_flushing (x : Scratch) : (s.setScratch x).flushing = s.flushing := rfl
@[simp] theorem State.setScratch_cacheHold (x : Scratch) : (s.setScratch x).cacheHold = s.cacheHold := rfl
@[simp] theorem State.setScratch_iab (x : Scratch) : (s.setScratch x).iab = s.iab := rfl
@[simp] theorem State.setScratch_stale (x : Scratch) : (s.setScratch x).stale = s.stale := rfl
@[simp] theorem State.setScratch_platform (x : Scratch) : (s.setScratch x).platform = s.platform := rfl
@[simp] theorem State.setScratch_irqPins (x : Scratch) : (s.setScratch x).irqPins = s.irqPins := rfl
@[simp] theorem State.setScratch_flagPins (x : Scratch) : (s.setScratch x).flagPins = s.flagPins := rfl
@[simp] theorem State.setScratch_tmrexp (x : Scratch) : (s.setScratch x).tmrexp = s.tmrexp := rfl
@[simp] theorem State.setScratch_env (x : Scratch) : (s.setScratch x).env = s.env := rfl
@[simp] theorem State.setScratch_steps (x : Scratch) : (s.setScratch x).steps = s.steps := rfl
@[simp] theorem State.setScratch_scratch (x : Scratch) : (s.setScratch x).scratch = x := rfl

/-! ## `setMem` -/

@[simp] theorem State.setMem_pex (x : List Host.Cell) : (s.setMem x).pex = s.pex := rfl
@[simp] theorem State.setMem_pey (x : List Host.Cell) : (s.setMem x).pey = s.pey := rfl
@[simp] theorem State.setMem_dag (x : List Host.Cell) : (s.setMem x).dag = s.dag := rfl
@[simp] theorem State.setMem_dagAlt (x : List Host.Cell) : (s.setMem x).dagAlt = s.dagAlt := rfl
@[simp] theorem State.setMem_px (x : List Host.Cell) : (s.setMem x).px = s.px := rfl
@[simp] theorem State.setMem_seq (x : List Host.Cell) : (s.setMem x).seq = s.seq := rfl
@[simp] theorem State.setMem_sys (x : List Host.Cell) : (s.setMem x).sys = s.sys := rfl
@[simp] theorem State.setMem_tperiod (x : List Host.Cell) : (s.setMem x).tperiod = s.tperiod := rfl
@[simp] theorem State.setMem_tcount (x : List Host.Cell) : (s.setMem x).tcount = s.tcount := rfl
@[simp] theorem State.setMem_emuclk (x : List Host.Cell) : (s.setMem x).emuclk = s.emuclk := rfl
@[simp] theorem State.setMem_emuclk2 (x : List Host.Cell) : (s.setMem x).emuclk2 = s.emuclk2 := rfl
@[simp] theorem State.setMem_iop (x : List Host.Cell) : (s.setMem x).iop = s.iop := rfl
@[simp] theorem State.setMem_mem (x : List Host.Cell) : (s.setMem x).mem = x := rfl
@[simp] theorem State.setMem_cache (x : List Host.Cell) : (s.setMem x).cache = s.cache := rfl
@[simp] theorem State.setMem_pmBefore (x : List Host.Cell) : (s.setMem x).pmBefore = s.pmBefore := rfl
@[simp] theorem State.setMem_flushing (x : List Host.Cell) : (s.setMem x).flushing = s.flushing := rfl
@[simp] theorem State.setMem_cacheHold (x : List Host.Cell) : (s.setMem x).cacheHold = s.cacheHold := rfl
@[simp] theorem State.setMem_iab (x : List Host.Cell) : (s.setMem x).iab = s.iab := rfl
@[simp] theorem State.setMem_stale (x : List Host.Cell) : (s.setMem x).stale = s.stale := rfl
@[simp] theorem State.setMem_platform (x : List Host.Cell) : (s.setMem x).platform = s.platform := rfl
@[simp] theorem State.setMem_irqPins (x : List Host.Cell) : (s.setMem x).irqPins = s.irqPins := rfl
@[simp] theorem State.setMem_flagPins (x : List Host.Cell) : (s.setMem x).flagPins = s.flagPins := rfl
@[simp] theorem State.setMem_tmrexp (x : List Host.Cell) : (s.setMem x).tmrexp = s.tmrexp := rfl
@[simp] theorem State.setMem_env (x : List Host.Cell) : (s.setMem x).env = s.env := rfl
@[simp] theorem State.setMem_steps (x : List Host.Cell) : (s.setMem x).steps = s.steps := rfl
@[simp] theorem State.setMem_scratch (x : List Host.Cell) : (s.setMem x).scratch = s.scratch := rfl

/-! ## `setPx` -/

@[simp] theorem State.setPx_pex (x : Long) : (s.setPx x).pex = s.pex := rfl
@[simp] theorem State.setPx_pey (x : Long) : (s.setPx x).pey = s.pey := rfl
@[simp] theorem State.setPx_dag (x : Long) : (s.setPx x).dag = s.dag := rfl
@[simp] theorem State.setPx_dagAlt (x : Long) : (s.setPx x).dagAlt = s.dagAlt := rfl
@[simp] theorem State.setPx_px (x : Long) : (s.setPx x).px = x := rfl
@[simp] theorem State.setPx_seq (x : Long) : (s.setPx x).seq = s.seq := rfl
@[simp] theorem State.setPx_sys (x : Long) : (s.setPx x).sys = s.sys := rfl
@[simp] theorem State.setPx_tperiod (x : Long) : (s.setPx x).tperiod = s.tperiod := rfl
@[simp] theorem State.setPx_tcount (x : Long) : (s.setPx x).tcount = s.tcount := rfl
@[simp] theorem State.setPx_emuclk (x : Long) : (s.setPx x).emuclk = s.emuclk := rfl
@[simp] theorem State.setPx_emuclk2 (x : Long) : (s.setPx x).emuclk2 = s.emuclk2 := rfl
@[simp] theorem State.setPx_iop (x : Long) : (s.setPx x).iop = s.iop := rfl
@[simp] theorem State.setPx_mem (x : Long) : (s.setPx x).mem = s.mem := rfl
@[simp] theorem State.setPx_cache (x : Long) : (s.setPx x).cache = s.cache := rfl
@[simp] theorem State.setPx_pmBefore (x : Long) : (s.setPx x).pmBefore = s.pmBefore := rfl
@[simp] theorem State.setPx_flushing (x : Long) : (s.setPx x).flushing = s.flushing := rfl
@[simp] theorem State.setPx_cacheHold (x : Long) : (s.setPx x).cacheHold = s.cacheHold := rfl
@[simp] theorem State.setPx_iab (x : Long) : (s.setPx x).iab = s.iab := rfl
@[simp] theorem State.setPx_stale (x : Long) : (s.setPx x).stale = s.stale := rfl
@[simp] theorem State.setPx_platform (x : Long) : (s.setPx x).platform = s.platform := rfl
@[simp] theorem State.setPx_irqPins (x : Long) : (s.setPx x).irqPins = s.irqPins := rfl
@[simp] theorem State.setPx_flagPins (x : Long) : (s.setPx x).flagPins = s.flagPins := rfl
@[simp] theorem State.setPx_tmrexp (x : Long) : (s.setPx x).tmrexp = s.tmrexp := rfl
@[simp] theorem State.setPx_env (x : Long) : (s.setPx x).env = s.env := rfl
@[simp] theorem State.setPx_steps (x : Long) : (s.setPx x).steps = s.steps := rfl
@[simp] theorem State.setPx_scratch (x : Long) : (s.setPx x).scratch = s.scratch := rfl

/-! ## Views of the state that an update of another part leaves -/

@[simp] theorem State.setSys_pe (x : SysRegs) (e : Elem) : (s.setSys x).pe e = s.pe e := by cases e <;> rfl

@[simp] theorem State.setSeq_mode1 (x : Sequencer) (b : Nat) : (s.setSeq x).mode1 b = s.mode1 b := rfl
@[simp] theorem State.setSeq_simd (x : Sequencer) : (s.setSeq x).simd = s.simd := rfl
@[simp] theorem State.setSeq_astat (x : Sequencer) (e : Elem) : (s.setSeq x).astat e = s.astat e := by cases e <;> rfl
@[simp] theorem State.setSeq_stky (x : Sequencer) (e : Elem) : (s.setSeq x).stky e = s.stky e := by cases e <;> rfl
@[simp] theorem State.setSeq_reg (x : Sequencer) (e : Elem) (n : RegNum) : (s.setSeq x).reg e n = s.reg e n := by cases e <;> rfl
@[simp] theorem State.setSeq_mr (x : Sequencer) (e : Elem) (bg : Bool) : (s.setSeq x).mr e bg = s.mr e bg := by cases e <;> rfl
@[simp] theorem State.setSeq_ireg (x : Sequencer) (n : RegNum) : (s.setSeq x).ireg n = s.ireg n := rfl
@[simp] theorem State.setSeq_mreg (x : Sequencer) (n : RegNum) : (s.setSeq x).mreg n = s.mreg n := rfl
@[simp] theorem State.setSeq_lreg (x : Sequencer) (n : RegNum) : (s.setSeq x).lreg n = s.lreg n := rfl
@[simp] theorem State.setSeq_breg (x : Sequencer) (n : RegNum) : (s.setSeq x).breg n = s.breg n := rfl
@[simp] theorem State.setSeq_pe (x : Sequencer) (e : Elem) : (s.setSeq x).pe e = s.pe e := by cases e <;> rfl

@[simp] theorem State.setIop_mode1 (x : CoreIop) (b : Nat) : (s.setIop x).mode1 b = s.mode1 b := rfl
@[simp] theorem State.setIop_simd (x : CoreIop) : (s.setIop x).simd = s.simd := rfl
@[simp] theorem State.setIop_astat (x : CoreIop) (e : Elem) : (s.setIop x).astat e = s.astat e := by cases e <;> rfl
@[simp] theorem State.setIop_stky (x : CoreIop) (e : Elem) : (s.setIop x).stky e = s.stky e := by cases e <;> rfl
@[simp] theorem State.setIop_reg (x : CoreIop) (e : Elem) (n : RegNum) : (s.setIop x).reg e n = s.reg e n := by cases e <;> rfl
@[simp] theorem State.setIop_mr (x : CoreIop) (e : Elem) (bg : Bool) : (s.setIop x).mr e bg = s.mr e bg := by cases e <;> rfl
@[simp] theorem State.setIop_ireg (x : CoreIop) (n : RegNum) : (s.setIop x).ireg n = s.ireg n := rfl
@[simp] theorem State.setIop_mreg (x : CoreIop) (n : RegNum) : (s.setIop x).mreg n = s.mreg n := rfl
@[simp] theorem State.setIop_lreg (x : CoreIop) (n : RegNum) : (s.setIop x).lreg n = s.lreg n := rfl
@[simp] theorem State.setIop_breg (x : CoreIop) (n : RegNum) : (s.setIop x).breg n = s.breg n := rfl
@[simp] theorem State.setIop_pe (x : CoreIop) (e : Elem) : (s.setIop x).pe e = s.pe e := by cases e <;> rfl

@[simp] theorem State.setScratch_mode1 (x : Scratch) (b : Nat) : (s.setScratch x).mode1 b = s.mode1 b := rfl
@[simp] theorem State.setScratch_simd (x : Scratch) : (s.setScratch x).simd = s.simd := rfl
@[simp] theorem State.setScratch_astat (x : Scratch) (e : Elem) : (s.setScratch x).astat e = s.astat e := by cases e <;> rfl
@[simp] theorem State.setScratch_stky (x : Scratch) (e : Elem) : (s.setScratch x).stky e = s.stky e := by cases e <;> rfl
@[simp] theorem State.setScratch_reg (x : Scratch) (e : Elem) (n : RegNum) : (s.setScratch x).reg e n = s.reg e n := by cases e <;> rfl
@[simp] theorem State.setScratch_mr (x : Scratch) (e : Elem) (bg : Bool) : (s.setScratch x).mr e bg = s.mr e bg := by cases e <;> rfl
@[simp] theorem State.setScratch_ireg (x : Scratch) (n : RegNum) : (s.setScratch x).ireg n = s.ireg n := rfl
@[simp] theorem State.setScratch_mreg (x : Scratch) (n : RegNum) : (s.setScratch x).mreg n = s.mreg n := rfl
@[simp] theorem State.setScratch_lreg (x : Scratch) (n : RegNum) : (s.setScratch x).lreg n = s.lreg n := rfl
@[simp] theorem State.setScratch_breg (x : Scratch) (n : RegNum) : (s.setScratch x).breg n = s.breg n := rfl
@[simp] theorem State.setScratch_pe (x : Scratch) (e : Elem) : (s.setScratch x).pe e = s.pe e := by cases e <;> rfl

@[simp] theorem State.setMem_mode1 (x : List Host.Cell) (b : Nat) : (s.setMem x).mode1 b = s.mode1 b := rfl
@[simp] theorem State.setMem_simd (x : List Host.Cell) : (s.setMem x).simd = s.simd := rfl
@[simp] theorem State.setMem_astat (x : List Host.Cell) (e : Elem) : (s.setMem x).astat e = s.astat e := by cases e <;> rfl
@[simp] theorem State.setMem_stky (x : List Host.Cell) (e : Elem) : (s.setMem x).stky e = s.stky e := by cases e <;> rfl
@[simp] theorem State.setMem_reg (x : List Host.Cell) (e : Elem) (n : RegNum) : (s.setMem x).reg e n = s.reg e n := by cases e <;> rfl
@[simp] theorem State.setMem_mr (x : List Host.Cell) (e : Elem) (bg : Bool) : (s.setMem x).mr e bg = s.mr e bg := by cases e <;> rfl
@[simp] theorem State.setMem_ireg (x : List Host.Cell) (n : RegNum) : (s.setMem x).ireg n = s.ireg n := rfl
@[simp] theorem State.setMem_mreg (x : List Host.Cell) (n : RegNum) : (s.setMem x).mreg n = s.mreg n := rfl
@[simp] theorem State.setMem_lreg (x : List Host.Cell) (n : RegNum) : (s.setMem x).lreg n = s.lreg n := rfl
@[simp] theorem State.setMem_breg (x : List Host.Cell) (n : RegNum) : (s.setMem x).breg n = s.breg n := rfl
@[simp] theorem State.setMem_pe (x : List Host.Cell) (e : Elem) : (s.setMem x).pe e = s.pe e := by cases e <;> rfl

@[simp] theorem State.setPx_mode1 (x : Long) (b : Nat) : (s.setPx x).mode1 b = s.mode1 b := rfl
@[simp] theorem State.setPx_simd (x : Long) : (s.setPx x).simd = s.simd := rfl
@[simp] theorem State.setPx_astat (x : Long) (e : Elem) : (s.setPx x).astat e = s.astat e := by cases e <;> rfl
@[simp] theorem State.setPx_stky (x : Long) (e : Elem) : (s.setPx x).stky e = s.stky e := by cases e <;> rfl
@[simp] theorem State.setPx_reg (x : Long) (e : Elem) (n : RegNum) : (s.setPx x).reg e n = s.reg e n := by cases e <;> rfl
@[simp] theorem State.setPx_mr (x : Long) (e : Elem) (bg : Bool) : (s.setPx x).mr e bg = s.mr e bg := by cases e <;> rfl
@[simp] theorem State.setPx_ireg (x : Long) (n : RegNum) : (s.setPx x).ireg n = s.ireg n := rfl
@[simp] theorem State.setPx_mreg (x : Long) (n : RegNum) : (s.setPx x).mreg n = s.mreg n := rfl
@[simp] theorem State.setPx_lreg (x : Long) (n : RegNum) : (s.setPx x).lreg n = s.lreg n := rfl
@[simp] theorem State.setPx_breg (x : Long) (n : RegNum) : (s.setPx x).breg n = s.breg n := rfl
@[simp] theorem State.setPx_pe (x : Long) (e : Elem) : (s.setPx x).pe e = s.pe e := by cases e <;> rfl

/-! ## Processing elements -/

@[simp] theorem State.setPe_dag (e : Elem) (p : Pe) : (s.setPe e p).dag = s.dag := by cases e <;> rfl
@[simp] theorem State.setPe_dagAlt (e : Elem) (p : Pe) : (s.setPe e p).dagAlt = s.dagAlt := by cases e <;> rfl
@[simp] theorem State.setPe_px (e : Elem) (p : Pe) : (s.setPe e p).px = s.px := by cases e <;> rfl
@[simp] theorem State.setPe_seq (e : Elem) (p : Pe) : (s.setPe e p).seq = s.seq := by cases e <;> rfl
@[simp] theorem State.setPe_sys (e : Elem) (p : Pe) : (s.setPe e p).sys = s.sys := by cases e <;> rfl
@[simp] theorem State.setPe_tperiod (e : Elem) (p : Pe) : (s.setPe e p).tperiod = s.tperiod := by cases e <;> rfl
@[simp] theorem State.setPe_tcount (e : Elem) (p : Pe) : (s.setPe e p).tcount = s.tcount := by cases e <;> rfl
@[simp] theorem State.setPe_emuclk (e : Elem) (p : Pe) : (s.setPe e p).emuclk = s.emuclk := by cases e <;> rfl
@[simp] theorem State.setPe_emuclk2 (e : Elem) (p : Pe) : (s.setPe e p).emuclk2 = s.emuclk2 := by cases e <;> rfl
@[simp] theorem State.setPe_iop (e : Elem) (p : Pe) : (s.setPe e p).iop = s.iop := by cases e <;> rfl
@[simp] theorem State.setPe_mem (e : Elem) (p : Pe) : (s.setPe e p).mem = s.mem := by cases e <;> rfl
@[simp] theorem State.setPe_cache (e : Elem) (p : Pe) : (s.setPe e p).cache = s.cache := by cases e <;> rfl
@[simp] theorem State.setPe_pmBefore (e : Elem) (p : Pe) : (s.setPe e p).pmBefore = s.pmBefore := by cases e <;> rfl
@[simp] theorem State.setPe_flushing (e : Elem) (p : Pe) : (s.setPe e p).flushing = s.flushing := by cases e <;> rfl
@[simp] theorem State.setPe_cacheHold (e : Elem) (p : Pe) : (s.setPe e p).cacheHold = s.cacheHold := by cases e <;> rfl
@[simp] theorem State.setPe_iab (e : Elem) (p : Pe) : (s.setPe e p).iab = s.iab := by cases e <;> rfl
@[simp] theorem State.setPe_stale (e : Elem) (p : Pe) : (s.setPe e p).stale = s.stale := by cases e <;> rfl
@[simp] theorem State.setPe_platform (e : Elem) (p : Pe) : (s.setPe e p).platform = s.platform := by cases e <;> rfl
@[simp] theorem State.setPe_irqPins (e : Elem) (p : Pe) : (s.setPe e p).irqPins = s.irqPins := by cases e <;> rfl
@[simp] theorem State.setPe_flagPins (e : Elem) (p : Pe) : (s.setPe e p).flagPins = s.flagPins := by cases e <;> rfl
@[simp] theorem State.setPe_tmrexp (e : Elem) (p : Pe) : (s.setPe e p).tmrexp = s.tmrexp := by cases e <;> rfl
@[simp] theorem State.setPe_env (e : Elem) (p : Pe) : (s.setPe e p).env = s.env := by cases e <;> rfl
@[simp] theorem State.setPe_steps (e : Elem) (p : Pe) : (s.setPe e p).steps = s.steps := by cases e <;> rfl
@[simp] theorem State.setPe_scratch (e : Elem) (p : Pe) : (s.setPe e p).scratch = s.scratch := by cases e <;> rfl
@[simp] theorem State.setPe_pe (e : Elem) (p : Pe) : (s.setPe e p).pe e = p := by cases e <;> rfl
theorem State.setPe_pe_ne {e e' : Elem} (h : e' ≠ e) (p : Pe) : (s.setPe e p).pe e' = s.pe e' := by
  cases e <;> cases e' <;> first | rfl | exact absurd rfl h
@[simp] theorem State.setPe_setPe (e : Elem) (p q : Pe) : (s.setPe e p).setPe e q = s.setPe e q := by cases e <;> rfl
@[simp] theorem State.setPe_mode1 (e : Elem) (p : Pe) (b : Nat) : (s.setPe e p).mode1 b = s.mode1 b := by cases e <;> rfl
@[simp] theorem State.setPe_simd (e : Elem) (p : Pe) : (s.setPe e p).simd = s.simd := by cases e <;> rfl
@[simp] theorem State.setPe_altReg (e : Elem) (p : Pe) (n : RegNum) : (s.setPe e p).altReg n = s.altReg n := by
  cases e <;> rfl
@[simp] theorem State.setPe_astat (e e' : Elem) (p : Pe) : (s.setPe e p).astat e' = s.astat e' := by
  cases e <;> cases e' <;> rfl
@[simp] theorem State.setPe_stky (e e' : Elem) (p : Pe) : (s.setPe e p).stky e' = s.stky e' := by
  cases e <;> cases e' <;> rfl

/-! ## Data registers -/

@[simp] theorem State.setReg_dag (e : Elem) (n : RegNum) (v : Ext) : (s.setReg e n v).dag = s.dag := by
  unfold State.setReg; dsimp only; split <;> simp
@[simp] theorem State.setReg_dagAlt (e : Elem) (n : RegNum) (v : Ext) : (s.setReg e n v).dagAlt = s.dagAlt := by
  unfold State.setReg; dsimp only; split <;> simp
@[simp] theorem State.setReg_px (e : Elem) (n : RegNum) (v : Ext) : (s.setReg e n v).px = s.px := by
  unfold State.setReg; dsimp only; split <;> simp
@[simp] theorem State.setReg_seq (e : Elem) (n : RegNum) (v : Ext) : (s.setReg e n v).seq = s.seq := by
  unfold State.setReg; dsimp only; split <;> simp
@[simp] theorem State.setReg_sys (e : Elem) (n : RegNum) (v : Ext) : (s.setReg e n v).sys = s.sys := by
  unfold State.setReg; dsimp only; split <;> simp
@[simp] theorem State.setReg_tperiod (e : Elem) (n : RegNum) (v : Ext) : (s.setReg e n v).tperiod = s.tperiod := by
  unfold State.setReg; dsimp only; split <;> simp
@[simp] theorem State.setReg_tcount (e : Elem) (n : RegNum) (v : Ext) : (s.setReg e n v).tcount = s.tcount := by
  unfold State.setReg; dsimp only; split <;> simp
@[simp] theorem State.setReg_emuclk (e : Elem) (n : RegNum) (v : Ext) : (s.setReg e n v).emuclk = s.emuclk := by
  unfold State.setReg; dsimp only; split <;> simp
@[simp] theorem State.setReg_emuclk2 (e : Elem) (n : RegNum) (v : Ext) : (s.setReg e n v).emuclk2 = s.emuclk2 := by
  unfold State.setReg; dsimp only; split <;> simp
@[simp] theorem State.setReg_iop (e : Elem) (n : RegNum) (v : Ext) : (s.setReg e n v).iop = s.iop := by
  unfold State.setReg; dsimp only; split <;> simp
@[simp] theorem State.setReg_mem (e : Elem) (n : RegNum) (v : Ext) : (s.setReg e n v).mem = s.mem := by
  unfold State.setReg; dsimp only; split <;> simp
@[simp] theorem State.setReg_cache (e : Elem) (n : RegNum) (v : Ext) : (s.setReg e n v).cache = s.cache := by
  unfold State.setReg; dsimp only; split <;> simp
@[simp] theorem State.setReg_pmBefore (e : Elem) (n : RegNum) (v : Ext) : (s.setReg e n v).pmBefore = s.pmBefore := by
  unfold State.setReg; dsimp only; split <;> simp
@[simp] theorem State.setReg_flushing (e : Elem) (n : RegNum) (v : Ext) : (s.setReg e n v).flushing = s.flushing := by
  unfold State.setReg; dsimp only; split <;> simp
@[simp] theorem State.setReg_cacheHold (e : Elem) (n : RegNum) (v : Ext) : (s.setReg e n v).cacheHold = s.cacheHold := by
  unfold State.setReg; dsimp only; split <;> simp
@[simp] theorem State.setReg_iab (e : Elem) (n : RegNum) (v : Ext) : (s.setReg e n v).iab = s.iab := by
  unfold State.setReg; dsimp only; split <;> simp
@[simp] theorem State.setReg_stale (e : Elem) (n : RegNum) (v : Ext) : (s.setReg e n v).stale = s.stale := by
  unfold State.setReg; dsimp only; split <;> simp
@[simp] theorem State.setReg_platform (e : Elem) (n : RegNum) (v : Ext) : (s.setReg e n v).platform = s.platform := by
  unfold State.setReg; dsimp only; split <;> simp
@[simp] theorem State.setReg_irqPins (e : Elem) (n : RegNum) (v : Ext) : (s.setReg e n v).irqPins = s.irqPins := by
  unfold State.setReg; dsimp only; split <;> simp
@[simp] theorem State.setReg_flagPins (e : Elem) (n : RegNum) (v : Ext) : (s.setReg e n v).flagPins = s.flagPins := by
  unfold State.setReg; dsimp only; split <;> simp
@[simp] theorem State.setReg_tmrexp (e : Elem) (n : RegNum) (v : Ext) : (s.setReg e n v).tmrexp = s.tmrexp := by
  unfold State.setReg; dsimp only; split <;> simp
@[simp] theorem State.setReg_env (e : Elem) (n : RegNum) (v : Ext) : (s.setReg e n v).env = s.env := by
  unfold State.setReg; dsimp only; split <;> simp
@[simp] theorem State.setReg_steps (e : Elem) (n : RegNum) (v : Ext) : (s.setReg e n v).steps = s.steps := by
  unfold State.setReg; dsimp only; split <;> simp
@[simp] theorem State.setReg_scratch (e : Elem) (n : RegNum) (v : Ext) : (s.setReg e n v).scratch = s.scratch := by
  unfold State.setReg; dsimp only; split <;> simp
@[simp] theorem State.setReg_mode1 (e : Elem) (n : RegNum) (v : Ext) (b : Nat) :
    (s.setReg e n v).mode1 b = s.mode1 b := by unfold State.setReg; dsimp only; split <;> simp
@[simp] theorem State.setReg_simd (e : Elem) (n : RegNum) (v : Ext) : (s.setReg e n v).simd = s.simd := by
  unfold State.setReg; dsimp only; split <;> simp
@[simp] theorem State.setReg_altReg (e : Elem) (n : RegNum) (v : Ext) (m : RegNum) :
    (s.setReg e n v).altReg m = s.altReg m := by unfold State.setReg; dsimp only; split <;> simp
@[simp] theorem State.setReg_astat (e e' : Elem) (n : RegNum) (v : Ext) : (s.setReg e n v).astat e' = s.astat e' := by
  unfold State.setReg; dsimp only; split <;> simp
@[simp] theorem State.setReg_stky (e e' : Elem) (n : RegNum) (v : Ext) : (s.setReg e n v).stky e' = s.stky e' := by
  unfold State.setReg; dsimp only; split <;> simp

theorem State.setReg_pe_ne {e e' : Elem} (h : e' ≠ e) (n : RegNum) (v : Ext) : (s.setReg e n v).pe e' = s.pe e' := by
  unfold State.setReg; dsimp only; split <;> simp [State.setPe_pe_ne _ h]

theorem RegNum.lt (n : RegNum) : n.toNat < 16 := n.isLt

/-- A write to a data register is read back. -/
@[simp] theorem State.setReg_reg (e : Elem) (n : RegNum) (v : Ext) : (s.setReg e n v).reg e n = v := by
  unfold State.reg
  rw [State.setReg_altReg]
  unfold State.setReg
  by_cases h : s.altReg n = true <;> simp [h]

/-- A write to a data register leaves the others. -/
theorem State.setReg_reg_ne {e e' : Elem} {n m : RegNum} (h : ¬ (e' = e ∧ m = n)) (v : Ext) :
    (s.setReg e n v).reg e' m = s.reg e' m := by
  unfold State.reg
  rw [State.setReg_altReg]
  by_cases he : e' = e
  · subst he
    have hn : n.toNat ≠ m.toNat := fun c => h ⟨rfl, (BitVec.eq_of_toNat_eq c).symm⟩
    unfold State.setReg
    by_cases ha : s.altReg n = true <;> simp [ha, Vector.getElem_set_ne, hn]
  · rw [State.setReg_pe_ne _ he]

@[simp] theorem State.setReg_mr (e e' : Elem) (n : RegNum) (v : Ext) (bg : Bool) :
    (s.setReg e n v).mr e' bg = s.mr e' bg := by
  unfold State.mr State.setReg
  dsimp only
  by_cases h : e' = e
  · subst h; split <;> simp
  · split <;> simp [State.setPe_pe_ne _ h]

@[simp] theorem State.setReg_bff (e e' : Elem) (n : RegNum) (v : Ext) :
    ((s.setReg e n v).pe e').bff = (s.pe e').bff := by
  unfold State.setReg
  dsimp only
  by_cases h : e' = e
  · subst h; split <;> simp
  · split <;> simp [State.setPe_pe_ne _ h]

@[simp] theorem State.setReg_bffwrp (e e' : Elem) (n : RegNum) (v : Ext) :
    ((s.setReg e n v).pe e').bffwrp = (s.pe e').bffwrp := by
  unfold State.setReg
  dsimp only
  by_cases h : e' = e
  · subst h; split <;> simp
  · split <;> simp [State.setPe_pe_ne _ h]

/-! ## Result registers -/

@[simp] theorem State.setMr_sys (e : Elem) (bg : Bool) (v : Acc) : (s.setMr e bg v).sys = s.sys := by
  unfold State.setMr; split <;> simp
@[simp] theorem State.setMr_mem (e : Elem) (bg : Bool) (v : Acc) : (s.setMr e bg v).mem = s.mem := by
  unfold State.setMr; split <;> simp
@[simp] theorem State.setMr_seq (e : Elem) (bg : Bool) (v : Acc) : (s.setMr e bg v).seq = s.seq := by
  unfold State.setMr; split <;> simp
@[simp] theorem State.setMr_mode1 (e : Elem) (bg : Bool) (v : Acc) (b : Nat) :
    (s.setMr e bg v).mode1 b = s.mode1 b := by unfold State.setMr; split <;> simp

/-- A write to a result register is read back. -/
@[simp] theorem State.setMr_mr (e : Elem) (bg : Bool) (v : Acc) : (s.setMr e bg v).mr e bg = v := by
  unfold State.mr
  rw [State.setMr_mode1]
  unfold State.setMr
  split <;> simp

/-! ## Index registers -/

theorem RegNum.set_get {w : Nat} (x : Vector (BitVec w) 16) (n : RegNum) (v : BitVec w) :
    (x.set n.toNat v n.isLt)[n.toNat]'n.isLt = v := by simp

/-! ## Latencies -/

@[simp] theorem Latent.hw_val {w : Nat} (l : Latent w) (v : BitVec w) : (l.hw v).val = v := rfl
@[simp] theorem Latent.hw_eff {w : Nat} (l : Latent w) (v : BitVec w) : (l.hw v).eff = l.eff := rfl
@[simp] theorem Latent.hw_wr {w : Nat} (l : Latent w) (v : BitVec w) : (l.hw v).wr = l.wr := rfl
@[simp] theorem Latent.write_val {w : Nat} (l : Latent w) (v : BitVec w) : (l.write v).val = l.val := rfl
@[simp] theorem Latent.write_eff {w : Nat} (l : Latent w) (v : BitVec w) : (l.write v).eff = l.eff := rfl
@[simp] theorem Latent.write_wr {w : Nat} (l : Latent w) (v : BitVec w) : (l.write v).wr = some v := rfl
@[simp] theorem Latent.now_val {w : Nat} (l : Latent w) (v : BitVec w) : (l.now v).val = v := rfl
@[simp] theorem Latent.now_eff {w : Nat} (l : Latent w) (v : BitVec w) : (l.now v).eff = v := rfl
@[simp] theorem Latent.now_wr {w : Nat} (l : Latent w) (v : BitVec w) : (l.now v).wr = l.wr := rfl
@[simp] theorem Latent.commit_eff {w : Nat} (l : Latent w) : l.commit.eff = l.val := rfl
@[simp] theorem Latent.commit_wr {w : Nat} (l : Latent w) : l.commit.wr = none := rfl
@[simp] theorem Latent.commit_val {w : Nat} (l : Latent w) : l.commit.val = l.wr.getD l.val := rfl

/-! ## Flags -/

@[simp] theorem State.setAstat_pex (e : Elem) (v : Word) : (s.setAstat e v).pex = s.pex := by cases e <;> rfl
@[simp] theorem State.stick_pex (e : Elem) (v : Word) : (s.stick e v).pex = s.pex := by cases e <;> rfl
@[simp] theorem State.setAstat_pey (e : Elem) (v : Word) : (s.setAstat e v).pey = s.pey := by cases e <;> rfl
@[simp] theorem State.stick_pey (e : Elem) (v : Word) : (s.stick e v).pey = s.pey := by cases e <;> rfl
@[simp] theorem State.setAstat_dag (e : Elem) (v : Word) : (s.setAstat e v).dag = s.dag := by cases e <;> rfl
@[simp] theorem State.stick_dag (e : Elem) (v : Word) : (s.stick e v).dag = s.dag := by cases e <;> rfl
@[simp] theorem State.setAstat_dagAlt (e : Elem) (v : Word) : (s.setAstat e v).dagAlt = s.dagAlt := by cases e <;> rfl
@[simp] theorem State.stick_dagAlt (e : Elem) (v : Word) : (s.stick e v).dagAlt = s.dagAlt := by cases e <;> rfl
@[simp] theorem State.setAstat_px (e : Elem) (v : Word) : (s.setAstat e v).px = s.px := by cases e <;> rfl
@[simp] theorem State.stick_px (e : Elem) (v : Word) : (s.stick e v).px = s.px := by cases e <;> rfl
@[simp] theorem State.setAstat_seq (e : Elem) (v : Word) : (s.setAstat e v).seq = s.seq := by cases e <;> rfl
@[simp] theorem State.stick_seq (e : Elem) (v : Word) : (s.stick e v).seq = s.seq := by cases e <;> rfl
@[simp] theorem State.setAstat_tperiod (e : Elem) (v : Word) : (s.setAstat e v).tperiod = s.tperiod := by cases e <;> rfl
@[simp] theorem State.stick_tperiod (e : Elem) (v : Word) : (s.stick e v).tperiod = s.tperiod := by cases e <;> rfl
@[simp] theorem State.setAstat_tcount (e : Elem) (v : Word) : (s.setAstat e v).tcount = s.tcount := by cases e <;> rfl
@[simp] theorem State.stick_tcount (e : Elem) (v : Word) : (s.stick e v).tcount = s.tcount := by cases e <;> rfl
@[simp] theorem State.setAstat_emuclk (e : Elem) (v : Word) : (s.setAstat e v).emuclk = s.emuclk := by cases e <;> rfl
@[simp] theorem State.stick_emuclk (e : Elem) (v : Word) : (s.stick e v).emuclk = s.emuclk := by cases e <;> rfl
@[simp] theorem State.setAstat_emuclk2 (e : Elem) (v : Word) : (s.setAstat e v).emuclk2 = s.emuclk2 := by cases e <;> rfl
@[simp] theorem State.stick_emuclk2 (e : Elem) (v : Word) : (s.stick e v).emuclk2 = s.emuclk2 := by cases e <;> rfl
@[simp] theorem State.setAstat_iop (e : Elem) (v : Word) : (s.setAstat e v).iop = s.iop := by cases e <;> rfl
@[simp] theorem State.stick_iop (e : Elem) (v : Word) : (s.stick e v).iop = s.iop := by cases e <;> rfl
@[simp] theorem State.setAstat_mem (e : Elem) (v : Word) : (s.setAstat e v).mem = s.mem := by cases e <;> rfl
@[simp] theorem State.stick_mem (e : Elem) (v : Word) : (s.stick e v).mem = s.mem := by cases e <;> rfl
@[simp] theorem State.setAstat_cache (e : Elem) (v : Word) : (s.setAstat e v).cache = s.cache := by cases e <;> rfl
@[simp] theorem State.stick_cache (e : Elem) (v : Word) : (s.stick e v).cache = s.cache := by cases e <;> rfl
@[simp] theorem State.setAstat_pmBefore (e : Elem) (v : Word) : (s.setAstat e v).pmBefore = s.pmBefore := by cases e <;> rfl
@[simp] theorem State.stick_pmBefore (e : Elem) (v : Word) : (s.stick e v).pmBefore = s.pmBefore := by cases e <;> rfl
@[simp] theorem State.setAstat_flushing (e : Elem) (v : Word) : (s.setAstat e v).flushing = s.flushing := by cases e <;> rfl
@[simp] theorem State.stick_flushing (e : Elem) (v : Word) : (s.stick e v).flushing = s.flushing := by cases e <;> rfl
@[simp] theorem State.setAstat_cacheHold (e : Elem) (v : Word) : (s.setAstat e v).cacheHold = s.cacheHold := by cases e <;> rfl
@[simp] theorem State.stick_cacheHold (e : Elem) (v : Word) : (s.stick e v).cacheHold = s.cacheHold := by cases e <;> rfl
@[simp] theorem State.setAstat_iab (e : Elem) (v : Word) : (s.setAstat e v).iab = s.iab := by cases e <;> rfl
@[simp] theorem State.stick_iab (e : Elem) (v : Word) : (s.stick e v).iab = s.iab := by cases e <;> rfl
@[simp] theorem State.setAstat_stale (e : Elem) (v : Word) : (s.setAstat e v).stale = s.stale := by cases e <;> rfl
@[simp] theorem State.stick_stale (e : Elem) (v : Word) : (s.stick e v).stale = s.stale := by cases e <;> rfl
@[simp] theorem State.setAstat_platform (e : Elem) (v : Word) : (s.setAstat e v).platform = s.platform := by cases e <;> rfl
@[simp] theorem State.stick_platform (e : Elem) (v : Word) : (s.stick e v).platform = s.platform := by cases e <;> rfl
@[simp] theorem State.setAstat_irqPins (e : Elem) (v : Word) : (s.setAstat e v).irqPins = s.irqPins := by cases e <;> rfl
@[simp] theorem State.stick_irqPins (e : Elem) (v : Word) : (s.stick e v).irqPins = s.irqPins := by cases e <;> rfl
@[simp] theorem State.setAstat_flagPins (e : Elem) (v : Word) : (s.setAstat e v).flagPins = s.flagPins := by cases e <;> rfl
@[simp] theorem State.stick_flagPins (e : Elem) (v : Word) : (s.stick e v).flagPins = s.flagPins := by cases e <;> rfl
@[simp] theorem State.setAstat_tmrexp (e : Elem) (v : Word) : (s.setAstat e v).tmrexp = s.tmrexp := by cases e <;> rfl
@[simp] theorem State.stick_tmrexp (e : Elem) (v : Word) : (s.stick e v).tmrexp = s.tmrexp := by cases e <;> rfl
@[simp] theorem State.setAstat_env (e : Elem) (v : Word) : (s.setAstat e v).env = s.env := by cases e <;> rfl
@[simp] theorem State.stick_env (e : Elem) (v : Word) : (s.stick e v).env = s.env := by cases e <;> rfl
@[simp] theorem State.setAstat_steps (e : Elem) (v : Word) : (s.setAstat e v).steps = s.steps := by cases e <;> rfl
@[simp] theorem State.stick_steps (e : Elem) (v : Word) : (s.stick e v).steps = s.steps := by cases e <;> rfl
@[simp] theorem State.setAstat_scratch (e : Elem) (v : Word) : (s.setAstat e v).scratch = s.scratch := by cases e <;> rfl
@[simp] theorem State.stick_scratch (e : Elem) (v : Word) : (s.stick e v).scratch = s.scratch := by cases e <;> rfl
@[simp] theorem State.setAstat_mode1 (e : Elem) (v : Word) (b : Nat) : (s.setAstat e v).mode1 b = s.mode1 b := by
  cases e <;> rfl
@[simp] theorem State.setAstat_simd (e : Elem) (v : Word) : (s.setAstat e v).simd = s.simd := by cases e <;> rfl
@[simp] theorem State.setAstat_pe (e e' : Elem) (v : Word) : (s.setAstat e v).pe e' = s.pe e' := by
  cases e <;> cases e' <;> rfl
@[simp] theorem State.setAstat_altReg (e : Elem) (v : Word) (n : RegNum) : (s.setAstat e v).altReg n = s.altReg n := by
  cases e <;> rfl
@[simp] theorem State.setAstat_reg (e e' : Elem) (v : Word) (n : RegNum) : (s.setAstat e v).reg e' n = s.reg e' n := by
  cases e <;> cases e' <;> rfl
@[simp] theorem State.setAstat_mr (e e' : Elem) (v : Word) (bg : Bool) : (s.setAstat e v).mr e' bg = s.mr e' bg := by
  cases e <;> cases e' <;> rfl
@[simp] theorem State.stick_mode1 (e : Elem) (v : Word) (b : Nat) : (s.stick e v).mode1 b = s.mode1 b := by
  cases e <;> rfl
@[simp] theorem State.stick_simd (e : Elem) (v : Word) : (s.stick e v).simd = s.simd := by cases e <;> rfl
@[simp] theorem State.stick_pe (e e' : Elem) (v : Word) : (s.stick e v).pe e' = s.pe e' := by
  cases e <;> cases e' <;> rfl
@[simp] theorem State.stick_altReg (e : Elem) (v : Word) (n : RegNum) : (s.stick e v).altReg n = s.altReg n := by
  cases e <;> rfl
@[simp] theorem State.stick_reg (e e' : Elem) (v : Word) (n : RegNum) : (s.stick e v).reg e' n = s.reg e' n := by
  cases e <;> cases e' <;> rfl
@[simp] theorem State.stick_mr (e e' : Elem) (v : Word) (bg : Bool) : (s.stick e v).mr e' bg = s.mr e' bg := by
  cases e <;> cases e' <;> rfl
@[simp] theorem State.setAstat_astat (e : Elem) (v : Word) : (s.setAstat e v).astat e = (s.astat e).hw v := by
  cases e <;> rfl
@[simp] theorem State.setAstat_stky (e e' : Elem) (v : Word) : (s.setAstat e v).stky e' = s.stky e' := by
  cases e <;> cases e' <;> rfl
@[simp] theorem State.stick_stky (e : Elem) (v : Word) :
    (s.stick e v).stky e = (s.stky e).hw ((s.stky e).val ||| v) := by cases e <;> rfl
@[simp] theorem State.stick_astat (e e' : Elem) (v : Word) : (s.stick e v).astat e' = s.astat e' := by
  cases e <;> cases e' <;> rfl
theorem State.setAstat_astat_ne {e e' : Elem} (h : e' ≠ e) (v : Word) : (s.setAstat e v).astat e' = s.astat e' := by
  cases e <;> cases e' <;> first | rfl | exact absurd rfl h
theorem State.stick_stky_ne {e e' : Elem} (h : e' ≠ e) (v : Word) : (s.stick e v).stky e' = s.stky e' := by
  cases e <;> cases e' <;> first | rfl | exact absurd rfl h

end Sys2Proof.Machine
end

