-- ==== Sys2Proof/Laws/Flags.lean ====
section
/-! SUPPORT. What the flag operations of `Sys2Proof/Machine/Flags.lean` write, said once; and when a compute completes. -/

namespace Sys2Proof.Machine

open Sys2Proof.Safety

/-! ## Bits -/

theorem mergeBits_getLsbD (old new m : Word) (k : Nat) :
    (mergeBits old new m).getLsbD k = if m.getLsbD k then new.getLsbD k else old.getLsbD k := by
  unfold mergeBits
  simp only [BitVec.getLsbD_or, BitVec.getLsbD_and, BitVec.getLsbD_not]
  by_cases h : k < 32
  · cases m.getLsbD k <;> simp [h]
  · simp [h, BitVec.getLsbD_of_ge m k (by omega), BitVec.getLsbD_of_ge old k (by omega)]

theorem bitIf_getLsbD (b : Bool) {n : Nat} (h : n < 32) (k : Nat) : (bitIf b n).getLsbD k = (b && decide (k = n)) := by
  unfold bitIf
  cases b
  · simp
  · by_cases hk : k = n
    · subst hk; simp [h]
    · by_cases hlt : k < n
      · simp [hk, hlt]
      · simp [hk]
        intro _ _
        omega

theorem AluFlags.word_getLsbD (f : AluFlags) (k : Nat) :
    f.word.getLsbD k = ((f.az && decide (k = 0)) || (f.av && decide (k = 1)) || (f.an && decide (k = 2)) ||
      (f.ac && decide (k = 3)) || (f.as && decide (k = 4)) || (f.ai && decide (k = 5)) || (f.af && decide (k = 10))) := by
  simp only [AluFlags.word, BitVec.getLsbD_or, bitIf_getLsbD _ (by decide : 0 < 32), bitIf_getLsbD _ (by decide : 1 < 32),
    bitIf_getLsbD _ (by decide : 2 < 32), bitIf_getLsbD _ (by decide : 3 < 32), bitIf_getLsbD _ (by decide : 4 < 32),
    bitIf_getLsbD _ (by decide : 5 < 32), bitIf_getLsbD _ (by decide : 10 < 32)]

theorem MulFlags.word_getLsbD (f : MulFlags) (k : Nat) :
    f.word.getLsbD k = ((f.mn && decide (k = 6)) || (f.mv && decide (k = 7)) || (f.mu && decide (k = 8)) ||
      (f.mi && decide (k = 9))) := by
  simp only [MulFlags.word, BitVec.getLsbD_or, bitIf_getLsbD _ (by decide : 6 < 32), bitIf_getLsbD _ (by decide : 7 < 32),
    bitIf_getLsbD _ (by decide : 8 < 32), bitIf_getLsbD _ (by decide : 9 < 32)]

/-! ## The flags written -/

theorem writeAluFlags_astat (e : Elem) (f : AluFlags) (t : State) :
    (writeAluFlags e f t).astat e = (t.astat e).hw (mergeBits (t.astat e).val f.word aluMask) := by
  unfold writeAluFlags
  simp

/-- The seven ALU flags are those of the operation. -/
theorem writeAluFlags_flags (e : Elem) (f : AluFlags) (t : State) :
    aluFlagsAre (writeAluFlags e f t) e f.az f.an f.av f.ac f.as f.ai f.af := by
  simp only [aluFlagsAre, writeAluFlags_astat, Latent.hw_val, mergeBits_getLsbD, AluFlags.word_getLsbD, aluMask]
  simp

/-- The other bits of ASTAT stay. -/
theorem writeAluFlags_others (e : Elem) (f : AluFlags) (t : State) :
    ((writeAluFlags e f t).astat e).val &&& ~~~aluMask = (t.astat e).val &&& ~~~aluMask := by
  rw [writeAluFlags_astat, Latent.hw_val]
  unfold mergeBits
  apply BitVec.eq_of_getLsbD_eq
  intro k hk
  simp only [BitVec.getLsbD_or, BitVec.getLsbD_and, BitVec.getLsbD_not]
  cases aluMask.getLsbD k <;> simp [hk]

/-- The sticky bits of the operation are set, and no other. -/
theorem writeAluFlags_stuck (e : Elem) (f : AluFlags) (t : State) : stuck t (writeAluFlags e f t) e f.sticky := by
  unfold stuck writeAluFlags
  simp

@[simp] theorem writeAluFlags_reg (e e' : Elem) (f : AluFlags) (t : State) (n : RegNum) :
    (writeAluFlags e f t).reg e' n = t.reg e' n := by
  unfold writeAluFlags
  simp

theorem writeMulFlags_astat (e : Elem) (f : MulFlags) (t : State) :
    (writeMulFlags e f t).astat e = (t.astat e).hw (mergeBits (t.astat e).val f.word mulMask) := by
  unfold writeMulFlags
  simp

/-- The four multiplier flags are those of the operation. -/
theorem writeMulFlags_flags (e : Elem) (f : MulFlags) (t : State) :
    mulFlagsAre (writeMulFlags e f t) e f.mn f.mv f.mu f.mi := by
  simp only [mulFlagsAre, writeMulFlags_astat, Latent.hw_val, mergeBits_getLsbD, MulFlags.word_getLsbD, mulMask]
  simp

theorem writeMulFlags_stuck (e : Elem) (f : MulFlags) (t : State) : stuck t (writeMulFlags e f t) e f.sticky := by
  unfold stuck writeMulFlags
  simp

@[simp] theorem writeMulFlags_reg (e e' : Elem) (f : MulFlags) (t : State) (n : RegNum) :
    (writeMulFlags e f t).reg e' n = t.reg e' n := by
  unfold writeMulFlags
  simp

@[simp] theorem writeMulFlags_mr (e e' : Elem) (f : MulFlags) (t : State) (bg : Bool) :
    (writeMulFlags e f t).mr e' bg = t.mr e' bg := by
  unfold writeMulFlags
  simp

/-- SZ, SV and SS are those of the operation, and no sticky bit changes. -/
theorem writeShfFlags_flags (e : Elem) (sz sv ss : Bool) (t : State) :
    shfFlagsAre (writeShfFlags e sz sv ss t) e sz sv ss ∧ stuck t (writeShfFlags e sz sv ss t) e 0 := by
  refine ⟨?_, by unfold stuck writeShfFlags; simp⟩
  simp only [shfFlagsAre, writeShfFlags, State.setAstat_astat, Latent.hw_val, mergeBits_getLsbD, BitVec.getLsbD_or,
    bitIf_getLsbD _ (by decide : 11 < 32), bitIf_getLsbD _ (by decide : 12 < 32), bitIf_getLsbD _ (by decide : 13 < 32),
    shfMask]
  simp

@[simp] theorem writeShfFlags_reg (e e' : Elem) (sz sv ss : Bool) (t : State) (n : RegNum) :
    (writeShfFlags e sz sv ss t).reg e' n = t.reg e' n := by
  unfold writeShfFlags
  simp

/-! ## Computes under gates -/

/-- A well-formed compute completes, whatever its gates. -/
theorem doCompute_wellFormed {c : Compute} (h : c.wellFormed = true) (s : State) (g : Gates) (t : State) :
    doCompute s g c t = .next (onElems s g (fun e => computeElem s e c) t) := by
  unfold doCompute
  rw [if_pos h]

/-- All that a compute under gates can do: it is done where it is well-formed, and does nothing where it is not but no element
executes it (log 40). -/
theorem doCompute_eq_next {s t u : State} {g : Gates} {c : Compute} :
    doCompute s g c t = .next u ↔
      (c.wellFormed = true ∧ u = onElems s g (fun e => computeElem s e c) t) ∨
        (c.wellFormed = false ∧ g.any = false ∧ u = t) := by
  unfold doCompute
  cases c.wellFormed <;> cases g.any <;> simp [eq_comm]

/-- In SISD mode, or with the gate of PEy closed, an operation is done on PEx alone. -/
theorem onElems_x {s : State} {g : Gates} (h : (s.simd && g.cy) = false) (f : Elem → State → State) (t : State) :
    onElems s g f t = if g.cx then f .x t else t := by
  unfold onElems
  simp [h]

/-- Closed gates leave the state. -/
theorem onElems_closed {s : State} {g : Gates} (h : g.any = false) (f : Elem → State → State) (t : State) :
    onElems s g f t = t := by
  unfold Gates.any at h
  rw [Bool.or_eq_false_iff] at h
  unfold onElems
  simp [h.1, h.2]

end Sys2Proof.Machine
end

