-- ==== Sys2Proof/Laws/Ops.lean ====
section
/-! SUPPORT. What each shared operation of `Sys2Proof/Machine/Ops.lean` does, said once: when it answers a next state, and
which. -/

namespace Sys2Proof.Machine

/-! ## Results -/

theorem Res.bind_eq_next {α β : Type} {x : Res α} {f : α → Res β} {b : β} :
    Res.bind x f = .next b ↔ ∃ a, x = .next a ∧ f a = .next b := by
  cases x <;> simp [Res.bind]

theorem Res.map_eq_next {α β : Type} {x : Res α} {f : α → β} {b : β} :
    x.map f = .next b ↔ ∃ a, x = .next a ∧ f a = b := by
  cases x <;> simp [Res.map, Res.bind]

@[simp] theorem Res.bind_next {α β : Type} (a : α) (f : α → Res β) : Res.bind (.next a) f = f a := rfl
@[simp] theorem Res.map_next {α β : Type} (a : α) (f : α → β) : Res.map f (.next a) = .next (f a) := rfl

/-! ## The PC stack -/

/-- The depth is known exactly when the pointer is neither pending nor past the end. -/
theorem pcDepth_eq_next {s : State} {d : Nat} :
    pcDepth s = .next d ↔
      s.seq.pcstkp.val = s.seq.pcstkp.eff ∧ s.seq.pcstkp.val ≠ 31 ∧ d = s.seq.pcstkp.val.toNat := by
  unfold pcDepth
  by_cases h : s.seq.pcstkp.val = s.seq.pcstkp.eff
  · by_cases h2 : s.seq.pcstkp.val = 31 <;> simp_all [eq_comm]
  · simp [h]

/-- A known depth is at most 30. -/
theorem pcDepth_le {s : State} {d : Nat} (h : pcDepth s = .next d) : d ≤ 30 := by
  obtain ⟨-, h2, rfl⟩ := pcDepth_eq_next.mp h
  have : s.seq.pcstkp.val.toNat ≠ 31 := fun h => h2 (BitVec.eq_of_toNat_eq h)
  have := s.seq.pcstkp.val.isLt
  omega

@[simp] theorem State.setDepth_val (s : State) (d : Nat) : (s.setDepth d).seq.pcstkp.val = .ofNat 5 d := rfl
@[simp] theorem State.setDepth_eff (s : State) (d : Nat) : (s.setDepth d).seq.pcstkp.eff = .ofNat 5 d := rfl
@[simp] theorem State.setDepth_wr (s : State) (d : Nat) : (s.setDepth d).seq.pcstkp.wr = s.seq.pcstkp.wr := rfl

/-- Moving the pointer up touches the pointer and the events of the step only. -/
theorem bumpPc_eq (d : Nat) (s : State) :
    bumpPc d s = (s.setDepth (d + 1)).setScratch
      { s.scratch with events := if 29 ≤ d + 1 then s.scratch.events ||| 8 else s.scratch.events } := by
  unfold bumpPc
  dsimp only
  split <;> rfl

/-- A push: the pointer up by one and, where the stack had room, the entry in its cell. -/
theorem pushPc_eq_next {entry : BitVec 26} {s t : State} :
    pushPc entry s = .next t ↔ ∃ d, pcDepth s = .next d ∧
      t = bumpPc d (if h : d < 30 then s.setSeq { s.seq with pcstack := s.seq.pcstack.set d entry } else s) := by
  unfold pushPc
  rw [Res.bind_eq_next]
  refine exists_congr fun d => and_congr_right fun _ => ?_
  split <;> simp [eq_comm]

/-- PUSH PCSTK is a push of an open value. -/
theorem pushPcPointer_eq_next {s t : State} :
    pushPcPointer s = .next t ↔ ∃ entry, pushPc entry s = .next t ∧
      entry = if Config.wideStack then (s.free .pcstack).setWidth 26 else ((s.free .pcstack).setWidth 24).setWidth 26 :=
  ⟨fun h => ⟨_, h, rfl⟩, fun ⟨_, h, e⟩ => by subst e; exact h⟩

/-- A pop: the top entry, and the pointer down by one. -/
theorem popPc_eq_next {s t : State} {e : BitVec 26} :
    popPc s = .next (e, t) ↔ ∃ d, ∃ h : 0 < d ∧ d ≤ 30, pcDepth s = .next d ∧ e = s.seq.pcstack[d - 1] ∧
      t = s.setDepth (d - 1) := by
  unfold popPc
  rw [Res.bind_eq_next]
  constructor
  · rintro ⟨d, h, h2⟩
    split at h2
    · next hd =>
      simp only [Host.Outcome.next.injEq, Prod.mk.injEq] at h2
      exact ⟨d, hd, h, h2.1.symm, h2.2.symm⟩
    · cases h2
  · rintro ⟨d, hd, h, rfl, rfl⟩
    exact ⟨d, h, by rw [dif_pos hd]⟩

/-! ## The loop stacks -/

/-- A push on the loop stacks: one entry more, or where they are full the overflow. -/
theorem pushLoop_eq_next {laddr count : Word} {s t : State} :
    pushLoop laddr count s = .next t ↔ loopLost s = false ∧
      t = if s.seq.ld < 6 then
          (((s.setSeq { s.seq with ld := s.seq.ld + 1 }).setTested false).setLaddr laddr).setCurlcntr count
        else (s.stickX 0x02000000).raise 3 := by
  unfold pushLoop
  by_cases h : loopLost s = true
  · simp [h]
  · simp only [h, Bool.false_eq_true, if_false]
    split <;> simp [eq_comm]

/-- A pop of the loop stacks: they hold an entry and have not overflowed, and the depth goes down by one. -/
theorem popLoop_eq_next {s t : State} :
    popLoop s = .next t ↔ loopLost s = false ∧ s.seq.ld ≠ 0 ∧ t = s.setSeq { s.seq with ld := s.seq.ld - 1 } := by
  unfold popLoop
  by_cases h : loopLost s = true
  · simp [h]
  · by_cases h2 : s.seq.ld = 0 <;> simp [h, h2, eq_comm]

/-! ## The status stack -/

/-- Saving the status touches the status stack and, when it is full, STKYx and the events of the step. -/
theorem saveStatus_eq (s : State) :
    saveStatus s = if s.seq.sts.length < 15 then
      s.setSeq { s.seq with sts :=
        ⟨s.sys.mode1.val, astatView s.sys.astatx.val s.pex, astatView s.sys.astaty.val s.pey⟩ :: s.seq.sts }
      else (s.stickX 0x00800000).raise 3 := rfl

/-- The status stack never grows past fifteen entries. -/
theorem saveStatus_length {s : State} (h : s.seq.sts.length ≤ 15) : (saveStatus s).seq.sts.length ≤ 15 := by
  rw [saveStatus_eq]
  split
  · next hl => simpa using hl
  · exact h

theorem takeStatus_eq_next {s t : State} {e : StatusEntry} :
    takeStatus s = .next (e, t) ↔ s.sys.stkyx.val.getLsbD 23 = false ∧ ∃ rest, s.seq.sts = e :: rest ∧
      t = s.setSeq { s.seq with sts := rest } := by
  unfold takeStatus
  by_cases h : s.sys.stkyx.val.getLsbD 23 = true
  · simp [h]
  · simp only [h, Bool.false_eq_true, if_false]
    cases hs : s.seq.sts <;> simp [eq_comm]

theorem popStatus_eq_next {s t : State} :
    popStatus s = .next t ↔ s.sys.stkyx.val.getLsbD 23 = false ∧ ∃ e rest, s.seq.sts = e :: rest ∧
      t = (s.setSeq { s.seq with sts := rest }).setSys { s.sys with
        astatx := s.sys.astatx.hw e.astatx
        astaty := s.sys.astaty.hw e.astaty
        mode1 := s.sys.mode1.hw e.mode1 } := by
  unfold popStatus
  rw [Res.bind_eq_next]
  constructor
  · rintro ⟨⟨e, u⟩, h, h2⟩
    obtain ⟨h1, rest, hs, rfl⟩ := takeStatus_eq_next.mp h
    exact ⟨h1, e, rest, hs, (Host.Outcome.next.inj h2).symm⟩
  · rintro ⟨h1, e, rest, hs, rfl⟩
    exact ⟨(e, s.setSeq { s.seq with sts := rest }), takeStatus_eq_next.mpr ⟨h1, rest, hs, rfl⟩, rfl⟩

/-! ## Interrupts -/

/-- A latch is set or cleared in IRPTL or LIRPTL. -/
theorem State.setLatch_eq (s : State) (p : Nat) (b : Bool) :
    s.setLatch p b = s.setSys { s.sys with
      irptl := if inLirptl p then s.sys.irptl else s.sys.irptl.hw (putBit s.sys.irptl.val (latchBit p) b)
      lirptl := if inLirptl p then s.sys.lirptl.hw (putBit s.sys.lirptl.val (latchBit p) b) else s.sys.lirptl } := by
  unfold State.setLatch
  split <;> simp

/-- A mask pointer bit is set or cleared in IMASKP or LIRPTL. -/
theorem State.setMaskp_eq (s : State) (p : Nat) (b : Bool) :
    s.setMaskp p b = s.setSys { s.sys with
      imaskp := if inLirptl p then s.sys.imaskp else s.sys.imaskp.hw (putBit s.sys.imaskp.val (latchBit p) b)
      lirptl := if inLirptl p then s.sys.lirptl.hw (putBit s.sys.lirptl.val (latchBit p + 20) b)
        else s.sys.lirptl } := by
  unfold State.setMaskp
  split <;> simp

/-- An interrupt is taken exactly when the PC stack takes the push; what the entry leaves, in its order. -/
theorem takeInterrupt_eq_next {p : Nat} {s t : State} :
    takeInterrupt p s = .next t ↔
      ∃ u, pushPc (pcEntry s.seq.pc false true) (s.setSeq { s.seq with idle := false }) = .next u ∧
        let v := ((if pushesStatus p then pushStatus u else u).setLatch p false).setMaskp p true
        t = v.setSeq { v.seq with pc := ivtBase s + .ofNat 24 (4 * p), irqHold := true } := by
  unfold takeInterrupt
  rw [Res.bind_eq_next]
  exact ⟨fun ⟨u, h, e⟩ => ⟨u, h, (Host.Outcome.next.inj e).symm⟩, fun ⟨u, h, e⟩ => ⟨u, h, congrArg _ e.symm⟩⟩

/-- The end of an interrupt's service, when one is in service. -/
theorem clearInterrupt_eq_next {s t : State} {p : Nat} (h : inService s = some p) :
    clearInterrupt s = .next t ↔ ∃ u, (if pushesStatus p then popStatus s else .next s) = .next u ∧
      let v := (u.setLatch p false).setMaskp p false
      t = if p = 6 then v.setIop { v.iop with eemustat := v.iop.eemustat &&& ~~~breakStatusBits } else v := by
  unfold clearInterrupt
  rw [h]
  dsimp only
  rw [Res.bind_eq_next]
  exact ⟨fun ⟨u, h, e⟩ => ⟨u, h, (Host.Outcome.next.inj e).symm⟩, fun ⟨u, h, e⟩ => ⟨u, h, congrArg _ e.symm⟩⟩

/-- With no interrupt in service there is nothing to end. -/
theorem clearInterrupt_none {s : State} (h : inService s = none) : clearInterrupt s = .next s := by
  unfold clearInterrupt
  rw [h]

/-- The return from an interrupt is the end of its service, then a pop of the PC stack. -/
theorem returnFromInterrupt_eq_next {s t : State} {a : Addr24} :
    returnFromInterrupt s = .next (a, t) ↔
      ∃ u e, clearInterrupt s = .next u ∧ popPc u = .next (e, t) ∧ a = e.setWidth 24 := by
  unfold returnFromInterrupt
  rw [Res.bind_eq_next]
  constructor
  · rintro ⟨u, h, h2⟩
    obtain ⟨⟨e, v⟩, h3, h4⟩ := Res.bind_eq_next.mp h2
    simp only [Host.Outcome.next.injEq, Prod.mk.injEq] at h4
    obtain ⟨rfl, rfl⟩ := h4
    exact ⟨u, e, h, h3, rfl⟩
  · rintro ⟨u, e, h, h2, rfl⟩
    exact ⟨u, h, Res.bind_eq_next.mpr ⟨(e, t), h2, rfl⟩⟩

end Sys2Proof.Machine
end

