-- ==== Sys2Proof/Laws/Flow.lean ====
section
/-! SUPPORT. What the parts of a step around its instruction can do, each said once: the loop tests before it, the choice of
the next address after it, and the end of the step. -/

namespace Sys2Proof.Machine

open Sys2Proof.Safety

/-! ## The loop tests -/

/-- Two states that differ only in the loop stacks, the PC stack pointer, the record of a loop on its way out, and the note
that a loop ended. -/
def loopSame (s u : State) : Prop :=
  u = { s with
    seq := { s.seq with
      ld := u.seq.ld
      loopcnt := u.seq.loopcnt
      tested := u.seq.tested
      pcstkp := u.seq.pcstkp
      exiting := u.seq.exiting }
    scratch := { s.scratch with loopEnded := u.scratch.loopEnded } }

theorem loopSame.trans {s u v : State} (h : loopSame s u) (k : loopSame u v) : loopSame s v := by
  unfold loopSame at *
  rw [k, h]

/-- A loop popped, with its entry of the PC stack. -/
theorem popBoth_same {s t v : State} {e : BitVec 26} (ht : popLoop s = .next t) (hv : popPc t = .next (e, v)) :
    loopSame s v := by
  obtain ⟨-, -, rfl⟩ := popLoop_eq_next.mp ht
  obtain ⟨d, -, -, -, rfl⟩ := popPc_eq_next.mp hv
  rfl

theorem loopTest_same {k : Nat} {s u : State} (h : loopTest k s = .next u) : loopSame s u := by
  induction k generalizing s with
  | zero => cases h; rfl
  | succ k ih =>
    unfold loopTest at h
    split at h
    · split at h
      · cases h
      · split at h
        · obtain ⟨t, ht, h⟩ := Res.bind_eq_next.mp h
          obtain ⟨⟨e, v⟩, hv, h⟩ := Res.bind_eq_next.mp h
          have hs : loopSame v (v.setScratch { v.scratch with loopEnded := true }) := rfl
          exact ((popBoth_same ht hv).trans hs).trans (ih h)
        · cases h
          by_cases hd : 0 < s.seq.ld ∧ s.seq.ld ≤ 6
          · simp [loopSame, State.setCurlcntr, State.setTested, hd]
            rfl
          · simp [loopSame, State.setCurlcntr, State.setTested, hd]
    · cases h; rfl

theorem arithTest_same {s u : State} (h : arithTest s = .next u) : loopSame s u := by
  unfold arithTest at h
  split at h
  · split at h
    · cases h
    · obtain ⟨e, -, h⟩ := Res.bind_eq_next.mp h
      dsimp only at h
      split at h
      · obtain ⟨t, ht, h⟩ := Res.bind_eq_next.mp h
        obtain ⟨⟨e, v⟩, hv, h⟩ := Res.bind_eq_next.mp h
        cases h
        exact (popBoth_same ht hv).trans rfl
      · cases h; rfl
  · cases h; rfl

/-- What the loop tests before an instruction can change. -/
theorem loopTests_same {k : Nat} {s u : State} (h : Res.bind (loopTest k s) arithTest = .next u) : loopSame s u := by
  obtain ⟨t, ht, hu⟩ := Res.bind_eq_next.mp h
  exact (loopTest_same ht).trans (arithTest_same hu)

/-! ## The next address -/

theorem leavingAt_eq_some {t : State} {n : Addr24} {x : Exiting} : leavingAt t n = some x ↔ leaves t n x := by
  unfold leavingAt leaves
  split
  · next y hy =>
    split
    · next hb => exact ⟨fun h => by cases h; exact ⟨hy, hb⟩, fun h => by rw [← h.1, hy]⟩
    · next hb => exact ⟨fun h => by (cases h), fun h => by rw [hy] at h; cases h.1; exact absurd h.2 hb⟩
  · next hy => exact ⟨fun h => by (cases h), fun h => by rw [hy] at h; cases h.1⟩

theorem pcDepth_of_has {t : State} {d : Nat} (h : pcHas t d) : pcDepth t = .next d := by
  obtain ⟨h1, h2, h3⟩ := h
  refine pcDepth_eq_next.mpr ⟨h1, ?_, h2.symm⟩
  intro h
  rw [h] at h2
  have : (31 : BitVec 5).toNat = 31 := rfl
  omega

/-- The top of the PC stack, where it has one. -/
theorem readPcstk_of_has {t : State} {d : Nat} (h : pcHas t d) (hd : 0 < d) : readPcstk t = .next (pcEntryAt t d) := by
  unfold readPcstk pcEntryAt
  rw [pcDepth_of_has h, Res.bind_next]
  simp [hd, h.2.2]

/-- What the flow of the program does beside choosing the next address. -/
structure Flowed (t : State) (n : Addr24) (x : Option Exiting) (v : Vector Bool 6) : Prop where
  leaving : ∀ y, leaves t n y → x = (if y.left ≤ 1 then none else some { y with left := y.left - 1 }) ∧ v = t.seq.tested
  other : (∀ y, ¬ leaves t n y) → x = t.seq.exiting ∧
    (loopsBack t n → ∀ k : Fin 6, v[k] = (t.seq.tested[k] && k.val + 1 != t.seq.ld)) ∧
    (¬ loopsBack t n → v = t.seq.tested)

/-- The choice of the next address completes where a loop that goes back can, and changes the record of a loop on its way
out and the bits `tested` only. -/
theorem flowOn_next {t : State} {n on : Addr24} (h : canLoopBack t n) :
    ∃ next x v, flowOn n on t = .next (next, t.setSeq { t.seq with exiting := x, tested := v }) ∧
      flowsTo t n on next ∧ Flowed t n x v := by
  unfold flowOn
  split
  · next x hx =>
    have hl := leavingAt_eq_some.mp hx
    have hu : ∀ y, leaves t n y → y = x := fun y hy => Option.some.inj (hy.1.symm.trans hl.1)
    refine ⟨if x.left ≤ 1 then x.last + lengthAt x.last 3 else if n = x.last then x.top else on,
      if x.left ≤ 1 then none else some { x with left := x.left - 1 }, t.seq.tested, ?_,
      ⟨fun y hy => ?_, fun hn => absurd hl (hn x)⟩, ⟨fun y hy => ?_, fun hn => absurd hl (hn x)⟩⟩
    · by_cases h1 : x.left ≤ 1 <;> simp [h1]
    · rw [hu y hy]
      unfold lengthAt
      split_ifs <;> rfl
    · rw [hu y hy]
      exact ⟨rfl, rfl⟩
  · next hx =>
    have hn : ∀ y, ¬ leaves t n y := fun y hy => by rw [leavingAt_eq_some.mpr hy] at hx; cases hx
    unfold loopBack
    by_cases hb : loopsBack t n
    · obtain ⟨h0, he, hl⟩ := hb
      have hb : loopsBack t n := ⟨h0, he, hl⟩
      obtain ⟨hl2, d, hd, hp⟩ := h hb hn
      rw [if_pos ⟨h0, he⟩, if_neg (by rintro ⟨h1, h2⟩; rw [hl h1] at h2; cases h2), if_neg (by simp [hl2]),
        readPcstk_of_has hp hd]
      refine ⟨(pcEntryAt t d).setWidth 24, t.seq.exiting, (t.setTested false).seq.tested, ?_,
        ⟨fun y hy => absurd hy (hn y), fun _ => ⟨fun _ => ?_, fun h => absurd hb h⟩⟩,
        ⟨fun y hy => absurd hy (hn y), fun _ => ⟨rfl, fun _ k => ?_, fun h => absurd hb h⟩⟩⟩
      · rw [Res.map_next]
        unfold State.setTested
        split <;> rfl
      · rw [hp.2.1]
        rfl
      · unfold State.setTested
        have := k.isLt
        by_cases hk : 0 < t.seq.ld ∧ t.seq.ld ≤ 6
        · rw [dif_pos hk]
          by_cases he : k.val + 1 = t.seq.ld
          · have : t.seq.ld - 1 = k.val := by omega
            simp [he, this]
          · have : t.seq.ld - 1 ≠ k.val := by omega
            simp [he, this]
        · rw [dif_neg hk]
          have : k.val + 1 ≠ t.seq.ld := by omega
          simp [this]
    · refine ⟨on, t.seq.exiting, t.seq.tested, ?_,
        ⟨fun y hy => absurd hy (hn y), fun _ => ⟨fun h => absurd h hb, fun _ => rfl⟩⟩,
        ⟨fun y hy => absurd hy (hn y), fun _ => ⟨rfl, fun h => absurd h hb, fun _ => rfl⟩⟩⟩
      by_cases h1 : 0 < t.seq.ld ∧ t.loopEnd = n
      · have h2 : t.loopTerm = .lce ∧ t.loopTested = false := by
          by_contra hc
          refine hb ⟨h1.1, h1.2, fun hl => ?_⟩
          by_contra ht
          exact hc ⟨hl, by simpa using ht⟩
        rw [if_pos h1, if_pos h2]
        rfl
      · rw [if_neg h1]
        rfl

/-! ## The end of the step -/

/-- The timer's part changes the count, the output and the events of the step. -/
theorem tickTimer_eq (k : Nat) (t : State) :
    ∃ c e v, tickTimer k t = { t with tcount := c, tmrexp := e, scratch := { t.scratch with events := v } } := by
  unfold tickTimer State.raise
  dsimp only
  split
  · split <;> exact ⟨_, _, _, rfl⟩
  · exact ⟨_, _, _, rfl⟩

/-- The breakpoint unit's part changes EEMUSTAT, EMUN and the events of the step. -/
theorem breakpoints_eq (n : Addr24) (t : State) :
    ∃ a b v, breakpoints n t =
      { t with iop := { t.iop with eemustat := a, emun := b }, scratch := { t.scratch with events := v } } := by
  unfold breakpoints State.raise
  dsimp only
  split
  · split <;> exact ⟨_, _, _, rfl⟩
  · exact ⟨_, _, _, rfl⟩

/-- What the end of a step leaves of a state: all but the counters, the cache, the latches and the notes is as the
instruction left it, or moved on by its latency. -/
structure Ended (t w : State) : Prop where
  pex : w.pex = t.pex
  pey : w.pey = t.pey
  dag : w.dag = t.dag
  dagAlt : w.dagAlt = t.dagAlt
  px : w.px = t.px
  mem : w.mem = t.mem
  tperiod : w.tperiod = t.tperiod
  scratch : w.scratch = Scratch.none
  seq : w.seq = { t.seq with
    pcstkp := t.seq.pcstkp.commit, oldAstatx := t.sys.astatx.eff, oldAstaty := t.sys.astaty.eff }
  sys : w.sys = { t.sys.commit with irptl := w.sys.irptl, lirptl := w.sys.lirptl }
  sysctl : w.iop.sysctl = t.iop.sysctl.commit
  brkctl : w.iop.brkctl = t.iop.brkctl.commit
  brk : w.iop.brk = t.iop.brk.map Latent.commit

theorem endStep_ended (s : State) (inp : EnvInput) (ran : Option Addr24) (t : State) : Ended t (endStep s inp ran t) := by
  obtain ⟨c, e, v, ht⟩ := tickTimer_eq (inp.moreTicks + 1) t
  unfold endStep
  dsimp only
  rw [ht]
  cases ran with
  | none => constructor <;> rfl
  | some n =>
    dsimp only
    obtain ⟨a, b, y, hb⟩ := breakpoints_eq n (tickEmuclk (inp.moreTicks + 1)
      { t with tcount := c, tmrexp := e, scratch := { t.scratch with events := v } })
    rw [hb]
    constructor <;> rfl

end Sys2Proof.Machine
end

