-- ==== Sys2Proof/Laws/Memory.lean ====
section
/-! SUPPORT. Memory: what a byte reads after a write, and the canonical form that every memory operation keeps. -/

namespace Sys2Proof.Machine

/-! ## Bytes -/

theorem readByte_cons (k : Nat) (v : BitVec 8) (t : List Host.Cell) (a : Nat) :
    readByte ((k, v) :: t) a = if k = a then v else readByte t a := rfl

/-- The tail of canonical memory, and what stands before it. -/
theorem Memory.wf_cons {k : Nat} {v : BitVec 8} {t : List Host.Cell} :
    Memory.wf ((k, v) :: t) = true ↔
      v ≠ Config.blankByte ∧ (∀ c ∈ t.head?, k < c.1) ∧ Memory.wf t = true := by
  cases t with
  | nil => simp [Memory.wf]
  | cons c t =>
    obtain ⟨k', v'⟩ := c
    simp [Memory.wf, and_assoc]

/-- A byte written is read back, from canonical memory. -/
theorem readByte_writeByte_same (m : List Host.Cell) (a : Nat) (v : BitVec 8) (h : Memory.wf m = true) :
    readByte (writeByte m a v) a = v := by
  have low : ∀ (t : List Host.Cell) (k : Nat), Memory.wf t = true → (∀ c ∈ t.head?, k < c.1) →
      readByte t k = Config.blankByte := by
    intro t
    induction t with
    | nil => intro k _ _; rfl
    | cons c t ih =>
      obtain ⟨k', v'⟩ := c
      intro k hw hk
      have h1 := Memory.wf_cons.mp hw
      have h2 : k < k' := hk (k', v') (by simp)
      rw [readByte_cons, if_neg (by omega)]
      exact ih k h1.2.2 fun c hc => lt_trans h2 (h1.2.1 c hc)
  induction m with
  | nil =>
    unfold writeByte
    split
    · next hv => simp [readByte, hv]
    · simp [readByte]
  | cons c t ih =>
    obtain ⟨k, u⟩ := c
    have h1 := Memory.wf_cons.mp h
    unfold writeByte
    split
    · next hlt =>
      split
      · next hv => rw [hv]; exact low _ _ h (by simpa using hlt)
      · simp [readByte]
    · split
      · next hne heq =>
        subst heq
        split
        · next hv => rw [hv]; exact low _ _ h1.2.2 h1.2.1
        · simp [readByte]
      · next hlt hne =>
        rw [readByte_cons, if_neg (by omega)]
        exact ih h1.2.2

/-- A byte written leaves every other byte. -/
theorem readByte_writeByte_ne (m : List Host.Cell) {a b : Nat} (v : BitVec 8) (h : b ≠ a) :
    readByte (writeByte m a v) b = readByte m b := by
  induction m with
  | nil => unfold writeByte; split <;> simp [readByte, Ne.symm h]
  | cons c t ih =>
    obtain ⟨k, u⟩ := c
    unfold writeByte
    split
    · split <;> simp [readByte, Ne.symm h]
    · split
      · next heq => subst heq; split <;> simp [readByte, Ne.symm h]
      · rw [readByte_cons, readByte_cons, ih]

theorem writeByte_head {m : List Host.Cell} {a k : Nat} {v : BitVec 8} (h : ∀ c ∈ m.head?, k < c.1) (ha : k < a)
    (hw : Memory.wf m = true) : ∀ c ∈ (writeByte m a v).head?, k < c.1 := by
  cases m with
  | nil => unfold writeByte; split <;> simp [ha]
  | cons c t =>
    obtain ⟨k', u⟩ := c
    have hk : k < k' := h (k', u) (by simp)
    have h1 := Memory.wf_cons.mp hw
    unfold writeByte
    split
    · split <;> simp [hk, ha]
    · split
      · split
        · intro c hc; exact lt_trans hk (h1.2.1 c hc)
        · simp [ha]
      · simp [hk]

/-- Writing a byte keeps the canonical form. -/
theorem writeByte_wf {m : List Host.Cell} (a : Nat) (v : BitVec 8) (h : Memory.wf m = true) :
    Memory.wf (writeByte m a v) = true := by
  induction m with
  | nil => unfold writeByte; split <;> simp_all [Memory.wf]
  | cons c t ih =>
    obtain ⟨k, u⟩ := c
    have h1 := Memory.wf_cons.mp h
    unfold writeByte
    split
    · next hlt =>
      split
      · exact h
      · next hv => exact Memory.wf_cons.mpr ⟨hv, by simpa using hlt, h⟩
    · split
      · next hne heq =>
        split
        · exact h1.2.2
        · next hv => exact Memory.wf_cons.mpr ⟨hv, by subst heq; exact h1.2.1, h1.2.2⟩
      · next hlt hne =>
        exact Memory.wf_cons.mpr ⟨h1.1, writeByte_head h1.2.1 (by omega) h1.2.2, ih h1.2.2⟩

/-! ## Wider writes -/

theorem writeCell_wf {m : List Host.Cell} (c : Nat) (v : BitVec 16) (h : Memory.wf m = true) :
    Memory.wf (writeCell m c v) = true := writeByte_wf _ _ (writeByte_wf _ _ h)

theorem write32_wf {m : List Host.Cell} (c : Nat) (v : BitVec 32) (h : Memory.wf m = true) :
    Memory.wf (write32 m c v) = true := writeCell_wf _ _ (writeCell_wf _ _ h)

theorem write48_wf {m : List Host.Cell} (c : Nat) (v : BitVec 48) (h : Memory.wf m = true) :
    Memory.wf (write48 m c v) = true := writeCell_wf _ _ (write32_wf _ _ h)

theorem write64_wf {m : List Host.Cell} (c : Nat) (v : BitVec 64) (h : Memory.wf m = true) :
    Memory.wf (write64 m c v) = true := write32_wf _ _ (write32_wf _ _ h)

theorem storeCell_wf {m : List Host.Cell} (c : Nat) (v : BitVec 16) (h : Memory.wf m = true) :
    Memory.wf (storeCell c v m) = true := by
  unfold storeCell; split
  · exact writeCell_wf _ _ h
  · exact h

theorem storeWord_wf {m : List Host.Cell} (c : Nat) (v : Word) (h : Memory.wf m = true) :
    Memory.wf (storeWord c v m) = true := storeCell_wf _ _ (storeCell_wf _ _ h)

/-- Every store keeps the canonical form. -/
theorem storeMem_wf {m : List Host.Cell} (a : Access) (d : StoreData) (h : Memory.wf m = true) :
    Memory.wf (storeMem a d m) = true := by
  cases a with
  | iop => exact h
  | w16 c => exact storeCell_wf _ _ h
  | w32 c => exact storeWord_wf _ _ h
  | w64 c c' => exact storeWord_wf _ _ (storeWord_wf _ _ h)
  | w48 c => exact storeCell_wf _ _ (storeWord_wf _ _ h)
  | w40 c => exact storeCell_wf _ _ (storeWord_wf _ _ h)

/-- DMA keeps the canonical form. -/
theorem dma_wf (l : List Host.Cell) {m : List Host.Cell} (h : Memory.wf m = true) :
    Memory.wf (l.foldl dmaByte m) = true := by
  induction l generalizing m with
  | nil => exact h
  | cons c t ih =>
    refine ih ?_
    unfold dmaByte; split
    · exact writeByte_wf _ _ h
    · exact h

/-- Memory after reset is canonical. -/
theorem reset_mem_wf : Memory.wf State.reset.mem = true := rfl

/-! ## Cells -/

/-- The two halves of a word, put together again. -/
theorem append_halves {w : Nat} (v : BitVec (w + w)) : v.extractLsb' w w ++ v.extractLsb' 0 w = v := by
  apply BitVec.eq_of_getLsbD_eq
  intro i hi
  rw [BitVec.getLsbD_append]
  by_cases h : i < w
  · simp [h]
  · have : i - w < w := by omega
    simp [h, this, show w + (i - w) = i by omega]

/-- A cell written leaves the bytes outside it. -/
theorem readByte_writeCell {m : List Host.Cell} {c b : Nat} (v : BitVec 16) (h : b < 2 * c ∨ 2 * c + 2 ≤ b) :
    readByte (writeCell m c v) b = readByte m b := by
  unfold writeCell
  rw [readByte_writeByte_ne _ _ (by omega), readByte_writeByte_ne _ _ (by omega)]

/-- A cell written is read back. -/
theorem readCell_writeCell_same {m : List Host.Cell} (c : Nat) (v : BitVec 16) (h : Memory.wf m = true) :
    readCell (writeCell m c v) c = v := by
  unfold readCell writeCell
  rw [readByte_writeByte_same _ _ _ (writeByte_wf _ _ h), readByte_writeByte_ne _ _ (by omega),
    readByte_writeByte_same _ _ _ h]
  exact append_halves (w := 8) v

/-- A cell written leaves every other cell. -/
theorem readCell_writeCell_ne {m : List Host.Cell} {c c' : Nat} (v : BitVec 16) (h : c' ≠ c) :
    readCell (writeCell m c v) c' = readCell m c' := by
  unfold readCell
  rw [readByte_writeCell _ (by omega), readByte_writeCell _ (by omega)]

theorem readCell_storeCell_same {m : List Host.Cell} {c : Nat} (v : BitVec 16) (h : Memory.wf m = true)
    (hr : cellRam c = true) : readCell (storeCell c v m) c = v := by
  unfold storeCell; rw [if_pos hr]; exact readCell_writeCell_same _ _ h

theorem readCell_storeCell_ne {m : List Host.Cell} {c c' : Nat} (v : BitVec 16) (h : c' ≠ c) :
    readCell (storeCell c v m) c' = readCell m c' := by
  unfold storeCell; split
  · exact readCell_writeCell_ne _ h
  · rfl

/-- A byte of ROM, or outside the cell, is left by a store to a cell. -/
theorem readByte_storeCell {m : List Host.Cell} {c b : Nat} (v : BitVec 16)
    (h : (b < 2 * c ∨ 2 * c + 2 ≤ b) ∨ cellRam (b / 2) = false) :
    readByte (storeCell c v m) b = readByte m b := by
  unfold storeCell
  split
  · next hr =>
    rcases h with h | h
    · exact readByte_writeCell _ h
    · by_cases hb : b < 2 * c ∨ 2 * c + 2 ≤ b
      · exact readByte_writeCell _ hb
      · have : b / 2 = c := by omega
        rw [this] at h; simp_all
  · rfl

theorem readByte_storeWord {m : List Host.Cell} {c b : Nat} (v : Word)
    (h : (b < 2 * c ∨ 2 * c + 4 ≤ b) ∨ cellRam (b / 2) = false) :
    readByte (storeWord c v m) b = readByte m b := by
  unfold storeWord
  rcases h with h | h
  · rw [readByte_storeCell _ (.inl (by omega)), readByte_storeCell _ (.inl (by omega))]
  · rw [readByte_storeCell _ (.inr h), readByte_storeCell _ (.inr h)]

/-- A store leaves the bytes outside its access, and every byte of ROM. -/
theorem readByte_storeMem {m : List Host.Cell} {a : Access} {b : Nat} (d : StoreData)
    (h : ¬ Sys2Proof.Safety.Access.covers a b ∨ cellRam (b / 2) = false) :
    readByte (storeMem a d m) b = readByte m b := by
  rcases h with h | h
  · cases a <;> simp only [Sys2Proof.Safety.Access.covers, storeMem] at h ⊢
    · rw [readByte_storeCell _ (.inl (by omega))]
    · rw [readByte_storeWord _ (.inl (by omega))]
    · rw [readByte_storeWord _ (.inl (by omega)), readByte_storeWord _ (.inl (by omega))]
    · rw [readByte_storeCell _ (.inl (by omega)), readByte_storeWord _ (.inl (by omega))]
    · rw [readByte_storeCell _ (.inl (by omega)), readByte_storeWord _ (.inl (by omega))]
  · cases a <;> simp only [storeMem]
    · rw [readByte_storeCell _ (.inr h)]
    · rw [readByte_storeWord _ (.inr h)]
    · rw [readByte_storeWord _ (.inr h), readByte_storeWord _ (.inr h)]
    · rw [readByte_storeCell _ (.inr h), readByte_storeWord _ (.inr h)]
    · rw [readByte_storeCell _ (.inr h), readByte_storeWord _ (.inr h)]

/-- A 32-bit word stored in RAM is read back. -/
theorem read32_storeWord_same {m : List Host.Cell} {c : Nat} (v : Word) (h : Memory.wf m = true)
    (h0 : cellRam c = true) (h1 : cellRam (c + 1) = true) : read32 (storeWord c v m) c = v := by
  unfold read32 storeWord
  rw [readCell_storeCell_same _ (storeCell_wf _ _ h) h1, readCell_storeCell_ne _ (by omega),
    readCell_storeCell_same _ h h0]
  exact append_halves (w := 16) v

/-- A 32-bit word stored leaves the words of other cells. -/
theorem read32_storeWord_ne {m : List Host.Cell} {c c' : Nat} (v : Word) (h : c' + 1 < c ∨ c + 1 < c') :
    read32 (storeWord c v m) c' = read32 m c' := by
  unfold read32 storeWord
  rw [readCell_storeCell_ne _ (by omega), readCell_storeCell_ne _ (by omega), readCell_storeCell_ne _ (by omega),
    readCell_storeCell_ne _ (by omega)]

end Sys2Proof.Machine
end

