-- ==== Sys2Proof/Laws/Operands.lean ====
section
/-! SUPPORT. What each shared operation of `Sys2Proof/Machine/Operands.lean` does, said once: what an access is by its
address, and what reading, writing, storing and loading leave alone. -/

namespace Sys2Proof.Machine

/-! ## Classes of accesses -/

/-- What an access is, by its address, in each case in which it has a meaning (20_memory.md R160 to R170, R195). -/
theorem classify_eq_next {s : State} {addr : Word} {k : RegClass} {lw dual : Bool} {a : Access}
    (h : classify s addr k lw dual = .next a) :
    match a with
    | .iop => addr.toNat < 0x40000 ∧ lw = false ∧ dual = false
    | .w64 c c' =>
      (0x40000 ≤ addr.toNat ∧ addr.toNat < 0x80000 ∧ c = 4 * addr.toNat ∧ c' = 4 * addr.toNat + 2 ∧ mappedSpan c 4 = true) ∨
        (0x80000 ≤ addr.toNat ∧ addr.toNat < 0x100000 ∧ lw = true ∧ c = 2 * addr.toNat ∧ c' = 2 * (addr.toNat ^^^ 1) ∧
          mappedSpan c 2 = true)
    | .w48 c => 0x80000 ≤ addr.toNat ∧ addr.toNat < 0x100000 ∧ lw = false ∧ k = .px ∧ cell48 addr.toNat = some c
    | .w40 c => 0x80000 ≤ addr.toNat ∧ addr.toNat < 0x100000 ∧ lw = false ∧ k = .dreg ∧ imdw s (2 * addr.toNat) = true ∧
        cell48 addr.toNat = some c
    | .w32 c => c = 2 * addr.toNat ∧ mappedSpan c 2 = true ∧
        (0x200000 ≤ addr.toNat ∨
          0x80000 ≤ addr.toNat ∧ addr.toNat < 0x100000 ∧ lw = false ∧ k ≠ .px ∧ imdw s (2 * addr.toNat) = false)
    | .w16 c => 0x100000 ≤ addr.toNat ∧ addr.toNat < 0x200000 ∧ lw = false ∧ k ≠ .px ∧ c = addr.toNat ∧
        cellMapped c = true := by
  unfold classify at h
  dsimp only at h
  split at h
  · split at h
    · cases h
    · next h0 hl =>
      cases h
      simp only [Bool.or_eq_true, not_or, Bool.not_eq_true] at hl
      exact ⟨h0, hl.1, hl.2⟩
  · split at h
    · split at h
      · next h0 h1 hm => cases h; exact .inl ⟨by omega, h1, rfl, rfl, hm⟩
      · cases h
    · split at h
      · next h1 h2 =>
        split at h
        · next hl =>
          split at h
          · next hm => cases h; exact .inr ⟨by omega, h2, hl, rfl, rfl, hm⟩
          · cases h
        · next hl =>
          have hl : lw = false := by simpa using hl
          split at h
          · next hk =>
            split at h
            · next c hc => cases h; exact ⟨by omega, h2, hl, hk, hc⟩
            · cases h
          · next hk =>
            split at h
            · next hi =>
              cases hc : cell48 addr.toNat with
              | none => cases k <;> simp only [hc] at h <;> cases h
              | some c =>
                cases k <;> simp only [hc] at h <;> cases h
                exact ⟨by omega, h2, hl, rfl, hi, rfl⟩
            · next hi =>
              split at h
              · next hm => cases h; exact ⟨rfl, hm, .inr ⟨by omega, h2, hl, hk, by simpa using hi⟩⟩
              · cases h
      · split at h
        · next h2 h3 =>
          split at h
          · cases h
          · next hl =>
            split at h
            · cases h
            · next hk =>
              split at h
              · next hm => cases h; exact ⟨by omega, h3, by simpa using hl, hk, rfl, hm⟩
              · cases h
        · split at h
          · next hm => cases h; exact ⟨rfl, hm, .inl (by omega)⟩
          · cases h

/-- The implicit access is the next word, or the second short word on; none with (LW) or for the combined PX (20_memory.md
R171). -/
theorem implicitAccess_eq_next {s : State} {addr : Word} {k : RegClass} {lw : Bool} {a : Access}
    (h : implicitAccess s addr k lw = .next (some a)) :
    lw = false ∧ k ≠ .px ∧ 0x80000 ≤ addr.toNat ∧
      ((a = .w32 (2 * addr.toNat + 2) ∧ mappedSpan (2 * addr.toNat + 2) 2 = true) ∨
        (a = .w16 (addr.toNat + 2) ∧ cellMapped (addr.toNat + 2) = true)) := by
  unfold implicitAccess at h
  dsimp only at h
  split at h
  · cases h
  · next h0 =>
    simp only [not_or, Nat.not_lt, Bool.not_eq_true] at h0
    refine ⟨h0.2.1, h0.2.2, h0.1, ?_⟩
    split at h
    · split at h
      · cases h
      · split at h
        · next hm => cases h; exact .inl ⟨rfl, hm⟩
        · cases h
    · split at h
      · split at h
        · next hm => cases h; exact .inr ⟨rfl, hm⟩
        · cases h
      · split at h
        · next hm => cases h; exact .inl ⟨rfl, hm⟩
        · cases h

/-! ## Notes of an access -/

@[simp] theorem notePm_mem (pm : Bool) (t : State) : (notePm pm t).mem = t.mem := rfl

/-- What a read of an IOP register does beside giving the value is in the core's registers or the platform's. -/
theorem noteIopRead_eq (addr : Word) (t : State) :
    noteIopRead addr t = { t with iop := (noteIopRead addr t).iop, platform := (noteIopRead addr t).platform } := by
  unfold noteIopRead
  split
  · rfl
  · split <;> rfl

/-- The notes of an access on a bus are in the registers of IOP space and the notes for the end of the step. -/
theorem noteBus_eq (pm write : Bool) (addr : Word) (t : State) :
    noteBus pm write addr t = { t with
      iop := (noteBus pm write addr t).iop
      platform := (noteBus pm write addr t).platform
      scratch := (noteBus pm write addr t).scratch } := by
  unfold noteBus
  dsimp only
  split
  · rw [noteIopRead_eq]; rfl
  · rfl

/-- The notes of an illegal access are in STKYx and the notes for the end of the step. -/
theorem noteIllegal_eq (s : State) (lw : Bool) (addr : Word) (t : State) :
    noteIllegal s lw addr t = { t with
      sys := (noteIllegal s lw addr t).sys
      scratch := (noteIllegal s lw addr t).scratch } := by
  unfold noteIllegal
  dsimp only
  repeat' split
  all_goals rfl

@[simp] theorem noteBus_mem (pm write : Bool) (addr : Word) (t : State) : (noteBus pm write addr t).mem = t.mem := by
  rw [noteBus_eq]

@[simp] theorem noteIllegal_mem (s : State) (lw : Bool) (addr : Word) (t : State) :
    (noteIllegal s lw addr t).mem = t.mem := by rw [noteIllegal_eq]

@[simp] theorem noteAccess_mem (s : State) (pm write lw : Bool) (addr : Word) (t : State) :
    (noteAccess s pm write lw addr t).mem = t.mem := by simp [noteAccess]

/-! ## Registers -/

@[simp] theorem State.setDagOf_mem (s : State) (n : RegNum) (d : Dag) : (s.setDagOf n d).mem = s.mem := by
  unfold State.setDagOf; split <;> rfl
@[simp] theorem State.setI_mem (s : State) (n : RegNum) (v : Word) : (s.setI n v).mem = s.mem := State.setDagOf_mem _ _ _
@[simp] theorem State.setM_mem (s : State) (n : RegNum) (v : Word) : (s.setM n v).mem = s.mem := State.setDagOf_mem _ _ _
@[simp] theorem State.setL_mem (s : State) (n : RegNum) (v : Word) : (s.setL n v).mem = s.mem := State.setDagOf_mem _ _ _
@[simp] theorem State.setB_mem (s : State) (n : RegNum) (v : Word) : (s.setB n v).mem = s.mem := State.setDagOf_mem _ _ _
@[simp] theorem State.setReg32_mem (s : State) (e : Elem) (n : RegNum) (v : Word) : (s.setReg32 e n v).mem = s.mem :=
  State.setReg_mem _ _ _ _
@[simp] theorem State.setLaddr_mem (s : State) (v : Word) : (s.setLaddr v).mem = s.mem := by
  unfold State.setLaddr; split <;> rfl
@[simp] theorem State.setCurlcntr_mem (s : State) (v : Word) : (s.setCurlcntr v).mem = s.mem := by
  unfold State.setCurlcntr; split <;> rfl
@[simp] theorem State.syncLce_mem (s : State) : s.syncLce.mem = s.mem := rfl
@[simp] theorem writeSReg_mem (x : SReg) (v : Word) (t : State) : (writeSReg x v t).mem = t.mem := by cases x <;> rfl

theorem writePcstk_mem {v : Word} {s t : State} (h : writePcstk v s = .next t) : t.mem = s.mem := by
  unfold writePcstk at h
  obtain ⟨d, -, h⟩ := Res.bind_eq_next.mp h
  split at h <;> cases h <;> rfl

/-- A write of a universal register leaves memory. -/
theorem writeUReg_mem {u : UReg} {v : Word} {t t' : State} (h : writeUReg u v t = .next t') : t'.mem = t.mem := by
  cases u <;> simp only [writeUReg] at h
  case pcstk => exact writePcstk_mem h
  case pcstkp => split at h <;> cases h <;> rfl
  case laddr => split at h <;> cases h; simp
  case curlcntr => split at h <;> cases h; simp
  case lcntr => cases h; split <;> rfl
  all_goals cases h; simp

/-- A load of a register leaves memory. -/
theorem loadUReg_mem {u : UReg} {d : LoadData} {t t' : State} (h : loadUReg u d t = .next t') : t'.mem = t.mem := by
  cases d <;> simp only [loadUReg] at h
  · split at h <;> exact writeUReg_mem h
  · cases h; rfl
  · split at h <;> cases h <;> simp
  · split at h
    · cases h; rfl
    · obtain ⟨w, h1, h2⟩ := Res.bind_eq_next.mp h
      split at h2
      · exact (writeUReg_mem h2).trans (writeUReg_mem h1)
      · cases h2; exact writeUReg_mem h1

/-! ## Transfers -/

/-- A write of an IOP register changes the core's registers there or the platform's only. -/
theorem writeIop_eq (addr v : Word) (t : State) :
    writeIop addr v t = { t with iop := (writeIop addr v t).iop, platform := (writeIop addr v t).platform } := by
  unfold writeIop
  dsimp only
  repeat' split
  all_goals rfl

/-- A store is a write of an IOP register, or changes memory and notes the cells. -/
theorem performStore_eq (addr : Word) (a : Access) (d : StoreData) (t : State) :
    (a = .iop ∧ performStore addr a d t = writeIop addr d.low t) ∨
      (a ≠ .iop ∧ performStore addr a d t = noteStored a (t.setMem (storeMem a d t.mem))) := by
  cases a
  case iop => exact .inl ⟨rfl, rfl⟩
  all_goals exact .inr ⟨by simp, rfl⟩

/-- In both cases memory afterwards is that of `storeMem`. -/
@[simp] theorem performStore_mem (addr : Word) (a : Access) (d : StoreData) (t : State) :
    (performStore addr a d t).mem = storeMem a d t.mem := by
  rcases performStore_eq addr a d t with ⟨rfl, e⟩ | ⟨-, e⟩ <;> rw [e]
  · rw [writeIop_eq]; rfl
  · rfl

/-- The implicit transfer is made in SIMD mode, where its element goes and the width has one, or nothing is. -/
theorem implicitly_eq_next {s : State} {go : Bool} {x : Transfer} {k : RegClass} {f : Access → State → Res State}
    {t t' : State} :
    implicitly s go x k f t = .next t' ↔
      ((s.simd && go) = false ∧ t' = t) ∨
        ((s.simd && go) = true ∧ ((implicitAccess s x.addr k x.lw = .next none ∧ t' = t) ∨
          ∃ a u, implicitAccess s x.addr k x.lw = .next (some a) ∧ f a t = .next u ∧ t' = notePm x.pm u)) := by
  unfold implicitly
  cases hg : s.simd && go
  · simp [eq_comm]
  · rw [if_pos rfl, Res.bind_eq_next]
    constructor
    · rintro ⟨o, ho, h⟩
      cases o with
      | none => cases h; exact .inr ⟨rfl, .inl ⟨ho, rfl⟩⟩
      | some a =>
        obtain ⟨u, hu, rfl⟩ := Res.map_eq_next.mp h
        exact .inr ⟨rfl, .inr ⟨a, u, ho, hu, rfl⟩⟩
    · rintro (⟨h, -⟩ | ⟨-, ⟨ho, rfl⟩ | ⟨a, u, ho, hu, rfl⟩⟩)
      · cases h
      · exact ⟨none, ho, rfl⟩
      · exact ⟨some a, ho, by simp [hu]⟩

/-- A transfer that loads leaves memory. -/
theorem loadTransfer_mem {s : State} {g : Gates} {x : Transfer} {u : UReg} {t t' : State}
    (h : loadTransfer s g x u t = .next t') : t'.mem = t.mem := by
  unfold loadTransfer at h
  dsimp only at h
  obtain ⟨v, h1, h⟩ := Res.bind_eq_next.mp h
  have hv : v.mem = t.mem := by
    generalize (if u.complement.isSome = true then g.cx else g.any) = ex at h1
    split at h1
    · obtain ⟨a, -, h2⟩ := Res.bind_eq_next.mp h1
      obtain ⟨w, h3, h4⟩ := Res.bind_eq_next.mp h2
      obtain ⟨y, h5, rfl⟩ := Res.map_eq_next.mp h4
      have hw : w.mem = t.mem := by
        split at h3
        · exact loadUReg_mem h3
        · cases h3; rfl
      rw [apply_ite State.mem, noteAccess_mem, noteBus_mem, ite_self, ← hw]
      split at h5
      · split at h5
        · exact loadUReg_mem h5
        · cases h5; rfl
      · cases h5; rfl
    · cases h1; rfl
  rw [← hv]
  split at h
  · split at h
    · cases h; rfl
    · rcases implicitly_eq_next.mp h with ⟨-, rfl⟩ | ⟨-, ⟨-, rfl⟩ | ⟨a, w, -, h3, rfl⟩⟩
      · rfl
      · rfl
      · rw [notePm_mem, loadUReg_mem h3]
  · cases h; rfl

/-- A transfer that stores changes memory by its explicit access, where PEx goes, and in SIMD mode by the implicit one, and
by nothing else. -/
theorem accessStore_mem {s : State} {g : Gates} {x : Transfer} {k : RegClass} {d : StoreData} {dc : Option StoreData}
    {t t' : State} (h : accessStore s g x k d dc t = .next t') :
    ∃ m, ((g.cx = false ∧ m = t.mem) ∨
        (g.cx = true ∧ ∃ a, classify s x.addr k x.lw x.dual = .next a ∧ m = storeMem a d t.mem)) ∧
      (t'.mem = m ∨ (s.simd = true ∧ ∃ c a, dc = some c ∧ implicitAccess s x.addr k x.lw = .next (some a) ∧
        t'.mem = storeMem a c m)) := by
  unfold accessStore at h
  split at h
  · cases h
  · obtain ⟨v, h1, h⟩ := Res.bind_eq_next.mp h
    refine ⟨v.mem, ?_, ?_⟩
    · cases hc : g.cx with
      | false => rw [hc] at h1; cases h1; exact .inl ⟨rfl, rfl⟩
      | true =>
        rw [hc] at h1
        obtain ⟨a, ha, rfl⟩ := Res.map_eq_next.mp h1
        exact .inr ⟨rfl, a, ha, by rw [noteAccess_mem, performStore_mem]⟩
    · cases dc with
      | none => cases h; exact .inl rfl
      | some c =>
        rcases implicitly_eq_next.mp h with ⟨-, rfl⟩ | ⟨hg, ⟨-, rfl⟩ | ⟨a, w, ha, h3, rfl⟩⟩
        · exact .inl rfl
        · exact .inl rfl
        · cases h3
          rw [Bool.and_eq_true] at hg
          exact .inr ⟨hg.1, c, a, rfl, ha, by rw [notePm_mem, performStore_mem]⟩

end Sys2Proof.Machine
end

