-- ==== Sys2Proof/Laws/PerInstr.lean ====
section
/-! SUPPORT. What holds of every instruction, by a lemma for each constructor. -/

namespace Sys2Proof.Laws

/-- The compute field of a well-formed instruction is well-formed, so that it completes (48_multifunction.md R704). -/
def Computes.Statement (i : Instr) : Prop := i.wellFormed = true → i.computeField.wellFormed = true

theorem Computes.dualMove1a (dmd : Bool) (dmi dmm : DagNum) (pmd : Bool) (dmdreg : RegNum) (pmi pmm : DagNum) (pmdreg : RegNum) (c : Compute) : Computes.Statement (.dualMove1a dmd dmi dmm pmd dmdreg pmi pmm pmdreg c) := fun h => h
theorem Computes.compute2a (cond : Cond) (c : Compute) : Computes.Statement (.compute2a cond c) := by
  intro h
  have h : (cond != .always || c == .none) = true ∧ c.wellFormed = true := by simpa only [Instr.wellFormed, Bool.and_eq_true] using h
  exact h.2
theorem Computes.memUreg3a (u : Bool) (i m : DagNum) (cond : Cond) (g d l : Bool) (ureg : UReg) (c : Compute) : Computes.Statement (.memUreg3a u i m cond g d l ureg c) := fun h => h
theorem Computes.memDreg4a (i : DagNum) (g d u : Bool) (cond : Cond) (data : BitVec 6) (dreg : RegNum) (c : Compute) : Computes.Statement (.memDreg4a i g d u cond data dreg c) := fun h => h
theorem Computes.move5a (src : UReg) (cond : Cond) (dst : UReg) (c : Compute) : Computes.Statement (.move5a src cond dst c) := fun h => h
theorem Computes.swap5a (cdreg : RegNum) (cond : Cond) (dreg : RegNum) (c : Compute) : Computes.Statement (.swap5a cdreg cond dreg c) := fun h => h
theorem Computes.shiftMem6a (i m : DagNum) (cond : Cond) (g d : Bool) (dreg : RegNum) (sh : ShiftImm) : Computes.Statement (.shiftMem6a i m cond g d dreg sh) := fun _ => rfl
theorem Computes.shift6a (cond : Cond) (sh : ShiftImm) : Computes.Statement (.shift6a cond sh) := fun _ => rfl
theorem Computes.modify7a (g : Bool) (cond : Cond) (is m idx : DagNum) (c : Compute) : Computes.Statement (.modify7a g cond is m idx c) := fun h => h
theorem Computes.jumpDirect8a (a : Bool) (cond : Cond) (j ci : Bool) (addr : Addr24) : Computes.Statement (.jumpDirect8a a cond j ci addr) := fun _ => rfl
theorem Computes.jumpRel8a (a : Bool) (cond : Cond) (j ci : Bool) (rel : Addr24) : Computes.Statement (.jumpRel8a a cond j ci rel) := fun _ => rfl
theorem Computes.callDirect8a (a : Bool) (cond : Cond) (j ci : Bool) (addr : Addr24) : Computes.Statement (.callDirect8a a cond j ci addr) := fun _ => rfl
theorem Computes.callRel8a (a : Bool) (cond : Cond) (j ci : Bool) (rel : Addr24) : Computes.Statement (.callRel8a a cond j ci rel) := fun _ => rfl
theorem Computes.jumpInd9a (a : Bool) (cond : Cond) (pmi pmm : DagNum) (j e ci : Bool) (c : Compute) : Computes.Statement (.jumpInd9a a cond pmi pmm j e ci c) := fun h => h
theorem Computes.jumpRel9a (a : Bool) (cond : Cond) (rel : BitVec 6) (j e ci : Bool) (c : Compute) : Computes.Statement (.jumpRel9a a cond rel j e ci c) := fun h => h
theorem Computes.callInd9a (a : Bool) (cond : Cond) (pmi pmm : DagNum) (j e ci : Bool) (c : Compute) : Computes.Statement (.callInd9a a cond pmi pmm j e ci c) := fun h => h
theorem Computes.callRel9a (a : Bool) (cond : Cond) (rel : BitVec 6) (j e ci : Bool) (c : Compute) : Computes.Statement (.callRel9a a cond rel j e ci c) := fun h => h
theorem Computes.jumpInd10a (d : Bool) (dmi dmm : DagNum) (cond : Cond) (pmi pmm : DagNum) (dreg : RegNum) (c : Compute) : Computes.Statement (.jumpInd10a d dmi dmm cond pmi pmm dreg c) := fun h => h
theorem Computes.jumpRel10a (d : Bool) (dmi dmm : DagNum) (cond : Cond) (rel : BitVec 6) (dreg : RegNum) (c : Compute) : Computes.Statement (.jumpRel10a d dmi dmm cond rel dreg c) := fun h => h
theorem Computes.rts11a (cond : Cond) (j e lr : Bool) (c : Compute) : Computes.Statement (.rts11a cond j e lr c) := fun h => h
theorem Computes.rti11a (cond : Cond) (j e : Bool) (c : Compute) : Computes.Statement (.rti11a cond j e c) := fun h => h
theorem Computes.doImm12a (data : BitVec 16) (rel : Addr24) : Computes.Statement (.doImm12a data rel) := fun _ => rfl
theorem Computes.doUreg12a (ureg : UReg) (rel : Addr24) : Computes.Statement (.doUreg12a ureg rel) := fun _ => rfl
theorem Computes.doUntil13a (term : Term) (rel : Addr24) : Computes.Statement (.doUntil13a term rel) := fun _ => rfl
theorem Computes.memDirect14a (g d l : Bool) (ureg : UReg) (addr : Word) : Computes.Statement (.memDirect14a g d l ureg addr) := fun _ => rfl
theorem Computes.memOffset15a (g : Bool) (i : DagNum) (d l : Bool) (ureg : UReg) (data : Word) : Computes.Statement (.memOffset15a g i d l ureg data) := fun _ => rfl
theorem Computes.storeImm16a (i m : DagNum) (g : Bool) (data : Word) : Computes.Statement (.storeImm16a i m g data) := fun _ => rfl
theorem Computes.loadImm17a (ureg : UReg) (data : Word) : Computes.Statement (.loadImm17a ureg data) := fun _ => rfl
theorem Computes.bitSet18a (sreg : SReg) (data : Word) : Computes.Statement (.bitSet18a sreg data) := fun _ => rfl
theorem Computes.bitClr18a (sreg : SReg) (data : Word) : Computes.Statement (.bitClr18a sreg data) := fun _ => rfl
theorem Computes.bitTgl18a (sreg : SReg) (data : Word) : Computes.Statement (.bitTgl18a sreg data) := fun _ => rfl
theorem Computes.bitTst18a (sreg : SReg) (data : Word) : Computes.Statement (.bitTst18a sreg data) := fun _ => rfl
theorem Computes.bitXor18a (sreg : SReg) (data : Word) : Computes.Statement (.bitXor18a sreg data) := fun _ => rfl
theorem Computes.modifyImm19a (g : Bool) (idx is : DagNum) (data : Word) : Computes.Statement (.modifyImm19a g idx is data) := fun _ => rfl
theorem Computes.bitrev19a (g : Bool) (idx is : DagNum) (data : Word) : Computes.Statement (.bitrev19a g idx is data) := fun _ => rfl
theorem Computes.stackOps20a (lpu lpo spu spo ppu ppo fc : Bool) : Computes.Statement (.stackOps20a lpu lpo spu spo ppu ppo fc) := fun _ => rfl
theorem Computes.pushLoop20a : Computes.Statement .pushLoop20a := fun _ => rfl
theorem Computes.popLoop20a : Computes.Statement .popLoop20a := fun _ => rfl
theorem Computes.pushSts20a : Computes.Statement .pushSts20a := fun _ => rfl
theorem Computes.popSts20a : Computes.Statement .popSts20a := fun _ => rfl
theorem Computes.pushPcstk20a : Computes.Statement .pushPcstk20a := fun _ => rfl
theorem Computes.popPcstk20a : Computes.Statement .popPcstk20a := fun _ => rfl
theorem Computes.flushCache20a : Computes.Statement .flushCache20a := fun _ => rfl
theorem Computes.nop21a : Computes.Statement .nop21a := fun _ => rfl
theorem Computes.idle22a : Computes.Statement .idle22a := fun _ => rfl
theorem Computes.emuidle22a : Computes.Statement .emuidle22a := fun _ => rfl
theorem Computes.cjumpDirect25a (addr : Addr24) : Computes.Statement (.cjumpDirect25a addr) := fun _ => rfl
theorem Computes.cjumpRel25a (rel : Addr24) : Computes.Statement (.cjumpRel25a rel) := fun _ => rfl
theorem Computes.rframe25a : Computes.Statement .rframe25a := fun _ => rfl
theorem Computes.dualMove1b (dmd : Bool) (dmi dmm : DagNum) (pmd : Bool) (dmdreg : RegNum) (pmi pmm : DagNum) (pmdreg : RegNum) : Computes.Statement (.dualMove1b dmd dmi dmm pmd dmdreg pmi pmm pmdreg) := fun _ => rfl
theorem Computes.compute2b (c : Compute) : Computes.Statement (.compute2b c) := fun h => h
theorem Computes.memUreg3b (u : Bool) (i m : DagNum) (cond : Cond) (g d l : Bool) (ureg : UReg) : Computes.Statement (.memUreg3b u i m cond g d l ureg) := fun _ => rfl
theorem Computes.memDreg4b (i : DagNum) (g d u : Bool) (cond : Cond) (data : BitVec 6) (dreg : RegNum) : Computes.Statement (.memDreg4b i g d u cond data dreg) := fun _ => rfl
theorem Computes.move5b (src : UReg) (cond : Cond) (dst : UReg) : Computes.Statement (.move5b src cond dst) := fun _ => rfl
theorem Computes.swap5b (cdreg : RegNum) (cond : Cond) (dreg : RegNum) : Computes.Statement (.swap5b cdreg cond dreg) := fun _ => rfl
theorem Computes.modify7b (g : Bool) (cond : Cond) (is m idx : DagNum) : Computes.Statement (.modify7b g cond is m idx) := fun _ => rfl
theorem Computes.jumpInd9b (a : Bool) (cond : Cond) (pmi pmm : DagNum) (j ci : Bool) : Computes.Statement (.jumpInd9b a cond pmi pmm j ci) := fun _ => rfl
theorem Computes.jumpRel9b (a : Bool) (cond : Cond) (rel : BitVec 6) (j ci : Bool) : Computes.Statement (.jumpRel9b a cond rel j ci) := fun _ => rfl
theorem Computes.callInd9b (a : Bool) (cond : Cond) (pmi pmm : DagNum) (j ci : Bool) : Computes.Statement (.callInd9b a cond pmi pmm j ci) := fun _ => rfl
theorem Computes.callRel9b (a : Bool) (cond : Cond) (rel : BitVec 6) (j ci : Bool) : Computes.Statement (.callRel9b a cond rel j ci) := fun _ => rfl
theorem Computes.memOffset15b (i : DagNum) (d l g : Bool) (ureg : UReg) (data : BitVec 7) : Computes.Statement (.memOffset15b i d l g ureg data) := fun _ => rfl
theorem Computes.storeImm16b (i m : DagNum) (g : Bool) (data : BitVec 16) : Computes.Statement (.storeImm16b i m g data) := fun _ => rfl
theorem Computes.loadImm17b (ureg : UReg) (data : BitVec 16) : Computes.Statement (.loadImm17b ureg data) := fun _ => rfl
theorem Computes.shortAdd2c (rn rx : RegNum) : Computes.Statement (.shortAdd2c rn rx) := fun _ => rfl
theorem Computes.shortSub2c (rn rx : RegNum) : Computes.Statement (.shortSub2c rn rx) := fun _ => rfl
theorem Computes.shortPass2c (rn rx : RegNum) : Computes.Statement (.shortPass2c rn rx) := fun _ => rfl
theorem Computes.shortComp2c (rn rx : RegNum) : Computes.Statement (.shortComp2c rn rx) := fun _ => rfl
theorem Computes.shortNot2c (rn rx : RegNum) : Computes.Statement (.shortNot2c rn rx) := fun _ => rfl
theorem Computes.shortInc2c (rn rx : RegNum) : Computes.Statement (.shortInc2c rn rx) := fun _ => rfl
theorem Computes.shortDec2c (rn rx : RegNum) : Computes.Statement (.shortDec2c rn rx) := fun _ => rfl
theorem Computes.shortMul2c (rn rx : RegNum) : Computes.Statement (.shortMul2c rn rx) := fun _ => rfl
theorem Computes.shortFAdd2c (rn rx : RegNum) : Computes.Statement (.shortFAdd2c rn rx) := fun _ => rfl
theorem Computes.shortFSub2c (rn rx : RegNum) : Computes.Statement (.shortFSub2c rn rx) := fun _ => rfl
theorem Computes.shortFloat2c (rn rx : RegNum) : Computes.Statement (.shortFloat2c rn rx) := fun _ => rfl
theorem Computes.shortFComp2c (rn rx : RegNum) : Computes.Statement (.shortFComp2c rn rx) := fun _ => rfl
theorem Computes.shortAnd2c (rn rx : RegNum) : Computes.Statement (.shortAnd2c rn rx) := fun _ => rfl
theorem Computes.shortOr2c (rn rx : RegNum) : Computes.Statement (.shortOr2c rn rx) := fun _ => rfl
theorem Computes.shortXor2c (rn rx : RegNum) : Computes.Statement (.shortXor2c rn rx) := fun _ => rfl
theorem Computes.shortFMul2c (rn rx : RegNum) : Computes.Statement (.shortFMul2c rn rx) := fun _ => rfl
theorem Computes.memDreg3c (i m : DagNum) (d : Bool) (dreg : RegNum) : Computes.Statement (.memDreg3c i m d dreg) := fun _ => rfl
theorem Computes.rts11c (cond : Cond) (j lr : Bool) : Computes.Statement (.rts11c cond j lr) := fun _ => rfl
theorem Computes.rti11c (cond : Cond) (j : Bool) : Computes.Statement (.rti11c cond j) := fun _ => rfl
theorem Computes.nop21c : Computes.Statement .nop21c := fun _ => rfl
theorem Computes.idle22c (emu : Bool) : Computes.Statement (.idle22c emu) := fun _ => rfl
theorem Computes.rframe25c : Computes.Statement .rframe25c := fun _ => rfl
theorem Computes.aluAdd (rn rx ry : RegNum) : Computes.Statement (.aluAdd rn rx ry) := fun _ => rfl
theorem Computes.aluSub (rn rx ry : RegNum) : Computes.Statement (.aluSub rn rx ry) := fun _ => rfl
theorem Computes.aluAddCi (rn rx ry : RegNum) : Computes.Statement (.aluAddCi rn rx ry) := fun _ => rfl
theorem Computes.aluSubCi (rn rx ry : RegNum) : Computes.Statement (.aluSubCi rn rx ry) := fun _ => rfl
theorem Computes.aluAvg (rn rx ry : RegNum) : Computes.Statement (.aluAvg rn rx ry) := fun _ => rfl
theorem Computes.aluComp (rx ry : RegNum) : Computes.Statement (.aluComp rx ry) := fun _ => rfl
theorem Computes.aluCompu (rx ry : RegNum) : Computes.Statement (.aluCompu rx ry) := fun _ => rfl
theorem Computes.aluIncCi (rn rx : RegNum) : Computes.Statement (.aluIncCi rn rx) := fun _ => rfl
theorem Computes.aluDecCi (rn rx : RegNum) : Computes.Statement (.aluDecCi rn rx) := fun _ => rfl
theorem Computes.aluInc (rn rx : RegNum) : Computes.Statement (.aluInc rn rx) := fun _ => rfl
theorem Computes.aluDec (rn rx : RegNum) : Computes.Statement (.aluDec rn rx) := fun _ => rfl
theorem Computes.aluNeg (rn rx : RegNum) : Computes.Statement (.aluNeg rn rx) := fun _ => rfl
theorem Computes.aluAbs (rn rx : RegNum) : Computes.Statement (.aluAbs rn rx) := fun _ => rfl
theorem Computes.aluPass (rn rx : RegNum) : Computes.Statement (.aluPass rn rx) := fun _ => rfl
theorem Computes.aluAnd (rn rx ry : RegNum) : Computes.Statement (.aluAnd rn rx ry) := fun _ => rfl
theorem Computes.aluOr (rn rx ry : RegNum) : Computes.Statement (.aluOr rn rx ry) := fun _ => rfl
theorem Computes.aluXor (rn rx ry : RegNum) : Computes.Statement (.aluXor rn rx ry) := fun _ => rfl
theorem Computes.aluNot (rn rx : RegNum) : Computes.Statement (.aluNot rn rx) := fun _ => rfl
theorem Computes.aluMin (rn rx ry : RegNum) : Computes.Statement (.aluMin rn rx ry) := fun _ => rfl
theorem Computes.aluMax (rn rx ry : RegNum) : Computes.Statement (.aluMax rn rx ry) := fun _ => rfl
theorem Computes.aluClip (rn rx ry : RegNum) : Computes.Statement (.aluClip rn rx ry) := fun _ => rfl
theorem Computes.fAdd (rn rx ry : RegNum) : Computes.Statement (.fAdd rn rx ry) := fun _ => rfl
theorem Computes.fSub (rn rx ry : RegNum) : Computes.Statement (.fSub rn rx ry) := fun _ => rfl
theorem Computes.fAbsAdd (rn rx ry : RegNum) : Computes.Statement (.fAbsAdd rn rx ry) := fun _ => rfl
theorem Computes.fAbsSub (rn rx ry : RegNum) : Computes.Statement (.fAbsSub rn rx ry) := fun _ => rfl
theorem Computes.fAvg (rn rx ry : RegNum) : Computes.Statement (.fAvg rn rx ry) := fun _ => rfl
theorem Computes.fComp (rx ry : RegNum) : Computes.Statement (.fComp rx ry) := fun _ => rfl
theorem Computes.fNeg (rn rx : RegNum) : Computes.Statement (.fNeg rn rx) := fun _ => rfl
theorem Computes.fAbs (rn rx : RegNum) : Computes.Statement (.fAbs rn rx) := fun _ => rfl
theorem Computes.fPass (rn rx : RegNum) : Computes.Statement (.fPass rn rx) := fun _ => rfl
theorem Computes.fRnd (rn rx : RegNum) : Computes.Statement (.fRnd rn rx) := fun _ => rfl
theorem Computes.fScalb (rn rx ry : RegNum) : Computes.Statement (.fScalb rn rx ry) := fun _ => rfl
theorem Computes.fMant (rn rx : RegNum) : Computes.Statement (.fMant rn rx) := fun _ => rfl
theorem Computes.fLogb (rn rx : RegNum) : Computes.Statement (.fLogb rn rx) := fun _ => rfl
theorem Computes.fFix (rn rx : RegNum) : Computes.Statement (.fFix rn rx) := fun _ => rfl
theorem Computes.fFixBy (rn rx ry : RegNum) : Computes.Statement (.fFixBy rn rx ry) := fun _ => rfl
theorem Computes.fTrunc (rn rx : RegNum) : Computes.Statement (.fTrunc rn rx) := fun _ => rfl
theorem Computes.fTruncBy (rn rx ry : RegNum) : Computes.Statement (.fTruncBy rn rx ry) := fun _ => rfl
theorem Computes.fFloat (rn rx : RegNum) : Computes.Statement (.fFloat rn rx) := fun _ => rfl
theorem Computes.fFloatBy (rn rx ry : RegNum) : Computes.Statement (.fFloatBy rn rx ry) := fun _ => rfl
theorem Computes.fRecips (rn rx : RegNum) : Computes.Statement (.fRecips rn rx) := fun _ => rfl
theorem Computes.fRsqrts (rn rx : RegNum) : Computes.Statement (.fRsqrts rn rx) := fun _ => rfl
theorem Computes.fCopysign (rn rx ry : RegNum) : Computes.Statement (.fCopysign rn rx ry) := fun _ => rfl
theorem Computes.fMin (rn rx ry : RegNum) : Computes.Statement (.fMin rn rx ry) := fun _ => rfl
theorem Computes.fMax (rn rx ry : RegNum) : Computes.Statement (.fMax rn rx ry) := fun _ => rfl
theorem Computes.fClip (rn rx ry : RegNum) : Computes.Statement (.fClip rn rx ry) := fun _ => rfl
theorem Computes.mulRn (md : MulMod) (rn rx ry : RegNum) : Computes.Statement (.mulRn md rn rx ry) := fun _ => rfl
theorem Computes.mulMrf (md : MulMod) (rx ry : RegNum) : Computes.Statement (.mulMrf md rx ry) := fun _ => rfl
theorem Computes.mulMrb (md : MulMod) (rx ry : RegNum) : Computes.Statement (.mulMrb md rx ry) := fun _ => rfl
theorem Computes.mulRnAddF (md : MulMod) (rn rx ry : RegNum) : Computes.Statement (.mulRnAddF md rn rx ry) := fun _ => rfl
theorem Computes.mulRnAddB (md : MulMod) (rn rx ry : RegNum) : Computes.Statement (.mulRnAddB md rn rx ry) := fun _ => rfl
theorem Computes.mulAddF (md : MulMod) (rx ry : RegNum) : Computes.Statement (.mulAddF md rx ry) := fun _ => rfl
theorem Computes.mulAddB (md : MulMod) (rx ry : RegNum) : Computes.Statement (.mulAddB md rx ry) := fun _ => rfl
theorem Computes.mulRnSubF (md : MulMod) (rn rx ry : RegNum) : Computes.Statement (.mulRnSubF md rn rx ry) := fun _ => rfl
theorem Computes.mulRnSubB (md : MulMod) (rn rx ry : RegNum) : Computes.Statement (.mulRnSubB md rn rx ry) := fun _ => rfl
theorem Computes.mulSubF (md : MulMod) (rx ry : RegNum) : Computes.Statement (.mulSubF md rx ry) := fun _ => rfl
theorem Computes.mulSubB (md : MulMod) (rx ry : RegNum) : Computes.Statement (.mulSubB md rx ry) := fun _ => rfl
theorem Computes.satRnF (fmt : SatMod) (rn : RegNum) : Computes.Statement (.satRnF fmt rn) := fun _ => rfl
theorem Computes.satRnB (fmt : SatMod) (rn : RegNum) : Computes.Statement (.satRnB fmt rn) := fun _ => rfl
theorem Computes.satF (fmt : SatMod) : Computes.Statement (.satF fmt) := fun _ => rfl
theorem Computes.satB (fmt : SatMod) : Computes.Statement (.satB fmt) := fun _ => rfl
theorem Computes.rndRnF (sgn : Bool) (rn : RegNum) : Computes.Statement (.rndRnF sgn rn) := fun _ => rfl
theorem Computes.rndRnB (sgn : Bool) (rn : RegNum) : Computes.Statement (.rndRnB sgn rn) := fun _ => rfl
theorem Computes.rndF (sgn : Bool) : Computes.Statement (.rndF sgn) := fun _ => rfl
theorem Computes.rndB (sgn : Bool) : Computes.Statement (.rndB sgn) := fun _ => rfl
theorem Computes.clrF : Computes.Statement .clrF := fun _ => rfl
theorem Computes.clrB : Computes.Statement .clrB := fun _ => rfl
theorem Computes.fMul (rn rx ry : RegNum) : Computes.Statement (.fMul rn rx ry) := fun _ => rfl
theorem Computes.mrGet (sel : MrPart) (rn : RegNum) : Computes.Statement (.mrGet sel rn) := fun _ => rfl
theorem Computes.mrSet (sel : MrPart) (rn : RegNum) : Computes.Statement (.mrSet sel rn) := fun _ => rfl
theorem Computes.lshift (rn rx ry : RegNum) : Computes.Statement (.lshift rn rx ry) := fun _ => rfl
theorem Computes.orLshift (rn rx ry : RegNum) : Computes.Statement (.orLshift rn rx ry) := fun _ => rfl
theorem Computes.ashift (rn rx ry : RegNum) : Computes.Statement (.ashift rn rx ry) := fun _ => rfl
theorem Computes.orAshift (rn rx ry : RegNum) : Computes.Statement (.orAshift rn rx ry) := fun _ => rfl
theorem Computes.rot (rn rx ry : RegNum) : Computes.Statement (.rot rn rx ry) := fun _ => rfl
theorem Computes.bclr (rn rx ry : RegNum) : Computes.Statement (.bclr rn rx ry) := fun _ => rfl
theorem Computes.bset (rn rx ry : RegNum) : Computes.Statement (.bset rn rx ry) := fun _ => rfl
theorem Computes.btgl (rn rx ry : RegNum) : Computes.Statement (.btgl rn rx ry) := fun _ => rfl
theorem Computes.btst (rx ry : RegNum) : Computes.Statement (.btst rx ry) := fun _ => rfl
theorem Computes.fdep (rn rx ry : RegNum) : Computes.Statement (.fdep rn rx ry) := fun _ => rfl
theorem Computes.orFdep (rn rx ry : RegNum) : Computes.Statement (.orFdep rn rx ry) := fun _ => rfl
theorem Computes.fdepSe (rn rx ry : RegNum) : Computes.Statement (.fdepSe rn rx ry) := fun _ => rfl
theorem Computes.orFdepSe (rn rx ry : RegNum) : Computes.Statement (.orFdepSe rn rx ry) := fun _ => rfl
theorem Computes.fext (rn rx ry : RegNum) : Computes.Statement (.fext rn rx ry) := fun _ => rfl
theorem Computes.fextSe (rn rx ry : RegNum) : Computes.Statement (.fextSe rn rx ry) := fun _ => rfl
theorem Computes.exp (rn rx : RegNum) : Computes.Statement (.exp rn rx) := fun _ => rfl
theorem Computes.expEx (rn rx : RegNum) : Computes.Statement (.expEx rn rx) := fun _ => rfl
theorem Computes.leftz (rn rx : RegNum) : Computes.Statement (.leftz rn rx) := fun _ => rfl
theorem Computes.lefto (rn rx : RegNum) : Computes.Statement (.lefto rn rx) := fun _ => rfl
theorem Computes.fpack (rn rx : RegNum) : Computes.Statement (.fpack rn rx) := fun _ => rfl
theorem Computes.funpack (rn rx : RegNum) : Computes.Statement (.funpack rn rx) := fun _ => rfl
theorem Computes.bitdep (rx ry : RegNum) : Computes.Statement (.bitdep rx ry) := fun _ => rfl
theorem Computes.bitext (rn rx : RegNum) : Computes.Statement (.bitext rn rx) := fun _ => rfl
theorem Computes.bitextNu (rn rx : RegNum) : Computes.Statement (.bitextNu rn rx) := fun _ => rfl
theorem Computes.bffwrpSet (rn : RegNum) : Computes.Statement (.bffwrpSet rn) := fun _ => rfl
theorem Computes.bffwrpGet (rn : RegNum) : Computes.Statement (.bffwrpGet rn) := fun _ => rfl
theorem Computes.lshiftImm (data : BitVec 8) (rn rx : RegNum) : Computes.Statement (.lshiftImm data rn rx) := fun _ => rfl
theorem Computes.orLshiftImm (data : BitVec 8) (rn rx : RegNum) : Computes.Statement (.orLshiftImm data rn rx) := fun _ => rfl
theorem Computes.ashiftImm (data : BitVec 8) (rn rx : RegNum) : Computes.Statement (.ashiftImm data rn rx) := fun _ => rfl
theorem Computes.orAshiftImm (data : BitVec 8) (rn rx : RegNum) : Computes.Statement (.orAshiftImm data rn rx) := fun _ => rfl
theorem Computes.rotImm (data : BitVec 8) (rn rx : RegNum) : Computes.Statement (.rotImm data rn rx) := fun _ => rfl
theorem Computes.bclrImm (data : BitVec 8) (rn rx : RegNum) : Computes.Statement (.bclrImm data rn rx) := fun _ => rfl
theorem Computes.bsetImm (data : BitVec 8) (rn rx : RegNum) : Computes.Statement (.bsetImm data rn rx) := fun _ => rfl
theorem Computes.btglImm (data : BitVec 8) (rn rx : RegNum) : Computes.Statement (.btglImm data rn rx) := fun _ => rfl
theorem Computes.btstImm (data : BitVec 8) (rx : RegNum) : Computes.Statement (.btstImm data rx) := fun _ => rfl
theorem Computes.fdepImm (imm : BitVec 12) (rn rx : RegNum) : Computes.Statement (.fdepImm imm rn rx) := fun _ => rfl
theorem Computes.orFdepImm (imm : BitVec 12) (rn rx : RegNum) : Computes.Statement (.orFdepImm imm rn rx) := fun _ => rfl
theorem Computes.fdepSeImm (imm : BitVec 12) (rn rx : RegNum) : Computes.Statement (.fdepSeImm imm rn rx) := fun _ => rfl
theorem Computes.orFdepSeImm (imm : BitVec 12) (rn rx : RegNum) : Computes.Statement (.orFdepSeImm imm rn rx) := fun _ => rfl
theorem Computes.fextImm (imm : BitVec 12) (rn rx : RegNum) : Computes.Statement (.fextImm imm rn rx) := fun _ => rfl
theorem Computes.fextSeImm (imm : BitVec 12) (rn rx : RegNum) : Computes.Statement (.fextSeImm imm rn rx) := fun _ => rfl
theorem Computes.bitdepImm (imm : BitVec 12) (rx : RegNum) : Computes.Statement (.bitdepImm imm rx) := fun _ => rfl
theorem Computes.bitextImm (imm : BitVec 12) (rn : RegNum) : Computes.Statement (.bitextImm imm rn) := fun _ => rfl
theorem Computes.bitextNuImm (imm : BitVec 12) (rn : RegNum) : Computes.Statement (.bitextNuImm imm rn) := fun _ => rfl
theorem Computes.bffwrpImm (data : BitVec 7) : Computes.Statement (.bffwrpImm data) := fun _ => rfl
theorem Computes.dualAddSub (ra rs rx ry : RegNum) : Computes.Statement (.dualAddSub ra rs rx ry) := fun _ => rfl
theorem Computes.fDualAddSub (ra rs rx ry : RegNum) : Computes.Statement (.fDualAddSub ra rs rx ry) := fun _ => rfl
theorem Computes.mulRmAdd (rm ra : RegNum) (xm ym xa ya : BitVec 2) : Computes.Statement (.mulRmAdd rm ra xm ym xa ya) := fun _ => rfl
theorem Computes.mulRmSub (rm ra : RegNum) (xm ym xa ya : BitVec 2) : Computes.Statement (.mulRmSub rm ra xm ym xa ya) := fun _ => rfl
theorem Computes.mulRmAvg (rm ra : RegNum) (xm ym xa ya : BitVec 2) : Computes.Statement (.mulRmAvg rm ra xm ym xa ya) := fun _ => rfl
theorem Computes.macFAdd (ra : RegNum) (xm ym xa ya : BitVec 2) : Computes.Statement (.macFAdd ra xm ym xa ya) := fun _ => rfl
theorem Computes.macFSub (ra : RegNum) (xm ym xa ya : BitVec 2) : Computes.Statement (.macFSub ra xm ym xa ya) := fun _ => rfl
theorem Computes.macFAvg (ra : RegNum) (xm ym xa ya : BitVec 2) : Computes.Statement (.macFAvg ra xm ym xa ya) := fun _ => rfl
theorem Computes.macRmAdd (rm ra : RegNum) (xm ym xa ya : BitVec 2) : Computes.Statement (.macRmAdd rm ra xm ym xa ya) := fun _ => rfl
theorem Computes.macRmSub (rm ra : RegNum) (xm ym xa ya : BitVec 2) : Computes.Statement (.macRmSub rm ra xm ym xa ya) := fun _ => rfl
theorem Computes.macRmAvg (rm ra : RegNum) (xm ym xa ya : BitVec 2) : Computes.Statement (.macRmAvg rm ra xm ym xa ya) := fun _ => rfl
theorem Computes.msubFAdd (ra : RegNum) (xm ym xa ya : BitVec 2) : Computes.Statement (.msubFAdd ra xm ym xa ya) := fun _ => rfl
theorem Computes.msubFSub (ra : RegNum) (xm ym xa ya : BitVec 2) : Computes.Statement (.msubFSub ra xm ym xa ya) := fun _ => rfl
theorem Computes.msubFAvg (ra : RegNum) (xm ym xa ya : BitVec 2) : Computes.Statement (.msubFAvg ra xm ym xa ya) := fun _ => rfl
theorem Computes.msubRmAdd (rm ra : RegNum) (xm ym xa ya : BitVec 2) : Computes.Statement (.msubRmAdd rm ra xm ym xa ya) := fun _ => rfl
theorem Computes.msubRmSub (rm ra : RegNum) (xm ym xa ya : BitVec 2) : Computes.Statement (.msubRmSub rm ra xm ym xa ya) := fun _ => rfl
theorem Computes.msubRmAvg (rm ra : RegNum) (xm ym xa ya : BitVec 2) : Computes.Statement (.msubRmAvg rm ra xm ym xa ya) := fun _ => rfl
theorem Computes.fMulAdd (rm ra : RegNum) (xm ym xa ya : BitVec 2) : Computes.Statement (.fMulAdd rm ra xm ym xa ya) := fun _ => rfl
theorem Computes.fMulSub (rm ra : RegNum) (xm ym xa ya : BitVec 2) : Computes.Statement (.fMulSub rm ra xm ym xa ya) := fun _ => rfl
theorem Computes.fMulFloat (rm ra : RegNum) (xm ym xa ya : BitVec 2) : Computes.Statement (.fMulFloat rm ra xm ym xa ya) := fun _ => rfl
theorem Computes.fMulFix (rm ra : RegNum) (xm ym xa ya : BitVec 2) : Computes.Statement (.fMulFix rm ra xm ym xa ya) := fun _ => rfl
theorem Computes.fMulAvg (rm ra : RegNum) (xm ym xa ya : BitVec 2) : Computes.Statement (.fMulAvg rm ra xm ym xa ya) := fun _ => rfl
theorem Computes.fMulAbs (rm ra : RegNum) (xm ym xa : BitVec 2) : Computes.Statement (.fMulAbs rm ra xm ym xa) := fun _ => rfl
theorem Computes.fMulMax (rm ra : RegNum) (xm ym xa ya : BitVec 2) : Computes.Statement (.fMulMax rm ra xm ym xa ya) := fun _ => rfl
theorem Computes.fMulMin (rm ra : RegNum) (xm ym xa ya : BitVec 2) : Computes.Statement (.fMulMin rm ra xm ym xa ya) := fun _ => rfl
theorem Computes.mulDual (rs rm ra : RegNum) (xm ym xa ya : BitVec 2) : Computes.Statement (.mulDual rs rm ra xm ym xa ya) := fun _ => rfl
theorem Computes.fMulDual (rs rm ra : RegNum) (xm ym xa ya : BitVec 2) : Computes.Statement (.fMulDual rs rm ra xm ym xa ya) := fun _ => rfl

end Sys2Proof.Laws
end

