-- ==== Sys2Proof/Tests/Slice0.lean ====
section
/-! SUPPORT. The model's own tests: ill-formed terms, the decoding of a written-out word of every constructor, and single
steps against the vectors of `spec/95_test_vectors.md` and `spec/96_test_vectors_derived.md`. -/

namespace Sys2Proof.Tests

open Sys2Proof Sys2Proof.Machine Sys2Proof.Safety

/-! ## Well-formedness: each check refuses an ill-formed term -/

theorem test_wellFormed_refuses :
    ∀ i ∈ [Instr.compute2a .always (.fix2 .add 1 2 3), .compute2a (.is .eq) (.dualFix 3 3 1 2),
      .shift6a .always (.by8 .lshift 4 2 6), .stackOps20a true false false false false false false,
      .dualAddSub 3 3 1 2, .fDualAddSub 3 3 1 2, .mulDual 5 1 5 0 0 0 0, .fMulDual 5 1 5 0 0 0 0,
      .dualMove1a true 0 0 true 0 0 0 0 (.dualFlt 7 7 0 0), .move5a (.r 1) .always (.r 2) (.mulDualFix 4 1 4 0 0 0 0),
      .rts11a .always false false false (.mulDualFlt 4 1 4 0 0 0 0)], i.wellFormed = false := by
  decide

theorem test_wellFormed_accepts :
    ∀ i ∈ [Instr.compute2a .always .none, .compute2a (.is .eq) (.dualFix 3 4 1 2), .shift6a (.is .eq) (.by8 .lshift 4 2 6),
      .stackOps20a false false false false false false false, .stackOps20a true false true false false false false,
      .dualAddSub 3 4 1 2, .mulDual 5 5 6 0 0 0 0, .nop21a], i.wellFormed = true := by
  decide

/-! ## Decoding: one word of every constructor, put together bit by bit from the layouts of `spec/30_encoding.md` -/

/-- Types 1 to 7 (R260 to R266). -/
theorem test_decode_type_1_to_7 : ∀ p ∈ ([
    (0x3CBB0B001123, .dualMove1a true 6 2 true 13 4 1 6 (.fix2 .add 1 2 3)),
    (0x010800001123, .compute2a (.is .av) (.fix2 .add 1 2 3)),
    (0x5AE713001123, .memUreg3a true 5 3 (.isNot .ac) true false false (.m 6) (.fix2 .add 1 2 3)),
    (0x6AB55D801123, .memDreg4a 5 false true false (.isNot .flag1) 0x2b 11 (.fix2 .add 1 2 3)),
    (0x72440D801123, .move5a (.m 4) (.is .le) (.i 11) (.fix2 .add 1 2 3)),
    (0x79D205801123, .swap5a 7 (.is .flag0) 11 (.fix2 .add 1 2 3)),
    (0x8AE10680B61A, .shiftMem6a 5 3 (.isNot .eq) true false 13 (.by8 .lshift 0xB6 1 10)),
    (0x022E4811B61A, .shift6a (.isNot .sv) (.field .fdep 0x9B6 1 10)),
    (0x04BD9B001123, .modify7a true (.isNot .bm) 6 3 3 (.fix2 .add 1 2 3))] :
    List (BitVec 48 × Instr)), decode48 p.1 = some p.2 := by decide

/-- Types 8 to 13 (R267 to R272). -/
theorem test_decode_type_8_to_13_1 : ∀ p ∈ ([
    (0x060C05ABCDEF, .jumpDirect8a false (.is .ms) true true 0xabcdef),
    (0x075A00FEDCB9, .jumpRel8a true (.is .tf) false false 0xfedcb9),
    (0x06A805ABCDEF, .callDirect8a false (.isNot .av) true true 0xabcdef),
    (0x07F600FEDCB9, .callRel8a true (.isNot .flag2) false false 0xfedcb9),
    (0x08070D001123, .jumpInd9a false (.is .ac) 4 1 true false true (.fix2 .add 1 2 3)),
    (0x09556A001123, .jumpRel9a true (.is .flag1) 0x2d false true false (.fix2 .add 1 2 3)),
    (0x08A30D001123, .callInd9a false (.isNot .lt) 4 1 true false true (.fix2 .add 1 2 3)),
    (0x09F16A001123, .callRel9a true (.isNot .sz) 0x2d false true false (.fix2 .add 1 2 3)),
    (0xDC810D801123, .jumpInd10a true 6 2 (.is .eq) 4 1 11 (.fix2 .add 1 2 3))] :
    List (BitVec 48 × Instr)), decode48 p.1 = some p.2 := by decide

/-- Types 8 to 13 (R267 to R272). -/
theorem test_decode_type_8_to_13_2 : ∀ p ∈ ([
    (0xEC8F6D801123, .jumpRel10a false 6 2 (.is .sv) 0x2d 11 (.fix2 .add 1 2 3)),
    (0x0A1C05001123, .rts11a (.is .bm) true false true (.fix2 .add 1 2 3)),
    (0x0B2A02001123, .rti11a (.isNot .mv) false true (.fix2 .add 1 2 3)),
    (0x0CC35AFEDCB9, .doImm12a 0xc35a 0xfedcb9),
    (0x0D4B00FEDCB9, .doUreg12a (.b 11) 0xfedcb9),
    (0x0E1200FEDCB9, .doUntil13a (.is .flag0) 0xfedcb9)] :
    List (BitVec 48 × Instr)), decode48 p.1 = some p.2 := by decide

/-- Types 14 to 19 (R273 to R278). -/
theorem test_decode_type_14_to_19_1 : ∀ p ∈ ([
    (0x120589ABCDEF, .memDirect14a true false false (.r 5) 0x89abcdef),
    (0xAB9D80C0A5F1, .memOffset15a false 5 true true (.i 13) 0x80c0a5f1),
    (0x9AE080C0A5F1, .storeImm16a 5 3 true 0x80c0a5f1),
    (0x0F3980C0A5F1, .loadImm17a (.l 9) 0x80c0a5f1),
    (0x140C80C0A5F1, .bitSet18a .imaskp 0x80c0a5f1),
    (0x142D80C0A5F1, .bitClr18a .lirptl 0x80c0a5f1),
    (0x144E80C0A5F1, .bitTgl18a .ustat3 0x80c0a5f1),
    (0x148F80C0A5F1, .bitTst18a .ustat4 0x80c0a5f1),
    (0x14A080C0A5F1, .bitXor18a .ustat1 0x80c0a5f1)] :
    List (BitVec 48 × Instr)), decode48 p.1 = some p.2 := by decide

/-- Types 14 to 19 (R273 to R278). -/
theorem test_decode_type_14_to_19_2 : ∀ p ∈ ([
    (0x161E80C0A5F1, .modifyImm19a false 3 6 0x80c0a5f1),
    (0x16DE80C0A5F1, .bitrev19a true 3 6 0x80c0a5f1)] :
    List (BitVec 48 × Instr)), decode48 p.1 = some p.2 := by decide

/-- Types 20 to 25 (R279 to R282). -/
theorem test_decode_type_20_to_25_1 : ∀ p ∈ ([
    (0x179A00000000, .stackOps20a true false false true true false true),
    (0x178000000000, .pushLoop20a),
    (0x174000000000, .popLoop20a),
    (0x172000000000, .pushSts20a),
    (0x171000000000, .popSts20a),
    (0x170800000000, .pushPcstk20a),
    (0x170400000000, .popPcstk20a),
    (0x170200000000, .flushCache20a),
    (0x000000000000, .nop21a)] :
    List (BitVec 48 × Instr)), decode48 p.1 = some p.2 := by decide

/-- Types 20 to 25 (R279 to R282). -/
theorem test_decode_type_20_to_25_2 : ∀ p ∈ ([
    (0x008000000000, .idle22a),
    (0x00C000000000, .emuidle22a),
    (0x180400ABCDEF, .cjumpDirect25a 0xabcdef),
    (0x184400FEDCB9, .cjumpRel25a 0xfedcb9),
    (0x190000000000, .rframe25a)] :
    List (BitVec 48 × Instr)), decode48 p.1 = some p.2 := by decide

/-- 32-bit VISA forms (R285, R286). -/
theorem test_decode_visa_32_bits_1 : ∀ p ∈ ([
    (0x2C9B0B3F, .dualMove1b false 6 2 false 13 4 1 6),
    (0x01801123, .compute2b (.fix2 .add 1 2 3)),
    (0x4AEADCBF, .memUreg3b false 5 3 (.isNot .mv) false true true (.l 9)),
    (0x6B795DBF, .memDreg4b 5 true false true (.isNot .flag3) 0x2b 11),
    (0x72480DBF, .move5b (.m 4) (.is .av) (.i 11)),
    (0x79D605BF, .swap5b 7 (.is .flag2) 11),
    (0x04259B3F, .modify7b false (.isNot .le) 6 3 3),
    (0x0873083F, .jumpInd9b true (.isNot .flag0) 4 1 false false),
    (0x09036D3F, .jumpRel9b false (.is .lt) 0x2d true true)] :
    List (BitVec 32 × Instr)), decode32 p.1 = some p.2 := by decide

/-- 32-bit VISA forms (R285, R286). -/
theorem test_decode_visa_32_bits_2 : ∀ p ∈ ([
    (0x08D1083F, .callInd9b true (.is .sz) 4 1 false false),
    (0x099F6D3F, .callRel9b false .notLce 0x2d true true),
    (0x0FA6C35A, .loadImm17b (.m 6) 0xc35a),
    (0x9B080E5B, .memOffset15b 5 true false false (.i 12) 0x5B),
    (0x9AC4C35A, .storeImm16b 5 3 false 0xC35A)] :
    List (BitVec 32 × Instr)), decode32 p.1 = some p.2 := by decide

/-- 16-bit VISA forms (R286, R287). -/
theorem test_decode_visa_16_bits_1 : ∀ p ∈ ([
    (0xC01A, .shortAdd2c 1 10),
    (0xC11A, .shortSub2c 1 10),
    (0xC21A, .shortPass2c 1 10),
    (0xC31A, .shortComp2c 1 10),
    (0xC41A, .shortNot2c 1 10),
    (0xC51A, .shortInc2c 1 10),
    (0xC61A, .shortDec2c 1 10),
    (0xC71A, .shortMul2c 1 10),
    (0xC81A, .shortFAdd2c 1 10)] :
    List (BitVec 16 × Instr)), decode16 p.1 = some p.2 := by decide

/-- 16-bit VISA forms (R286, R287). -/
theorem test_decode_visa_16_bits_2 : ∀ p ∈ ([
    (0xC91A, .shortFSub2c 1 10),
    (0xCA1A, .shortFloat2c 1 10),
    (0xCB1A, .shortFComp2c 1 10),
    (0xCC1A, .shortAnd2c 1 10),
    (0xCD1A, .shortOr2c 1 10),
    (0xCE1A, .shortXor2c 1 10),
    (0xCF1A, .shortFMul2c 1 10),
    (0x0000, .nop21c),
    (0x1901, .rframe25c)] :
    List (BitVec 16 × Instr)), decode16 p.1 = some p.2 := by decide

/-- 16-bit VISA forms (R286, R287). -/
theorem test_decode_visa_16_bits_3 : ∀ p ∈ ([
    (0x9AFB, .memDreg3c 5 3 true 11),
    (0x0A8B, .rts11c (.is .mv) true false),
    (0x0B8B, .rti11c (.is .mv) true),
    (0x0081, .idle22c false),
    (0x00C1, .idle22c true)] :
    List (BitVec 16 × Instr)), decode16 p.1 = some p.2 := by decide

/-- Fixed-point ALU (R312), each in an unconditional type 2a word. -/
theorem test_decode_alu_fixed_1 : ∀ p ∈ ([
    (0x013E000011A7, .aluAdd 1 10 7),
    (0x013E000021A7, .aluSub 1 10 7),
    (0x013E000051A7, .aluAddCi 1 10 7),
    (0x013E000061A7, .aluSubCi 1 10 7),
    (0x013E000091A7, .aluAvg 1 10 7),
    (0x013E0000A0A7, .aluComp 10 7),
    (0x013E0000B0A7, .aluCompu 10 7),
    (0x013E000231A0, .aluIncCi 1 10),
    (0x013E000261A0, .aluDecCi 1 10)] :
    List (BitVec 48 × Instr)), decode48 p.1 = some p.2 := by decide

/-- Fixed-point ALU (R312), each in an unconditional type 2a word. -/
theorem test_decode_alu_fixed_2 : ∀ p ∈ ([
    (0x013E000291A0, .aluInc 1 10),
    (0x013E0002A1A0, .aluDec 1 10),
    (0x013E000221A0, .aluNeg 1 10),
    (0x013E000301A0, .aluAbs 1 10),
    (0x013E000211A0, .aluPass 1 10),
    (0x013E000401A7, .aluAnd 1 10 7),
    (0x013E000411A7, .aluOr 1 10 7),
    (0x013E000421A7, .aluXor 1 10 7),
    (0x013E000431A0, .aluNot 1 10)] :
    List (BitVec 48 × Instr)), decode48 p.1 = some p.2 := by decide

/-- Fixed-point ALU (R312), each in an unconditional type 2a word. -/
theorem test_decode_alu_fixed_3 : ∀ p ∈ ([
    (0x013E000611A7, .aluMin 1 10 7),
    (0x013E000621A7, .aluMax 1 10 7),
    (0x013E000631A7, .aluClip 1 10 7)] :
    List (BitVec 48 × Instr)), decode48 p.1 = some p.2 := by decide

/-- Floating-point ALU (R313). -/
theorem test_decode_alu_float_1 : ∀ p ∈ ([
    (0x013E000811A7, .fAdd 1 10 7),
    (0x013E000821A7, .fSub 1 10 7),
    (0x013E000911A7, .fAbsAdd 1 10 7),
    (0x013E000921A7, .fAbsSub 1 10 7),
    (0x013E000891A7, .fAvg 1 10 7),
    (0x013E0008A0A7, .fComp 10 7),
    (0x013E000A21A0, .fNeg 1 10),
    (0x013E000B01A0, .fAbs 1 10),
    (0x013E000A11A0, .fPass 1 10)] :
    List (BitVec 48 × Instr)), decode48 p.1 = some p.2 := by decide

/-- Floating-point ALU (R313). -/
theorem test_decode_alu_float_2 : ∀ p ∈ ([
    (0x013E000A51A0, .fRnd 1 10),
    (0x013E000BD1A7, .fScalb 1 10 7),
    (0x013E000AD1A0, .fMant 1 10),
    (0x013E000C11A0, .fLogb 1 10),
    (0x013E000C91A0, .fFix 1 10),
    (0x013E000D91A7, .fFixBy 1 10 7),
    (0x013E000CD1A0, .fTrunc 1 10),
    (0x013E000DD1A7, .fTruncBy 1 10 7),
    (0x013E000CA1A0, .fFloat 1 10)] :
    List (BitVec 48 × Instr)), decode48 p.1 = some p.2 := by decide

/-- Floating-point ALU (R313). -/
theorem test_decode_alu_float_3 : ∀ p ∈ ([
    (0x013E000DA1A7, .fFloatBy 1 10 7),
    (0x013E000C41A0, .fRecips 1 10),
    (0x013E000C51A0, .fRsqrts 1 10),
    (0x013E000E01A7, .fCopysign 1 10 7),
    (0x013E000E11A7, .fMin 1 10 7),
    (0x013E000E21A7, .fMax 1 10 7),
    (0x013E000E31A7, .fClip 1 10 7)] :
    List (BitVec 48 × Instr)), decode48 p.1 = some p.2 := by decide

/-- Multiplier (R314 to R316). -/
theorem test_decode_multiplier_1 : ∀ p ∈ ([
    (0x013E001791A7, .mulRn .ssfr 1 10 7),
    (0x013E0014C0A7, .mulMrf .uuf 10 7),
    (0x013E0016E0A7, .mulMrb .usf 10 7),
    (0x013E001981A7, .mulRnAddF .suf 1 10 7),
    (0x013E001BB1A7, .mulRnAddB .ssfr 1 10 7),
    (0x013E0018D0A7, .mulAddF .uufr 10 7),
    (0x013E001AF0A7, .mulAddB .usfr 10 7),
    (0x013E001D81A7, .mulRnSubF .suf 1 10 7),
    (0x013E001FA1A7, .mulRnSubB .ssf 1 10 7)] :
    List (BitVec 48 × Instr)), decode48 p.1 = some p.2 := by decide

/-- Multiplier (R314 to R316). -/
theorem test_decode_multiplier_2 : ∀ p ∈ ([
    (0x013E001CC0A7, .mulSubF .uuf 10 7),
    (0x013E001EF0A7, .mulSubB .usfr 10 7),
    (0x013E00108100, .satRnF .uf 1),
    (0x013E0010B100, .satRnB .sf 1),
    (0x013E0010C000, .satF .uf),
    (0x013E0010F000, .satB .sf),
    (0x013E00118100, .rndRnF false 1),
    (0x013E0011B100, .rndRnB true 1),
    (0x013E0011C000, .rndF false)] :
    List (BitVec 48 × Instr)), decode48 p.1 = some p.2 := by decide

/-- Multiplier (R314 to R316). -/
theorem test_decode_multiplier_3 : ∀ p ∈ ([
    (0x013E0011F000, .rndB true),
    (0x013E00114000, .clrF),
    (0x013E00116000, .clrB),
    (0x013E001301A7, .fMul 1 10 7),
    (0x013E00406B00, .mrGet .mr2b 11),
    (0x013E00411B00, .mrSet .mr1f 11)] :
    List (BitVec 48 × Instr)), decode48 p.1 = some p.2 := by decide

/-- Shifter (R317). -/
theorem test_decode_shifter_1 : ∀ p ∈ ([
    (0x013E002001A7, .lshift 1 10 7),
    (0x013E002201A7, .orLshift 1 10 7),
    (0x013E002041A7, .ashift 1 10 7),
    (0x013E002241A7, .orAshift 1 10 7),
    (0x013E002081A7, .rot 1 10 7),
    (0x013E002C41A7, .bclr 1 10 7),
    (0x013E002C01A7, .bset 1 10 7),
    (0x013E002C81A7, .btgl 1 10 7),
    (0x013E002CC0A7, .btst 10 7)] :
    List (BitVec 48 × Instr)), decode48 p.1 = some p.2 := by decide

/-- Shifter (R317). -/
theorem test_decode_shifter_2 : ∀ p ∈ ([
    (0x013E002441A7, .fdep 1 10 7),
    (0x013E002641A7, .orFdep 1 10 7),
    (0x013E0024C1A7, .fdepSe 1 10 7),
    (0x013E0026C1A7, .orFdepSe 1 10 7),
    (0x013E002401A7, .fext 1 10 7),
    (0x013E002481A7, .fextSe 1 10 7),
    (0x013E002801A0, .exp 1 10),
    (0x013E002841A0, .expEx 1 10),
    (0x013E002881A0, .leftz 1 10)] :
    List (BitVec 48 × Instr)), decode48 p.1 = some p.2 := by decide

/-- Shifter (R317). -/
theorem test_decode_shifter_3 : ∀ p ∈ ([
    (0x013E0028C1A0, .lefto 1 10),
    (0x013E002901A0, .fpack 1 10),
    (0x013E002941A0, .funpack 1 10),
    (0x013E002740A7, .bitdep 10 7),
    (0x013E002501A0, .bitext 1 10),
    (0x013E002581A0, .bitextNu 1 10),
    (0x013E0027C100, .bffwrpSet 1),
    (0x013E00270100, .bffwrpGet 1)] :
    List (BitVec 48 × Instr)), decode48 p.1 = some p.2 := by decide

/-- Shift-immediate (R318), each in an unconditional type 6a word. -/
theorem test_decode_shift_immediate_1 : ∀ p ∈ ([
    (0x023E0000B61A, .lshiftImm 0xb6 1 10),
    (0x023E0008B61A, .orLshiftImm 0xb6 1 10),
    (0x023E0001B61A, .ashiftImm 0xb6 1 10),
    (0x023E0009B61A, .orAshiftImm 0xb6 1 10),
    (0x023E0002B61A, .rotImm 0xb6 1 10),
    (0x023E0031B61A, .bclrImm 0xb6 1 10),
    (0x023E0030B61A, .bsetImm 0xb6 1 10),
    (0x023E0032B61A, .btglImm 0xb6 1 10),
    (0x023E0033B60A, .btstImm 0xb6 10)] :
    List (BitVec 48 × Instr)), decode48 p.1 = some p.2 := by decide

/-- Shift-immediate (R318), each in an unconditional type 6a word. -/
theorem test_decode_shift_immediate_2 : ∀ p ∈ ([
    (0x023E4811B61A, .fdepImm 0x9B6 1 10),
    (0x023E4819B61A, .orFdepImm 0x9B6 1 10),
    (0x023E4813B61A, .fdepSeImm 0x9B6 1 10),
    (0x023E481BB61A, .orFdepSeImm 0x9B6 1 10),
    (0x023E4810B61A, .fextImm 0x9B6 1 10),
    (0x023E4812B61A, .fextSeImm 0x9B6 1 10),
    (0x023E481DB60A, .bitdepImm 0x9B6 10),
    (0x023E4814B610, .bitextImm 0x9B6 1),
    (0x023E4816B610, .bitextNuImm 0x9B6 1)] :
    List (BitVec 48 × Instr)), decode48 p.1 = some p.2 := by decide

/-- Shift-immediate (R318), each in an unconditional type 6a word. -/
theorem test_decode_shift_immediate_3 : ∀ p ∈ ([
    (0x023E001F5B00, .bffwrpImm 0x5b)] :
    List (BitVec 48 × Instr)), decode48 p.1 = some p.2 := by decide

/-- Multifunction (R319 to R321). -/
theorem test_decode_multifunction_1 : ∀ p ∈ ([
    (0x013E00079CA7, .dualAddSub 9 12 10 7),
    (0x013E000F9CA7, .fDualAddSub 9 12 10 7),
    (0x013E0044399E, .mulRmAdd 3 9 0x2 0x1 0x3 0x2),
    (0x013E0045399E, .mulRmSub 3 9 0x2 0x1 0x3 0x2),
    (0x013E0046399E, .mulRmAvg 3 9 0x2 0x1 0x3 0x2),
    (0x013E0048099E, .macFAdd 9 0x2 0x1 0x3 0x2),
    (0x013E0049099E, .macFSub 9 0x2 0x1 0x3 0x2),
    (0x013E004A099E, .macFAvg 9 0x2 0x1 0x3 0x2),
    (0x013E004C399E, .macRmAdd 3 9 0x2 0x1 0x3 0x2)] :
    List (BitVec 48 × Instr)), decode48 p.1 = some p.2 := by decide

/-- Multifunction (R319 to R321). -/
theorem test_decode_multifunction_2 : ∀ p ∈ ([
    (0x013E004D399E, .macRmSub 3 9 0x2 0x1 0x3 0x2),
    (0x013E004E399E, .macRmAvg 3 9 0x2 0x1 0x3 0x2),
    (0x013E0050099E, .msubFAdd 9 0x2 0x1 0x3 0x2),
    (0x013E0051099E, .msubFSub 9 0x2 0x1 0x3 0x2),
    (0x013E0052099E, .msubFAvg 9 0x2 0x1 0x3 0x2),
    (0x013E0054399E, .msubRmAdd 3 9 0x2 0x1 0x3 0x2),
    (0x013E0055399E, .msubRmSub 3 9 0x2 0x1 0x3 0x2),
    (0x013E0056399E, .msubRmAvg 3 9 0x2 0x1 0x3 0x2),
    (0x013E0058399E, .fMulAdd 3 9 0x2 0x1 0x3 0x2)] :
    List (BitVec 48 × Instr)), decode48 p.1 = some p.2 := by decide

/-- Multifunction (R319 to R321). -/
theorem test_decode_multifunction_3 : ∀ p ∈ ([
    (0x013E0059399E, .fMulSub 3 9 0x2 0x1 0x3 0x2),
    (0x013E005A399E, .fMulFloat 3 9 0x2 0x1 0x3 0x2),
    (0x013E005B399E, .fMulFix 3 9 0x2 0x1 0x3 0x2),
    (0x013E005C399E, .fMulAvg 3 9 0x2 0x1 0x3 0x2),
    (0x013E005D399C, .fMulAbs 3 9 0x2 0x1 0x3),
    (0x013E005E399E, .fMulMax 3 9 0x2 0x1 0x3 0x2),
    (0x013E005F399E, .fMulMin 3 9 0x2 0x1 0x3 0x2),
    (0x013E006C399E, .mulDual 12 3 9 0x2 0x1 0x3 0x2),
    (0x013E007C399E, .fMulDual 12 3 9 0x2 0x1 0x3 0x2)] :
    List (BitVec 48 × Instr)), decode48 p.1 = some p.2 := by decide

/-- Encodings that are not assigned: a type code, a reserved BOP, a ureg code, CU = 11, an ALU opcode (R283), a type 9b
word with its bit 9 set (R268). -/
theorem test_decode_refuses : decode48 0x030000000000 = none ∧ decode48 0x1F0000000000 = none ∧
    decode48 0x146400000001 = none ∧ decode48 0x0F6200000000 = none ∧ decode48 0x013E00300000 = none ∧
    decode48 0x013E00003000 = none ∧ decode32 0x08730A3F = none := by decide +kernel

/-- A VISA stream of 32, 16 and 48 bits (96_test_vectors_derived.md 3.7). -/
theorem test_decode_visa_lengths :
    decodeVisa 0x0F85 0x1234 0xC012 = some (.loadImm17b (.r 5) 0x1234, 2) ∧
    decodeVisa 0xC012 0x0000 0x0A3E = some (.shortAdd2c 1 2, 1) ∧
    decodeVisa 0x0A3E 0x0000 0x0000 = some (.rts11a .always false false false .none, 3) := by decide

/-! ## One step of an instruction, against the vectors of the spec -/

/-- The state after reset with MODE1 in force, ASTATx, and R1, R2 and R3. -/
def st (mode1 astat : Word) (x y z : Ext) : State :=
  let s := State.reset.setSys { State.reset.sys with mode1 := .of mode1, astatx := .of astat }
  ((s.setReg .x 1 x).setReg .x 2 y).setReg .x 3 z

/-- What `f` shows of the state that an instruction leaves, if it leaves one. -/
def seen {α : Type} (i : Instr) (s : State) (f : State → α) : Option α :=
  match exec i s with
  | .next t => some (f t)
  | _ => none

/-- Vectors A3 to A65 of 96_test_vectors_derived.md 3.1: result, and AZ, AV, AN, AC, AS, AI, AF. -/
theorem test_alu_fixed_1 : ∀ p ∈ ([
    (.aluAdd 3 1 2, st 0x2000 0x0 0x7FFFFFFF00 0x0000000100 0, 0x7FFFFFFF00, 0x2),
    (.aluAdd 3 1 2, st 0x0 0x0 0x8000000000 0x8000000000 0, 0x0000000000, 0xb),
    (.aluSub 3 1 2, st 0x0 0x0 0x0000000000 0x0000000100 0, 0xFFFFFFFF00, 0x4),
    (.aluSub 3 1 2, st 0x2000 0x0 0x8000000000 0x0000000100 0, 0x8000000000, 0xe),
    (.aluAddCi 3 1 2, st 0x0 0x8 0x7FFFFFFF00 0x0000000000 0, 0x8000000000, 0x6),
    (.aluSubCi 3 1 2, st 0x0 0x0 0x8000000000 0x0000000000 0, 0x7FFFFFFF00, 0xa),
    (.aluAvg 3 1 2, st 0x0 0x0 0x0000000300 0x0000000400 0, 0x0000000400, 0x0),
    (.aluAvg 3 1 2, st 0x8000 0x0 0x0000000300 0x0000000400 0, 0x0000000300, 0x0),
    (.aluIncCi 3 1, st 0x0 0x8 0x7FFFFFFF00 0x0000000000 0, 0x8000000000, 0x6),
    (.aluDecCi 3 1, st 0x0 0x0 0x0000000000 0x0000000000 0, 0xFFFFFFFF00, 0x4)] :
    List (Instr × State × Ext × Word)),
    seen p.1 p.2.1 (fun t => (t.reg .x 3, t.sys.astatx.val &&& 0x43F)) = some p.2.2 := by decide

/-- Vectors A3 to A65 of 96_test_vectors_derived.md 3.1: result, and AZ, AV, AN, AC, AS, AI, AF. -/
theorem test_alu_fixed_2 : ∀ p ∈ ([
    (.aluInc 3 1, st 0x0 0x0 0xFFFFFFFF00 0x0000000000 0, 0x0000000000, 0x9),
    (.aluDec 3 1, st 0x2000 0x0 0x8000000000 0x0000000000 0, 0x8000000000, 0xe),
    (.aluNeg 3 1, st 0x0 0x0 0x8000000000 0x0000000000 0, 0x8000000000, 0x6),
    (.aluNeg 3 1, st 0x0 0x0 0x0000000000 0x0000000000 0, 0x0000000000, 0x9),
    (.aluAbs 3 1, st 0x0 0x0 0xFFFFFFFB00 0x0000000000 0, 0x0000000500, 0x10),
    (.aluAbs 3 1, st 0x2000 0x0 0x8000000000 0x0000000000 0, 0x7FFFFFFF00, 0x12),
    (.aluPass 3 1, st 0x0 0x0 0x8000000000 0x0000000000 0, 0x8000000000, 0x4),
    (.aluAnd 3 1 2, st 0x0 0x0 0xF0F0F0F000 0x0FF00FF000 0, 0x00F000F000, 0x0),
    (.aluOr 3 1 2, st 0x0 0x0 0xF0F0F0F000 0x0FF00FF000 0, 0xFFF0FFF000, 0x4),
    (.aluXor 3 1 2, st 0x0 0x0 0x1234567800 0x1234567800 0, 0x0000000000, 0x1)] :
    List (Instr × State × Ext × Word)),
    seen p.1 p.2.1 (fun t => (t.reg .x 3, t.sys.astatx.val &&& 0x43F)) = some p.2.2 := by decide

/-- Vectors A3 to A65 of 96_test_vectors_derived.md 3.1: result, and AZ, AV, AN, AC, AS, AI, AF. -/
theorem test_alu_fixed_3 : ∀ p ∈ ([
    (.aluNot 3 1, st 0x0 0x0 0x0000000000 0x0000000000 0, 0xFFFFFFFF00, 0x4),
    (.aluMin 3 1 2, st 0x0 0x0 0x8000000000 0x7FFFFFFF00 0, 0x8000000000, 0x4),
    (.aluMax 3 1 2, st 0x0 0x0 0x8000000000 0xFFFFFFFF00 0, 0xFFFFFFFF00, 0x4),
    (.aluClip 3 1 2, st 0x0 0x0 0xFFFFFF9C00 0x0000000A00 0, 0xFFFFFFF600, 0x4)] :
    List (Instr × State × Ext × Word)),
    seen p.1 p.2.1 (fun t => (t.reg .x 3, t.sys.astatx.val &&& 0x43F)) = some p.2.2 := by decide

/-- Vectors A69 and A72: CACC shifts down with the outcome at bit 31. -/
theorem test_alu_compare :
    seen (.aluComp 1 2) (st 0 0xC0000000 0x300 0x700 0) (fun t => t.sys.astatx.val) = some 0x60000004 ∧
    seen (.aluCompu 1 2) (st 0 0 0x8000000000 0x100 0) (fun t => t.sys.astatx.val) = some 0x80000000 := by decide

/-- Vectors of 96_test_vectors_derived.md 3.2: result, and AZ, AV, AN, AC, AS, AI, AF. -/
theorem test_alu_float_1 : ∀ p ∈ ([
    (.fAdd 3 1 2, st 0x10000 0x0 0x3F80000000 0x3440000000 0, 0x3F80000200, 0x400),
    (.fAdd 3 1 2, st 0x10000 0x0 0x0080000000 0x80C0000000 0, 0x8000000000, 0x405),
    (.fSub 3 1 2, st 0x10000 0x0 0x8000000000 0x0000000000 0, 0x8000000000, 0x405),
    (.fSub 3 1 2, st 0x10000 0x0 0x7F80000000 0x7F80000000 0, 0xFFFFFFFF00, 0x424),
    (.fAbsAdd 3 1 2, st 0x10000 0x0 0xC040000000 0x3F80000000 0, 0x4000000000, 0x400),
    (.fAbsSub 3 1 2, st 0x10000 0x0 0x3F80000000 0x4040000000 0, 0x4000000000, 0x400),
    (.fAvg 3 1 2, st 0x10000 0x0 0x3F80000000 0x4000000000 0, 0x3FC0000000, 0x400),
    (.fNeg 3 1, st 0x10000 0x0 0x0000000000 0x0000000000 0, 0x8000000000, 0x405),
    (.fAbs 3 1, st 0x10000 0x0 0xC040000000 0x0000000000 0, 0x4040000000, 0x410),
    (.fPass 3 1, st 0x10000 0x0 0x7FC0000100 0x0000000000 0, 0xFFFFFFFF00, 0x424)] :
    List (Instr × State × Ext × Word)),
    seen p.1 p.2.1 (fun t => (t.reg .x 3, t.sys.astatx.val &&& 0x43F)) = some p.2.2 := by decide

/-- Vectors of 96_test_vectors_derived.md 3.2: result, and AZ, AV, AN, AC, AS, AI, AF. -/
theorem test_alu_float_2 : ∀ p ∈ ([
    (.fScalb 3 1 2, st 0x10000 0x0 0x3FC0000000 0x0000000400 0, 0x41C0000000, 0x400),
    (.fMant 3 1, st 0x10000 0x0 0xC040000000 0x0000000000 0, 0xC000000000, 0x410),
    (.fLogb 3 1, st 0x10000 0x0 0x3F00000000 0x0000000000 0, 0xFFFFFFFF00, 0x404),
    (.fFix 3 1, st 0x18000 0x0 0xC020000000 0x0000000000 0, 0xFFFFFFFD00, 0x404),
    (.fFix 3 1, st 0x10000 0x0 0x4F00000000 0x0000000000 0, 0xFFFFFFFF00, 0x426),
    (.fFixBy 3 1 2, st 0x10000 0x0 0x3F00000000 0x0000001F00 0, 0x4000000000, 0x400),
    (.fTrunc 3 1, st 0x10000 0x0 0xC020000000 0x0000000000 0, 0xFFFFFFFE00, 0x404),
    (.fFloat 3 1, st 0x10000 0x0 0xFFFFFFFF00 0x0000000000 0, 0xBF80000000, 0x404),
    (.fFloatBy 3 1 2, st 0x10000 0x0 0x4000000000 0xFFFFFFE100 0, 0x3F00000000, 0x400),
    (.fRecips 3 1, st 0x10000 0x0 0x8000000000 0x0000000000 0, 0xFF80000000, 0x406)] :
    List (Instr × State × Ext × Word)),
    seen p.1 p.2.1 (fun t => (t.reg .x 3, t.sys.astatx.val &&& 0x43F)) = some p.2.2 := by decide

/-- Vectors of 96_test_vectors_derived.md 3.2: result, and AZ, AV, AN, AC, AS, AI, AF. -/
theorem test_alu_float_3 : ∀ p ∈ ([
    (.fRsqrts 3 1, st 0x10000 0x0 0xC080000000 0x0000000000 0, 0xFFFFFFFF00, 0x420),
    (.fCopysign 3 1 2, st 0x10000 0x0 0x4040000000 0x8000000000 0, 0xC040000000, 0x404),
    (.fMin 3 1 2, st 0x10000 0x0 0x0000000000 0x8000000000 0, 0x8000000000, 0x405),
    (.fMax 3 1 2, st 0x10000 0x0 0x0000000000 0x8000000000 0, 0x0000000000, 0x401),
    (.fClip 3 1 2, st 0x10000 0x0 0xC100000000 0x4000000000 0, 0xC000000000, 0x404),
    (.fRnd 3 1, st 0 0 0x3F80000180 0 0, 0x3F80000200, 0x400),
    (.fAdd 3 1 2, st 0 0 0x3F80000000 0x3380000000 0, 0x3F80000080, 0x400)] :
    List (Instr × State × Ext × Word)),
    seen p.1 p.2.1 (fun t => (t.reg .x 3, t.sys.astatx.val &&& 0x43F)) = some p.2.2 := by decide

/-- Vectors M2, M5, FM2 and FM5: result, and MN, MV, MU, MI. -/
theorem test_multiply : ∀ p ∈ ([
    (.mulRn .ssf 3 1 2, st 0x0 0x0 0x8000000000 0x8000000000 0, 0x8000000000, 0x80),
    (.mulRn .ssf 3 1 2, st 0x0 0x0 0x0000000100 0x0000000100 0, 0x0000000000, 0x100),
    (.fMul 3 1 2, st 0x10000 0x0 0x7F00000000 0x4000000000 0, 0x7F80000000, 0x80),
    (.fMul 3 1 2, st 0x10000 0x0 0x7F80000000 0x0000000000 0, 0xFFFFFFFF00, 0x240)] :
    List (Instr × State × Ext × Word)),
    seen p.1 p.2.1 (fun t => (t.reg .x 3, t.sys.astatx.val &&& 0x3C0)) = some p.2.2 := by decide

/-- The state after reset with R1, R2 and both result registers. -/
def stMr (x y : Word) (f b : Acc) : State := ((st 0 0 x.toExt y.toExt 0).setMr .x false f).setMr .x true b

/-- Vectors of 96_test_vectors_derived.md 3.3: R3, MRF, MRB, and MN, MV, MU, MI. -/
theorem test_multiply_accumulate : ∀ p ∈ ([
    (.mulMrf .ssf 1 2, stMr 0x80000000 0x80000000 0 0, 0x0000000000, 0x00008000000000000000, 0, 0x80),
    (.mulMrb .uui 1 2, stMr 0xffffffff 0xffffffff 0 0, 0x0000000000, 0, 0x0000FFFFFFFE00000001, 0x80),
    (.mulAddF .ssi 1 2, stMr 0x7fffffff 0x2 0x0000000000007FFFFFFF 0, 0x0000000000, 0x0000000000017FFFFFFD, 0, 0x80),
    (.mulAddB .uui 1 2, stMr 0xffffffff 0xffffffff 0 0xFFFFFFFFFFFF00000000, 0x0000000000, 0, 0x0000FFFFFFFD00000001, 0x80),
    (.mulSubF .ssf 1 2, stMr 0x40000000 0x40000000 0 0, 0x0000000000, 0xFFFFE000000000000000, 0, 0x40),
    (.mulSubB .ssfr 1 2, stMr 0x30000 0x8000 0 0, 0x0000000000, 0, 0xFFFFFFFFFFFD00000000, 0x40),
    (.mulRnAddF .ssfr 3 1 2, stMr 0x10000 0x8000 0x00000000000100000000 0, 0x0000000200, 0x00000000000100000000, 0, 0x0),
    (.mulRnSubF .ssi 3 1 2, stMr 0x1 0x1 0 0, 0xFFFFFFFF00, 0, 0, 0x40)] :
    List (Instr × State × Ext × Acc × Acc × Word)),
    seen p.1 p.2.1 (fun t => (t.reg .x 3, t.mr .x false, t.mr .x true, t.sys.astatx.val &&& 0x3C0)) = some p.2.2 := by
  decide

/-- Vectors S2 to S15, and a clearing. -/
theorem test_saturate_round : ∀ p ∈ ([
    (.satF .sf, stMr 0x0 0x0 0xFFFE123456789ABCDEF0 0, 0x0000000000, 0xFFFF8000000000000000, 0, 0x40),
    (.satRnF .sf 3, stMr 0x0 0x0 0x00008000000000000000 0, 0x7FFFFFFF00, 0x00008000000000000000, 0, 0x0),
    (.satB .uf, stMr 0x0 0x0 0 0x00010000000000000005, 0x0000000000, 0, 0x0000FFFFFFFFFFFFFFFF, 0x0),
    (.satRnB .ui 3, stMr 0x0 0x0 0 0x00000000000000000005, 0x0000000500, 0, 0x00000000000000000005, 0x0),
    (.rndF true, stMr 0x0 0x0 0x00000000000280000000 0, 0x0000000000, 0x00000000000200000000, 0, 0x0),
    (.rndRnF true 3, stMr 0x0 0x0 0x00007FFFFFFFC0000000 0, 0x8000000000, 0x00007FFFFFFFC0000000, 0, 0x80),
    (.rndB false, stMr 0x0 0x0 0 0x0000FFFFFFFF80000000, 0x0000000000, 0, 0x00010000000000000000, 0x80),
    (.clrB, stMr 0x0 0x0 0x00010000000000000005 0x00010000000000000005, 0x0000000000, 0x00010000000000000005, 0, 0x0)] :
    List (Instr × State × Ext × Acc × Acc × Word)),
    seen p.1 p.2.1 (fun t => (t.reg .x 3, t.mr .x false, t.mr .x true, t.sys.astatx.val &&& 0x3C0)) = some p.2.2 := by
  decide

/-- The transfers of 46_multiplier.md R640. -/
theorem test_accumulator_transfer :
    seen (.mrGet .mr2b 3) (stMr 0 0 0 0xFFFF8000000000000001) (fun t => t.reg .x 3) = some 0xFFFFFFFF00 ∧
    seen (.mrSet .mr1f 1) (stMr 0x80000000 0 0 0) (fun t => t.mr .x false) = some 0xFFFF8000000000000000 := by decide

/-- Vectors of 96_test_vectors_derived.md 3.4: R3, and SV, SZ, SS. -/
theorem test_shifter_1 : ∀ p ∈ ([
    (.lshift 3 1 2, st 0 0x0 0x0000000F00 0x0000000400 0x0000000000, 0x000000F000, 0x800),
    (.lshift 3 1 2, st 0 0x0 0xFFFFFFFF00 0x0000010000 0x0000000000, 0x0000000000, 0x1800),
    (.orLshift 3 1 2, st 0 0x0 0x000000AB00 0x0000000800 0xFF00000000, 0xFF00AB0000, 0x800),
    (.ashift 3 1 2, st 0 0x0 0x8000000000 0xFFFFFFD800 0x0000000000, 0xFFFFFFFF00, 0x0),
    (.orAshift 3 1 2, st 0 0x0 0x8000000000 0xFFFFFFFC00 0x0000000100, 0xF800000100, 0x0),
    (.rot 3 1 2, st 0 0x0 0x8000000100 0xFFFFFFFF00 0x0000000000, 0xC000000000, 0x0),
    (.bclr 3 1 2, st 0 0x0 0x0000001000 0x0000000400 0x0000000000, 0x0000000000, 0x1000),
    (.bset 3 1 2, st 0 0x0 0x0000000000 0x0000002000 0x0000000000, 0x0000000000, 0x1800),
    (.btgl 3 1 2, st 0 0x0 0x8000000000 0x0000001F00 0x0000000000, 0x0000000000, 0x1000),
    (.btst 1 2, st 0 0x0 0xFFFFFFFF00 0xFFFFFFFF00 0x0000000700, 0x0000000700, 0x1000)] :
    List (Instr × State × Ext × Word)),
    seen p.1 p.2.1 (fun t => (t.reg .x 3, t.sys.astatx.val &&& 0x3800)) = some p.2.2 := by decide

/-- Vectors of 96_test_vectors_derived.md 3.4: R3, and SV, SZ, SS. -/
theorem test_shifter_2 : ∀ p ∈ ([
    (.fdep 3 1 2, st 0 0x0 0xFFFFFFFF00 0x0000021C00 0x0000000000, 0xF000000000, 0x800),
    (.orFdep 3 1 2, st 0 0x0 0x000000AB00 0x0000020800 0xFF0000FF00, 0xFF00ABFF00, 0x0),
    (.fdepSe 3 1 2, st 0 0x0 0x00002ABC00 0x0000038D00 0x0000000000, 0xFD57800000, 0x0),
    (.orFdepSe 3 1 2, st 0 0x0 0x0000008000 0x0000020800 0x0000000100, 0xFFFF800100, 0x0),
    (.fext 3 1 2, st 0 0x0 0xF000000000 0x0000021C00 0x0000000000, 0x0000000F00, 0x800),
    (.fextSe 3 1 2, st 0 0x0 0x0400200000 0x0000038D00 0x0000000000, 0xFFFFE00100, 0x0),
    (.exp 3 1, st 0 0x0 0xC000000000 0x0000000000 0x0000000000, 0xFFFFFFFF00, 0x2000),
    (.leftz 3 1, st 0 0x0 0x0000000000 0x0000000000 0x0000000000, 0x0000002000, 0x800),
    (.lefto 3 1, st 0 0x0 0x7FFFFFFF00 0x0000000000 0x0000000000, 0x0000000000, 0x1000),
    (.fpack 3 1, st 0 0x0 0x4400000000 0x0000000000 0x0000000000, 0x00007FFF00, 0x800)] :
    List (Instr × State × Ext × Word)),
    seen p.1 p.2.1 (fun t => (t.reg .x 3, t.sys.astatx.val &&& 0x3800)) = some p.2.2 := by decide

/-- Vectors of 96_test_vectors_derived.md 3.4: R3, and SV, SZ, SS. -/
theorem test_shifter_3 : ∀ p ∈ ([
    (.fpack 3 1, st 0 0x0 0x3F80180000 0x0000000000 0x0000000000, 0x0000380200, 0x0),
    (.funpack 3 1, st 0 0x0 0x0000000100 0x0000000000 0x0000000000, 0x3700000000, 0x0),
    (.lshiftImm 4 3 1, st 0 0x0 0x0000000F00 0x0000000000 0x0000000000, 0x000000F000, 0x800),
    (.fextImm 0x108 3 1, st 0 0x0 0x1234567800 0x0000000000 0x0000000000, 0x0000000600, 0x0),
    (.expEx 3 1, st 0 0x2 0x4000000000 0x0000000000 0x0000000000, 0x0000000100, 0x2000)] :
    List (Instr × State × Ext × Word)),
    seen p.1 p.2.1 (fun t => (t.reg .x 3, t.sys.astatx.val &&& 0x3800)) = some p.2.2 := by decide

/-- Vectors Q1, Q4, Q6, Q7, Q12 and Q14 of the bit FIFO, and Q8 with (NU): R3, the FIFO, its pointer, SV. -/
theorem test_bit_fifo : ∀ p ∈ ([
    (.bitdep 1 2, (0x2A, 6, 0, 0), 0, 0xA800000000000000, 6, false),
    (.bitdepImm 32 1, (0x12345678, 0, 0xDEADBEEF00000000, 32), 0, 0xDEADBEEF12345678, 64, false),
    (.bitextImm 8 3, (0, 0, 0xDEADBEEF12345678, 64), 0xDE00, 0xADBEEF1234567800, 56, false),
    (.bitextNuImm 8 3, (0, 0, 0xDEADBEEF12345678, 64), 0xDE00, 0xDEADBEEF12345678, 64, false),
    (.bitextNuImm 7 3, (0, 0, 0xA800000000000000, 6), 0x5400, 0xA800000000000000, 6, true),
    (.bffwrpSet 1, (65, 0, 5, 7), 0, 5, 65, true), (.bffwrpGet 3, (0, 0, 5, 31), 0x1F00, 5, 31, false)] :
    List (Instr × (Word × Word × Long × BitVec 7) × Ext × Long × BitVec 7 × Bool)),
    seen p.1 ((st 0 0 p.2.1.1.toExt p.2.1.2.1.toExt 0).setFifo .x p.2.1.2.2.1 p.2.1.2.2.2)
      (fun t => (t.reg .x 3, t.pex.bff, t.pex.bffwrp, t.sys.astatx.val.getLsbD 11)) = some p.2.2 := by decide

/-- Vector Q8: R3 and SV of an extract of more bits than the FIFO holds. -/
theorem test_bit_fifo_short :
    seen (.bitext 3 4) (((st 0 0 0 0 0).setReg .x 4 0x700).setFifo .x 0xA800000000000000 6)
      (fun t => (t.reg .x 3, t.sys.astatx.val.getLsbD 11)) = some (0x5400, true) := by decide

/-- Registers of PEx set one after another. -/
def regs (l : List (RegNum × Ext)) (s : State) : State := l.foldl (fun s p => s.setReg .x p.1 p.2) s

/-- Vectors X3, X9, X10, X11 and X12: R0, R2, R3, R8, and AZ, AN, AV, AC, AF. -/
theorem test_multifunction : ∀ p ∈ ([
    (.dualAddSub 0 3 1 2, [(1, 0x7FFFFFFF00), (2, 0x100)], [0x8000000000, 0x100, 0x7FFFFFFE00, 0], 0xE),
    (.macFSub 8 0 0 0 0, [(0, 0x4000000000), (4, 0x4000000000), (8, 0x500), (12, 0x500)], [0x4000000000, 0, 0, 0], 9),
    (.mulDual 3 0 2 1 0 0 0, [(1, 0x4000000000), (4, 0x2000000000), (8, 0x700), (12, 0x200)],
      [0x1000000000, 0x900, 0x500, 0x700], 8),
    (.fMulDual 3 0 2 1 0 0 0, [(1, 0x4000000000), (4, 0x3F00000000), (8, 0x4040000000), (12, 0x3F80000000)],
      [0x3F80000000, 0x4080000000, 0x4000000000, 0x4040000000], 0x400),
    (.mulRmAdd 2 2 1 1 1 1, [(1, 0x4000000000), (5, 0x4000000000), (9, 0x100), (13, 0x200)], [0, 0x300, 0, 0], 0)] :
    List (Instr × List (RegNum × Ext) × List Ext × Word)),
    seen p.1 (regs p.2.1 State.reset)
      (fun t => ([t.reg .x 0, t.reg .x 2, t.reg .x 3, t.reg .x 8], t.sys.astatx.val &&& 0x43F)) = some p.2.2 := by decide

/-- The state after reset with an index register set up for a circular buffer, and circular buffering as said. -/
def stDag (n : RegNum) (i m b l : Word) (cbuf : Bool) : State :=
  let s := State.reset.setSys { State.reset.sys with mode1 := .of (if cbuf then 0x01000000 else 0) }
  s.setDagOf n { i := s.dag.i.set n.toNat i, m := s.dag.m.set n.toNat m, l := s.dag.l.set n.toNat l
                 b := s.dag.b.set n.toNat b }

/-- Vectors G1, G4, G6 and G8 of the post-modify: circular buffers and, with buffering off, none. -/
theorem test_circular :
    seen (.memDreg3c 3 3 false 1) (stDag 3 0xB8002 2 0xB8000 4 true) (fun t => t.ireg 3) = some 0xB8000 ∧
    seen (.memDreg3c 3 3 false 1) (stDag 3 0xB8003 1 0xB8000 4 false) (fun t => t.ireg 3) = some 0xB8004 ∧
    seen (.memDreg3c 3 3 false 1) (stDag 3 0xB8001 (-3) 0xB8000 8 true) (fun t => t.ireg 3) = some 0xB8006 ∧
    seen (.memDreg3c 3 3 false 1) (stDag 3 0xB8100 304 0xB8000 0x200 true) (fun t => t.ireg 3) = some 0xB8030 := by
  decide

/-- Vectors G9 and G10: CB7S, and MODIFY without it. -/
theorem test_circular_overflow :
    seen (.memDreg3c 7 7 false 1) (stDag 7 0xB9E7F 1 0xB9E00 0x80 true) (fun t => t.ireg 7) = some 0xB9E00 ∧
    seen (.memDreg3c 7 7 false 1) (stDag 7 0xB9E7F 1 0xB9E00 0x80 true) (fun t => t.sys.stkyx.val) = some 0x20000 ∧
    seen (.modifyImm19a false 0 7 1) (stDag 7 0xB9E7F 1 0xB9E00 0x80 false) (fun t => t.ireg 7) = some 0xB9E00 ∧
    seen (.modifyImm19a false 0 7 1) (stDag 7 0xB9E7F 1 0xB9E00 0x80 false) (fun t => t.sys.stkyx.val) = some 0 := by
  decide

set_option maxRecDepth 10000 in
/-- Vector G14. -/
theorem test_bitrev :
    seen (.bitrev19a false 3 1 122) (stDag 1 1 0 0 0 false) (fun t => t.ireg 2) = some 0xDE000000 := by decide

/-- Vectors G17, G23, G24, G25 and G26 of long words and short words. -/
theorem test_widths :
    seen (.memDirect14a false true true (.r 0) 0x98000) (regs [(0, 0x11111111AA), (1, 0x22222222BB)] State.reset)
      (fun t => (wordAt t 0x98000, wordAt t 0x98001)) = some (0x11111111, 0x22222222) ∧
    seen (.memDirect14a false true false (.sys .ustat1) 0x4C000)
      (State.reset.setSys { State.reset.sys with ustat1 := 0xA1, ustat2 := 0xB2 })
      (fun t => (wordAt t 0x98000, wordAt t 0x98001)) = some (0xA1, 0xB2) ∧
    seen (.memDirect14a false true false (.r 0) 0x130001) (regs [(0, 0xAAAA123400)] State.reset)
      (fun t => wordAt t 0x98000) = some 0x12340000 ∧
    seen (.memDirect14a false false false (.r 0) 0x130001) (State.reset.setMem (write32 [] 0x130000 0x82340000))
      (fun t => t.reg .x 0) = some 0x823400 := by decide

/-- The state after reset at an address. -/
def stAt (pc : Addr24) : State := State.reset.setSeq { State.reset.seq with pc := pc }

/-- Vectors W1 and W12: a delayed call pushes the third address, CJUMP keeps the frame pointer. -/
theorem test_calls :
    seen (.callDirect8a false .always true false 0x90200) (stAt 0x90100)
      (fun t => (t.seq.pcstkp.val, pcEntryAt t 1, t.scratch.dbReq)) = some (1, 0x1090103, some 0x90200) ∧
    seen (.cjumpDirect25a 0x90400) ((stAt 0x90100).setDagOf 6 { (stAt 0x90100).dag with i := ((stAt 0x90100).dag.i.set 6 0xB9F00).set 7 0xB9E80 })
      (fun t => (t.reg .x 2, t.ireg 6, t.scratch.dbReq)) = some (0xB9F0000, 0xB9E80, some 0x90400) := by decide

/-- Vector W5: what `LCNTR=3, DO (PC,2) UNTIL LCE` leaves on the stacks. -/
theorem test_do_until :
    seen (.doImm12a 3 2) (stAt 0x90020) (fun t => (pcEntryAt t 1, t.laddr, t.curlcntr)) =
      some (0x090021, 0x8F090022, 3) := by decide

/-- Vector W14 and 43_group4_misc.md R480: PUSH STS, and BIT SET as an explicit write that acts a step later. -/
theorem test_status :
    seen .pushSts20a (st 0x1000 5 0 0 0) (fun t => (t.seq.sts, t.sys.mode1.val)) = some ([⟨0x1000, 5, 0⟩], 0x1000) ∧
    seen (.bitSet18a .mode1 0x2000) (st 0x1000 0 0 0 0) (fun t => (t.sys.mode1.eff, t.sys.mode1.wr)) =
      some (0x1000, some 0x3000) := by decide

/-! ## Steps of the machine -/

/-- What `f` shows of the state after one step from a state in which a 48-bit word is placed at the PC. -/
def stepped {α : Type} (s : State) (w : Nat) (f : State → α) : Option α :=
  match step (s.withFetchWord 48 w) with
  | .next t => some (f t)
  | _ => none

set_option maxRecDepth 10000 in
/-- `R3 = R1 + R2` and `JUMP 0x12345` as the first instruction after reset. -/
theorem test_step_first :
    stepped (st 0 0 0x500 0x300 0) 0x013E00001312 (fun t => (t.reg .x 3, t.seq.pc)) =
      some (0x800, State.reset.seq.pc + 1) ∧
    stepped State.reset 0x063E00012345 (fun t => t.seq.pc) = some 0x12345 := by decide

/-- The state after reset with the timer enabled, at a count, with a period of 9. -/
def stTimer (count : Word) : State :=
  { State.reset.setSys { State.reset.sys with mode2 := .of 0x20 } with tcount := count, tperiod := 9 }

set_option maxRecDepth 10000 in
/-- The timer of 60_exceptions.md R795: at 1 it reaches 0, drives TMREXP high and latches both interrupts, from 0 it
reloads. -/
theorem test_step_timer :
    (stepped (stTimer 1) 0 (fun t => t.tmrexp) = some true ∧ stepped (stTimer 0) 0 (fun t => t.tmrexp) = some false) ∧
    stepped (stTimer 1) 0 (fun t => t.tcount) = some 0 ∧ stepped (stTimer 1) 0 (fun t => t.sys.irptl.val) = some 0x00400010 ∧
    stepped (stTimer 0) 0 (fun t => t.tcount) = some 9 := by decide

/-- The state after reset with the timer interrupt latched and unmasked, SIMD mode on and interrupts enabled. -/
def stIrq : State :=
  State.reset.setSys { State.reset.sys with mode1 := .of 0x00201000, irptl := .of 0x10, imask := .of 0x13 }

set_option maxRecDepth 10000 in
/-- Vector T2: the entry of the timer interrupt. -/
theorem test_step_interrupt :
    stepped stIrq 0 (fun t => t.seq.pc) = some 0x80010 ∧ stepped stIrq 0 (fun t => pcEntryAt t 1) = some 0x2080004 ∧
    stepped stIrq 0 (fun t => t.sys.mode1.val) = some 0x1000 ∧ stepped stIrq 0 (fun t => t.sys.imaskp.val) = some 0x10 ∧
    stepped stIrq 0 (fun t => t.sys.irptl.val) = some 0 := by decide

set_option maxRecDepth 10000 in
/-- Bit 7 of IRPTL is reserved: a written 1 is stored, and no interrupt follows (10_state.md R53, 60_exceptions.md R788). -/
theorem test_step_reserved_interrupt :
    stepped State.reset 0x0F7A00000083 (fun t => t.sys.irptl.val) = some 0x80 ∧
    stepped (State.reset.setSys { State.reset.sys with
      mode1 := .of 0x1800, irptl := .of 0x90, imask := .of 0x93, imaskp := .of 0x80 }) 0 (fun t => t.seq.pc) =
      some 0x80010 := by decide

/-- A jump whose condition EQ fails counts as aborted, with an ELSE compute too (60_exceptions.md R786); JUMP (CI) out of
BKPI clears the breakpoint status bits of EEMUSTAT (R764, 10_state.md R84). -/
theorem test_jump_aborted :
    seen (.jumpRel9a false (.is .eq) 1 false true false (.fix2 .add 1 2 3)) State.reset (fun t => t.scratch.aborted) =
      some true ∧
    seen (.jumpDirect8a false .always false true 0x90000)
      ((State.reset.setSys { State.reset.sys with imaskp := .of 0x40 }).setIop { State.reset.iop with eemustat := 0x1FFFF })
      (fun t => (t.iop.eemustat, t.sys.imaskp.val, t.scratch.aborted)) = some (0xFF00, 0, false) := by decide

/-- IDLE in the second delay slot leaves the delayed branch pending (43_group4_misc.md R500). -/
theorem test_step_idle_in_slot :
    stepped (State.reset.setSeq { State.reset.seq with db := some ⟨0x98000, 1⟩ }) 0x008000000000
      (fun t => (t.seq.pc, t.seq.db, t.seq.idle)) = some (0x80005, some ⟨0x98000, 1⟩, true) := by decide +kernel

/-- A delayed JUMP in the first delay slot takes the place of the pending one, with one slot to go
(41_group2_program_flow.md R406 item 1). -/
theorem test_step_branch_in_slot :
    stepped (State.reset.setSeq { State.reset.seq with db := some ⟨0x98000, 2⟩ }) 0x063E04012345
      (fun t => (t.seq.pc, t.seq.db)) = some (0x80005, some ⟨0x12345, 1⟩) := by decide +kernel

/-- A CALL in a step that finds its loop expired pushes bit 25 with the call bit (10_state.md R45). -/
theorem test_call_at_loop_end :
    seen (.callDirect8a false .always false false 0x90200)
      ((stAt 0x90100).setScratch { Scratch.none with loopEnded := true }) (fun t => pcEntryAt t 1) = some 0x3090101 := by decide

/-- A register of a peripheral is written by the platform (20_memory.md R195). -/
theorem test_peripheral :
    seen (.memDirect14a false true false (.r 1) 0x30000) (st 0 0 0x1234567800 0 0) (fun t => t.platform.access) =
      some (some ⟨0x30000, some 0x12345678⟩) := by decide +kernel

/-- A broadcast load of IOP space whose condition holds in PEy alone is a read that the platform sees, but no explicit
transfer, which would set IIRA (20_memory.md R173, R195; 40_group1_compute_move.md R353). -/
theorem test_broadcast_peripheral :
    let s := State.reset.setSys { State.reset.sys with mode1 := .of 0xA00000, mode2 := .of 0x100000, astaty := .of 1 }
    seen (.memUreg3b true 1 0 (.is .eq) false false false (.r 2))
      (s.setDagOf 1 { s.dag with i := s.dag.i.set 1 0x30000 })
      (fun t => (t.platform.access, t.sys.stkyx.val, t.scratch.events)) = some (some ⟨0x30000, none⟩, 0, 0) := by
  decide +kernel

/-! ## Witnesses: states and operands that meet the hypotheses of each statement, clause by clause at its boundaries -/

/-- `DecodeEncode`: well-formed instructions of 48, 32 and 16 bits with operands at their greatest values. -/
theorem witness_DecodeEncode :
    (Instr.loadImm17a (.r 15) 0xFFFFFFFF).wellFormed = true ∧
    encode (.loadImm17a (.r 15) 0xFFFFFFFF) = .w48 0x0F0FFFFFFFFF ∧
    (Instr.loadImm17b (.r 15) 0xFFFF).wellFormed = true ∧ encode (.loadImm17b (.r 15) 0xFFFF) = .w32 0x0F8FFFFF ∧
    (Instr.shortAdd2c 15 15).wellFormed = true ∧ encode (.shortAdd2c 15 15) = .w16 0xC0FF := by decide

/-- SIMD mode, in which the statements about computes speak of PEy too. -/
theorem witness_simd : (st 0x200000 0 1 2 3).simd = true ∧ (st 0 0 1 2 3).simd = false := by decide

/-- The value of a pattern from its sign, mantissa and exponent. -/
theorem fpVal_parts (v : Ext) (m e : Nat) (sg : Bool) (h : fpSign v = sg ∧ fpMant v = m ∧ fpExp v = e) :
    fpVal v = (if sg then -1 else 1) * (m : ℚ) * (2 : ℚ) ^ ((e : Int) - 158) := by
  obtain ⟨rfl, rfl, rfl⟩ := h
  rfl

/-- The values of the patterns that the witnesses use: 1, 1.5, -1.5, the powers of two at the ends of the normal range,
the greatest number. -/
theorem fpVal_consts : fpVal 0x3F80000000 = 1 ∧ fpVal 0x3FC0000000 = 3 / 2 ∧ fpVal 0xBFC0000000 = -(3 / 2) ∧ fpVal 0 = 0 ∧
    fpVal 0x0080000000 = 1 / 2 ^ 126 ∧ fpVal 0x80C0000000 = -(3 / 2 ^ 127) ∧ fpVal 0x7F00000000 = 2 ^ 127 ∧
    fpVal 0x7F7FFFFF00 = 2 ^ 128 - 2 ^ 104 ∧ fpVal 0x4F00000000 = 2 ^ 31 ∧ fpVal 0xCEFFFFFF00 = -(2 ^ 31 - 2 ^ 7) := by
  refine ⟨?_, ?_, ?_, ?_, ?_, ?_, ?_, ?_, ?_, ?_⟩
  · rw [fpVal_parts _ 0x80000000 127 false (by decide)]; norm_num
  · rw [fpVal_parts _ 0xC0000000 127 false (by decide)]; norm_num
  · rw [fpVal_parts _ 0xC0000000 127 true (by decide)]; norm_num
  · rw [fpVal_parts _ 0 0 false (by decide)]; norm_num
  · rw [fpVal_parts _ 0x80000000 1 false (by decide)]; norm_num
  · rw [fpVal_parts _ 0xC0000000 1 true (by decide)]; norm_num
  · rw [fpVal_parts _ 0x80000000 254 false (by decide)]; norm_num
  · rw [fpVal_parts _ 0xFFFFFF00 254 false (by decide)]; norm_num
  · rw [fpVal_parts _ 0x80000000 158 false (by decide)]; norm_num
  · rw [fpVal_parts _ 0xFFFFFF00 157 true (by decide)]; norm_num

/-- `FloatAddSubtract`: finite operands whose sum is the least normal number, is 2 to the power 128, underflows, or is 0;
the pair of negative zeros. -/
theorem witness_FloatAddSubtract :
    let s (x y : Ext) := st 0x10000 0 x y 0
    let a (x y : Ext) := fpOperand (s x y) .x 1
    let b (x y : Ext) := fpOperand (s x y) .x 2
    (let f (x y : Ext) : Prop := fpExp (a x y) ≠ 255 ∧ fpExp (b x y) ≠ 255
     f 0x0080000000 0 ∧ f 0x7F00000000 0x7F00000000 ∧ f 0x0080000000 0x80C0000000 ∧ f 0x8000000000 0x8000000000) ∧
    fpNormal (fpVal (a 0x0080000000 0) + fpVal (b 0x0080000000 0)) ∧
    2 ^ 128 ≤ |fpVal (a 0x7F00000000 0x7F00000000) + fpVal (b 0x7F00000000 0x7F00000000)| ∧
    (fpVal (a 0x0080000000 0x80C0000000) + fpVal (b 0x0080000000 0x80C0000000) ≠ 0 ∧
      |fpVal (a 0x0080000000 0x80C0000000) + fpVal (b 0x0080000000 0x80C0000000)| <
        (2 : ℚ) ^ (-126 : Int) - (2 : ℚ) ^ (-150 : Int)) ∧
    (a 0x8000000000 0x8000000000, b 0x8000000000 0x8000000000) = (fpZeroOf true, fpZeroOf true) := by
  have e : fpOperand (st 0x10000 0 0x0080000000 0 0) .x 1 = 0x0080000000 ∧
      fpOperand (st 0x10000 0 0x0080000000 0 0) .x 2 = 0 ∧
      fpOperand (st 0x10000 0 0x7F00000000 0x7F00000000 0) .x 1 = 0x7F00000000 ∧
      fpOperand (st 0x10000 0 0x7F00000000 0x7F00000000 0) .x 2 = 0x7F00000000 ∧
      fpOperand (st 0x10000 0 0x0080000000 0x80C0000000 0) .x 1 = 0x0080000000 ∧
      fpOperand (st 0x10000 0 0x0080000000 0x80C0000000 0) .x 2 = 0x80C0000000 := by decide
  obtain ⟨e1, e2, e3, e4, e5, e6⟩ := e
  obtain ⟨-, -, -, v0, v1, v2, v3, -⟩ := fpVal_consts
  refine ⟨by decide, ?_, ?_, ?_, by decide⟩
  · simp only [e1, e2, v0, v1, fpNormal]; norm_num [abs_of_pos]
  · simp only [e3, e4, v3]; norm_num [abs_of_pos]
  · simp only [e5, e6, v1, v2]; norm_num [abs_of_neg, abs_div]

/-- `FloatMultiply`: finite operands, and a product that is a zero with a sign, the greatest number, 2 to the power 128, or
far below the normal numbers. -/
theorem witness_FloatMultiply :
    let s (x y : Ext) := st 0x10000 0 x y 0
    let a (x y : Ext) := fpOperand (s x y) .x 1
    let b (x y : Ext) := fpOperand (s x y) .x 2
    let q (x y : Ext) := fpVal (a x y) * fpVal (b x y)
    (let f (x y : Ext) : Prop := fpExp (a x y) ≠ 255 ∧ fpExp (b x y) ≠ 255
     f 0x7F7FFFFF00 0x3F80000000 ∧ f 0x7F00000000 0x7F00000000 ∧ f 0x0080000000 0x0080000000 ∧ f 0 0xBFC0000000) ∧
    fpNormal (q 0x7F7FFFFF00 0x3F80000000) ∧ 2 ^ 128 ≤ |q 0x7F00000000 0x7F00000000| ∧
    (q 0x0080000000 0x0080000000 ≠ 0 ∧ |q 0x0080000000 0x0080000000| < (2 : ℚ) ^ (-126 : Int) - (2 : ℚ) ^ (-150 : Int)) ∧
    q 0 0xBFC0000000 = 0 := by
  have e : fpOperand (st 0x10000 0 0x7F7FFFFF00 0x3F80000000 0) .x 1 = 0x7F7FFFFF00 ∧
      fpOperand (st 0x10000 0 0x7F7FFFFF00 0x3F80000000 0) .x 2 = 0x3F80000000 ∧
      fpOperand (st 0x10000 0 0x7F00000000 0x7F00000000 0) .x 1 = 0x7F00000000 ∧
      fpOperand (st 0x10000 0 0x7F00000000 0x7F00000000 0) .x 2 = 0x7F00000000 ∧
      fpOperand (st 0x10000 0 0x0080000000 0x0080000000 0) .x 1 = 0x0080000000 ∧
      fpOperand (st 0x10000 0 0x0080000000 0x0080000000 0) .x 2 = 0x0080000000 ∧
      fpOperand (st 0x10000 0 0 0xBFC0000000 0) .x 1 = 0 := by decide
  obtain ⟨e1, e2, e3, e4, e5, e6, e7⟩ := e
  obtain ⟨w1, -, -, v0, v1, -, v3, v4, -⟩ := fpVal_consts
  refine ⟨by decide, ?_, ?_, ?_, ?_⟩
  · simp only [e1, e2, v4, w1, fpNormal]; norm_num [abs_of_pos]
  · simp only [e3, e4, v3]; norm_num [abs_of_pos]
  · simp only [e5, e6, v1]; norm_num [abs_of_pos, abs_div]
  · simp only [e7, v0]; norm_num

/-- `FloatSpecialValues`: a NAN with the least fraction, infinities of both signs beside a finite number, an equal and an
opposite infinity, a zero. -/
theorem witness_FloatSpecialValues :
    let x (v w : Ext) := fpOperand (st 0 0 v w 0) .x 1
    let y (v w : Ext) := fpOperand (st 0 0 v w 0) .x 2
    fpNan (x 0x7F80000001 0) = true ∧ (fpInf (x 0xFF80000000 0x7F7FFFFFFF) = true ∧ fpExp (y 0xFF80000000 0x7F7FFFFFFF) ≠ 255) ∧
    (fpInf (x 0x7F80000000 0x7F80000000) = true ∧ y 0x7F80000000 0x7F80000000 = x 0x7F80000000 0x7F80000000) ∧
    (fpInf (x 0x7F80000000 0xFF80000000) = true ∧ y 0x7F80000000 0xFF80000000 = fpNegate (x 0x7F80000000 0xFF80000000)) ∧
    (fpInf (y 0x8000000000 0xFF80000000) = true ∧ fpExp (x 0x8000000000 0xFF80000000) ≠ 255 ∧
      fpZero (x 0x8000000000 0xFF80000000) = true) ∧
    (fpInf (x 0x7F80000000 0x0080000000) = true ∧ fpZero (y 0x7F80000000 0x0080000000) = false ∧
      fpNan (y 0x7F80000000 0x0080000000) = false) := by decide

/-- `Compares` and `FloatSelect`: two finite operands, one infinity on either side, two, a NAN, two zeros. -/
theorem witness_Compares_FloatSelect :
    let x (v w : Ext) := fpOperand (st 0 0 v w 0) .x 1
    let y (v w : Ext) := fpOperand (st 0 0 v w 0) .x 2
    (fpExp (x 0x0080000000 0xFF7FFFFFFF) ≠ 255 ∧ fpExp (y 0x0080000000 0xFF7FFFFFFF) ≠ 255 ∧
      fpNan (x 0x0080000000 0xFF7FFFFFFF) = false ∧ fpNan (y 0x0080000000 0xFF7FFFFFFF) = false) ∧
    (fpInf (x 0xFF80000000 0) = true ∧ fpExp (y 0xFF80000000 0) ≠ 255 ∧ fpNan (x 0xFF80000000 0) = false) ∧
    (fpExp (x 0 0x7F80000000) ≠ 255 ∧ fpInf (y 0 0x7F80000000) = true ∧ fpNan (y 0 0x7F80000000) = false) ∧
    (fpNan (x 0 0xFF80000001) || fpNan (y 0 0xFF80000001)) = true ∧
    (fpInf (x 0xFF80000000 0x7F80000000) = true ∧ fpInf (y 0xFF80000000 0x7F80000000) = true) ∧
    (fpZero (x 0 0x8000000000) = true ∧ fpZero (y 0 0x8000000000) = true) := by decide

/-- `FloatConvert`: a finite operand whose scaled value is within 31 bits, just below 2 to the power 31 and at it, an
infinity, and the integer 0. -/
theorem witness_FloatConvert :
    let x (v : Ext) := fpOperand (st 0 0 v 0 0) .x 1
    (fpFinite (x 0xCEFFFFFF00) ∧ |fpVal (x 0xCEFFFFFF00) * (2 : ℚ) ^ (0 : Int)| ≤ 2 ^ 31 - 1) ∧
    (fpFinite (x 0x4F00000000) ∧ 2 ^ 31 ≤ |fpVal (x 0x4F00000000) * (2 : ℚ) ^ (0 : Int)|) ∧
    fpInf (x 0xFF80000000) = true ∧ (st 0 0 0 0 0).reg32 .x 1 = 0 ∧
    fpNormal (((st 0 0 0x0000000100 0xFFFFFF8200 0).reg32 .x 1).toInt *
      (2 : ℚ) ^ ((st 0 0 0x0000000100 0xFFFFFF8200 0).reg32 .x 2).toInt) := by
  have e : fpOperand (st 0 0 0xCEFFFFFF00 0 0) .x 1 = 0xCEFFFFFF00 ∧ fpOperand (st 0 0 0x4F00000000 0 0) .x 1 = 0x4F00000000 ∧
      ((st 0 0 0x0000000100 0xFFFFFF8200 0).reg32 .x 1).toInt = 1 ∧
      ((st 0 0 0x0000000100 0xFFFFFF8200 0).reg32 .x 2).toInt = -126 := by decide
  obtain ⟨e1, e2, e3, e4⟩ := e
  obtain ⟨-, -, -, -, -, -, -, -, v8, v9⟩ := fpVal_consts
  refine ⟨⟨by show fpExp _ ≠ 255; decide, ?_⟩, ⟨by show fpExp _ ≠ 255; decide, ?_⟩, by decide, by decide, ?_⟩
  · simp only [e1, v9]; rw [abs_of_neg] <;> norm_num
  · simp only [e2, v8]; norm_num [abs_of_pos]
  · simp only [e3, e4, fpNormal]; norm_num [abs_of_pos]

/-- `FloatScale`: an operand that is no zero, scaled to the least normal number, to 2 to the power 128 and below; a zero,
an infinity. -/
theorem witness_FloatScale :
    let s (k : Ext) := st 0 0 0x3F80000000 k 0
    let q (k : Ext) : ℚ := fpVal (fpOperand (s k) .x 1) * (2 : ℚ) ^ ((s k).reg32 .x 2).toInt
    (fpFinite (fpOperand (s 0) .x 1) ∧ fpZero (fpOperand (s 0) .x 1) = false) ∧
    ((2 : ℚ) ^ (-126 : Int) ≤ |q 0xFFFFFF8200| ∧ |q 0xFFFFFF8200| < 2 ^ 128) ∧ 2 ^ 128 ≤ |q 0x0000008000| ∧
    |q 0xFFFFFF8100| < (2 : ℚ) ^ (-126 : Int) ∧ fpZero (fpOperand (st 0 0 0x8000000000 0 0) .x 1) = true ∧
    fpInf (fpOperand (st 0 0 0xFF80000000 0 0) .x 1) = true := by
  have e : fpOperand (st 0 0 0x3F80000000 0xFFFFFF8200 0) .x 1 = 0x3F80000000 ∧
      fpOperand (st 0 0 0x3F80000000 0x8000 0) .x 1 = 0x3F80000000 ∧
      fpOperand (st 0 0 0x3F80000000 0xFFFFFF8100 0) .x 1 = 0x3F80000000 := by decide
  have f : ((st 0 0 0x3F80000000 0xFFFFFF8200 0).reg32 .x 2).toInt = -126 ∧
      ((st 0 0 0x3F80000000 0x0000008000 0).reg32 .x 2).toInt = 128 ∧
      ((st 0 0 0x3F80000000 0xFFFFFF8100 0).reg32 .x 2).toInt = -127 := by decide
  obtain ⟨v, -⟩ := fpVal_consts
  refine ⟨⟨by unfold fpFinite; decide, by decide⟩, ?_, ?_, ?_, by decide, by decide⟩
  · simp only [e.1, f.1, v]; norm_num [abs_of_pos]
  · simp only [e.2.1, f.2.1, v]; norm_num
  · simp only [e.2.2, f.2.2, v]; norm_num [abs_of_pos]

/-- `FloatSeeds`: a zero, the exponents 252 and 253, the positive infinity, a negative and a positive operand. -/
theorem witness_FloatSeeds :
    let x (v : Ext) := fpOperand (st 0 0 v 0 0) .x 1
    fpZero (x 0x8000000000) = true ∧ (fpZero (x 0x7E7FFFFFFF) = false ∧ fpExp (x 0x7E7FFFFFFF) ≤ 252) ∧
    (fpNan (x 0x7E80000000) = false ∧ 252 < fpExp (x 0x7E80000000)) ∧ x 0x7F80000000 = fpInfOf false ∧
    (fpSign (x 0x8080000000) = true ∧ fpZero (x 0x8080000000) = false) ∧
    (fpSign (x 0x0080000000) = false ∧ fpZero (x 0x0080000000) = false ∧ fpExp (x 0x0080000000) ≠ 255) := by decide

/-- `LeadingBitsAndShortFloats`: the exponents 109 and 110, and values on both sides of 512 - 2⁻⁴. -/
theorem witness_LeadingBitsAndShortFloats :
    let x (v : Ext) : Ext := Word.toExt ((st 0 0 v 0 0).reg32 .x 1)
    fpExp (x 0x36FFFFFF00) ≤ 109 ∧
    (110 ≤ fpExp (x 0x3700000000) ∧ |fpVal (x 0x3700000000)| < 512 - (2 : ℚ) ^ (-4 : Int)) ∧
    (110 ≤ fpExp (x 0x43FFF7FF00) ∧ |fpVal (x 0x43FFF7FF00)| < 512 - (2 : ℚ) ^ (-4 : Int)) ∧
    512 - (2 : ℚ) ^ (-4 : Int) ≤ |fpVal (x 0x43FFF80000)| := by
  have e : Word.toExt ((st 0 0 0x3700000000 0 0).reg32 .x 1) = 0x3700000000 ∧
      Word.toExt ((st 0 0 0x43FFF7FF00 0 0).reg32 .x 1) = 0x43FFF7FF00 ∧
      Word.toExt ((st 0 0 0x43FFF80000 0 0).reg32 .x 1) = 0x43FFF80000 := by decide
  refine ⟨by decide, ⟨by decide, ?_⟩, ⟨by decide, ?_⟩, ?_⟩
  · simp only [e.1]
    rw [fpVal_parts _ 0x80000000 110 false (by decide)]; norm_num [abs_of_pos]
  · simp only [e.2.1]
    rw [fpVal_parts _ 0xFFF7FF00 135 false (by decide)]; norm_num [abs_of_pos]
  · simp only [e.2.2]
    rw [fpVal_parts _ 0xFFF80000 135 false (by decide)]; norm_num [abs_of_pos]

/-- `BitFifo`: a deposit of 32 bits that just fits, and an extract of all 32 valid bits. -/
theorem witness_BitFifo :
    let s := (st 0 0 5 0x2000 0).setFifo .x 0xDEADBEEF00000000 32
    ((s.reg32 .x 2).toNat % 64 ≤ 32 ∧ (s.pe .x).bffwrp.toNat + (s.reg32 .x 2).toNat % 64 ≤ 64) ∧
    ((s.reg32 .x 2).toNat % 64 ≤ (s.pe .x).bffwrp.toNat ∧ (s.pe .x).bffwrp.toNat ≤ 64) := by decide

/-- `DualAddSubtract`, `FixedMultifunction` and `FloatMultifunction`: two result registers; `ComputeFrames` and
`ConditionalComputes`: a well-formed compute that is not the empty one. -/
theorem witness_computes :
    (0 : RegNum) ≠ 15 ∧ Compute.mulDualFlt 15 0 0 3 3 3 3 ≠ .none ∧ (Compute.mulDualFlt 15 0 0 3 3 3 3).wellFormed = true ∧
      Compute.none.wellFormed = true := by decide

/-- `FalseCondition`: after reset the condition EQ holds in neither element, of a branch or not. -/
theorem witness_FalseCondition :
    (gates State.reset false (.is .eq)).any = false ∧ (gates State.reset true (.is .eq)).any = false ∧
    (gates (st 0x200000 0 0 0 0) false (.is .eq)).any = false ∧ (gates (st 0x200000 0 0 0 0) true (.is .eq)).any = false := by
  decide

/-- The answer that is a next state. -/
def out {α : Type} : Res α → Option α
  | .next a => some a
  | _ => none

theorem of_out {α : Type} {o : Res α} {a : α} (h : out o = some a) : o = .next a := by
  cases o with
  | next b => exact congrArg _ (Option.some.inj h)
  | fault _ => cases h
  | refused _ => cases h

/-- An answer of which `p` holds. -/
theorem of_any {α : Type} {o : Res α} {p : α → Bool} (h : (out o).any p = true) : ∃ a, o = .next a ∧ p a = true := by
  cases o with
  | next a => exact ⟨a, rfl, h⟩
  | fault _ => cases h
  | refused _ => cases h

/-- A state whose next step has a quiet input with an answer of the platform, so that it can be evaluated. -/
def fed (s : State) : State := { s with env := [{ quietInput s with answer := 0 }] }

/-- `beforeEnd` of a step that runs an instruction, `q` of the state it leaves. -/
theorem beforeEnd_of_run {s : State} {q : State → Bool}
    (h : s.input.reset = false ∧ s.iop.sysctl.eff.getLsbD 0 = false ∧ interruptNow s.takeInput = none ∧
      s.seq.idle = false ∧ (out (runInstr s.takeInput)).any q = true) : ∃ t, beforeEnd s t ∧ q t = true := by
  obtain ⟨hr, hs, hi, hid, ho⟩ := h
  obtain ⟨t, ht, hq⟩ := of_any ho
  exact ⟨t, ⟨hr, hs, by rw [hi]; simpa [hid] using ht⟩, hq⟩

/-- A state for transfers: MODE1, and I3 and I11 at one address. -/
def wMove (mode1 addr : Word) : State :=
  (State.reset.setSys { State.reset.sys with mode1 := .of mode1 }).setDagOf 3
    { State.reset.dag with i := (State.reset.dag.i.set 3 addr).set 11 addr }

/-- The addresses of the one-transfer forms by I3 or I11: `wMove` puts all of them at the chosen word. -/
theorem witness_move_addresses :
    let s := wMove 0x200000 0x98000
    (uregMoves s true false (.r 1) true false 3 3 .always .none 0x98000 0).map (·.addr) =
      [0x98000, 0x98000, 0x98000, 0x130000, 0x98000] ∧
    (uregMoves s true false (.r 1) false true 3 3 .always .none 0 0).map (·.addr) =
      [0x98000, 0x98000, 0, 0x98000, 0x98000] ∧
    (dregMoves s true 1 true false 3 3 (.is .eq) .none (.by8 .lshift 0 0 0) 0).map (·.addr) =
      [0x98000, 0x98000, 0x98000, 0x98000, 0x98000, 0x98000] := by decide +kernel

/-- `Stores` and `Loads`: the first and the last words of RAM in its blocks and their neighbours, registers that can be
moved, an address register of the other DAG; and for `Loads` the first word of ROM. -/
theorem witness_Stores_Loads :
    let s := wMove 0x200000 0x98000
    (ramWord s 0x98000 ∧ ramWord s 0x98001 ∧ ramWord s 0x9FFFF ∧ ramWord s 0xC0000 ∧ ramWord s 0xE1FFF) ∧
    (normalWord s 0x80000 ∧ normalWord s 0x80001) ∧
    (usable s (.r 1) ∧ usable s .laddr ∧ usable s .pcstk ∧ usable s (.i 12)) ∧ UReg.r 1 ≠ .px ∧
    (sameDag false (.i 12) = false ∧ sameDag true (.i 3) = false) ∧ s.simd = true ∧ Memory.wf s.mem = true ∧
    Compute.none.wellFormed = true := by
  simp only [ramWord, normalWord, usable]
  constructorm* _ ∧ _ <;> decide +kernel

/-- Gates of the moves: a condition that holds opens both, EQ after reset none, and the negated gates of type 10 both. -/
theorem witness_move_gates :
    let s := wMove 0x200000 0x98000
    (uregMoves s true false (.r 1) true false 3 3 .always .none 0x98000 0).map (fun x => (x.gates.cx, x.gates.cy)) =
      [(true, true), (true, true), (true, true), (true, true), (true, true)] ∧
    (dregMoves s true 1 true false 3 3 (.is .eq) .none (.by8 .lshift 0 0 0) 0).map (fun x => (x.gates.cx, x.gates.cy)) =
      [(true, true), (false, false), (false, false), (false, false), (true, true), (true, true)] := by decide +kernel

/-- `AccessWidths`: the first and the last long word, normal word and short word, and the first 48-bit word of a block, of
32 and of 40 bits. -/
theorem witness_AccessWidths :
    let s := State.reset
    let t := s.setIop { s.iop with sysctl := .of 0x200 }
    Memory.wf s.mem = true ∧
    (mappedSpan (4 * 0x40000) 4 = true ∧ mappedSpan (4 * 0x70FFF) 4 = true ∧ cellRam (4 * 0x70FFF) = true) ∧
    (mappedSpan (2 * 0x80000) 2 = true ∧ cellMapped (2 * (0x80000 ^^^ 1)) = true ∧ mappedSpan (2 * 0xE1FFF) 2 = true ∧
      cellMapped (2 * (0xE1FFF ^^^ 1)) = true ∧ cellRam (2 * 0xE1FFF) = true) ∧
    (cellMapped 0x100000 = true ∧ cellMapped (0x100000 + 2) = true ∧ cellMapped 0x1C3FFF = true ∧ s.simd = false ∧
      cellRam 0x1C3FFF = true) ∧
    (cell48 0x80000 = some 0x100000 ∧ imdw s (2 * 0x80000) = false ∧ imdw t (2 * 0x80000) = true) := by decide +kernel

/-- `AccessWidths`, the registers that are no data registers: the first and the last long word, and with (LW) the first
normal word and the last, which is odd; a register with a neighbour, one with a complement, one with neither, and PX. -/
theorem witness_AccessWidths_pairs :
    (longCells 0x40000 false 0x100000 0x100002 ∧ longCells 0x70FFF true 0x1C3FFC 0x1C3FFE ∧
      longCells 0x80000 true 0x100000 0x100002 ∧ longCells 0xE1FFF true 0x1C3FFE 0x1C3FFC) ∧ cellRam 0x1C3FFC = true ∧
    ((UReg.i 3).neighbour = some (.i 2) ∧ (UReg.sys .ustat1).complement = some (.sys .ustat2)) ∧
    ∀ u ∈ [UReg.i 3, .sys .ustat1, .tperiod, .px], u.dreg = none ∧ usable State.reset u := by
  refine ⟨by simp only [longCells]; constructorm* _ ∧ _ <;> decide, by decide, by decide, ?_⟩
  intro u hu
  simp only [List.mem_cons, List.not_mem_nil, or_false] at hu
  rcases hu with rfl | rfl | rfl | rfl <;> exact ⟨by decide, by simp [usable]⟩

/-- `CoreIopRegisters`: the breakpoint addresses from the first to the last, a FIFO with a word, and peripheral registers
from the first to the last; an emulator that writes a word, and none. -/
theorem witness_CoreIopRegisters :
    (brkIndex (0x300A0 : Word).toNat = some 0 ∧ brkIndex (0x300B9 : Word).toNat = some 15) ∧
    (∀ a ∈ [0, 0x3001F, 0x30023, 0x300A8, 0x3FFFF], a < 0x40000 ∧ isCoreIop a = false) ∧ (0x3FFFF : Word).toNat = 0x3FFFF ∧
    { State.reset.iop with eemuout := [7] }.eemuout = 7 :: [] ∧
    ({ State.reset with env := [{ quietInput State.reset with emuIn := some 5 }] }.input.emuIn = some 5 ∧
      (fed State.reset).input.emuIn = none) := by decide +kernel

/-- `DualMoves` and `ImmediateStores`: two different words of RAM by I3 and I11, SIMD on, one word that both name, and a
word of ROM. -/
theorem witness_DualMoves :
    let s := (wMove 0x200000 0x98000).setDagOf 11 { (wMove 0x200000 0x98000).dag with
      i := (wMove 0x200000 0x98000).dag.i.set 11 0xE1FFE }
    (ramWord s (postAddr s (dagReg false 3)) ∧ ramWord s (postAddr s (dagReg true 3)) ∧
      ramWord s (postAddr s (dagReg false 3) + 1) ∧ ramWord s (postAddr s (dagReg true 3) + 1)) ∧ s.simd = true ∧
    postAddr s (dagReg false 3) ≠ postAddr s (dagReg true 3) ∧ postAddr s (dagReg false 3) ≠ postAddr s (dagReg true 3) + 1 ∧
    postAddr s (dagReg false 3) + 1 ≠ postAddr s (dagReg true 3) ∧ Memory.wf s.mem = true ∧
    (let u := wMove 0 0x98000
     postAddr u (dagReg false 3) = postAddr u (dagReg true 3) ∧ ramWord u (postAddr u (dagReg true 3))) ∧
    (normalWord s 0x80000 ∧ normalWord s 0x80001 ∧ cellRam (2 * 0x80000) = false) := by
  simp only [ramWord, normalWord]
  constructorm* _ ∧ _ <;> decide +kernel

/-- `FrameInstructions`: the frame pointer at a word of memory. -/
theorem witness_FrameInstructions :
    let s := (wMove 0 0x98000).setDagOf 6 { (wMove 0 0x98000).dag with i := (wMove 0 0x98000).dag.i.set 6 0x98000 }
    normalWord s (s.ireg 6) := by
  simp only [normalWord]
  constructorm* _ ∧ _ <;> decide +kernel

/-- A state with loop stacks and a PC stack of `d` entries of `e` each, and the top of the loop stacks. -/
def wStack (ld d : Nat) (e : BitVec 26) (laddr count : Word) : State :=
  State.reset.setSeq { State.reset.seq with
    pc := 0x90000
    pcstack := .replicate 30 e
    pcstkp := .of (.ofNat 5 d)
    ld := ld
    loopaddr := .replicate 6 laddr
    loopcnt := .replicate 6 count }

/-- `RegisterMoves`, `ImmediateLoads` and `RegisterReads`: stacks empty, of one entry and full, none overflowed. -/
theorem witness_registers :
    (let s := wStack 0 0 0 0 0
     pcHas s 0 ∧ s.seq.ld = 0 ∧ s.seq.ld ≠ 6 ∧ loopLost s = false ∧ s.seq.pcstkp.eff ≠ 31 ∧ usable s (.r 1) ∧ usable s .px) ∧
    (let s := wStack 1 1 5 7 9
     pcHas s 1 ∧ (0 < s.seq.ld ∧ s.seq.ld ≤ 6) ∧ loopLost s = false ∧ usable s .laddr ∧ usable s .pcstk) ∧
    (let s := wStack 6 30 5 7 9
     pcHas s 30 ∧ (0 < s.seq.ld ∧ s.seq.ld ≤ 6) ∧ loopLost s = false) := by
  simp only [pcHas, usable]
  constructorm* _ ∧ _ <;> decide +kernel

/-- `RegisterReads`: after reset FADDR and DADDR read in the flow of NOPs. -/
theorem witness_RegisterReads :
    let s := State.reset
    (s.seq.pc.toNat < 0x100000 ∧ s.seq.db = none ∧ s.seq.exiting = none ∧ mayInterrupt s = false) ∧
    ∀ j < 4, (∀ q : Fin 6, q.val < s.seq.ld → s.seq.loopaddr[q].setWidth 24 ≠ s.seq.pc + .ofNat 24 j) ∧
      ∃ i l, fetch s.mem (s.seq.pc + .ofNat 24 j) = .next (i, l) ∧ redirects i = false ∧ mayAdmit i = false ∧
        loopStarted (s.seq.pc + .ofNat 24 j) i = [] := by
  refine ⟨by decide, fun j hj => ⟨fun q hq => absurd hq (Nat.not_lt_zero _), .nop21a, 1, ?_, rfl, rfl, rfl⟩⟩
  interval_cases j <;> exact of_out (by decide +kernel)

/-- `IndexModify`: length 0; a buffer of length 1; the greatest buffer that ends at the end of the address space, its
index at both ends and the greatest modifiers. -/
theorem witness_IndexModify :
    let p (i b l : Int) (x : Int) : Prop := b ≤ i ∧ i < b + l ∧ b + l ≤ 2 ^ 32 ∧ |x| < l
    (stDag 3 0xB8000 1 0xB8000 0 true).lreg 3 = 0 ∧
    (let s := stDag 3 0xB8000 1 0xB8000 1 true
     p (s.ireg 3).toNat (s.breg 3).toNat (s.lreg 3).toNat (0 : Word).toInt) ∧
    (let s := stDag 3 0xFFFFFFFF 0 1 0xFFFFFFFF true
     p (s.ireg 3).toNat (s.breg 3).toNat (s.lreg 3).toNat (0x7FFFFFFF : Word).toInt) ∧
    (let s := stDag 3 1 0 1 0xFFFFFFFF true
     p (s.ireg 3).toNat (s.breg 3).toNat (s.lreg 3).toNat (0x80000000 : Word).toInt) := by
  decide +kernel

/-- `StackInstructions`: each stack with room, with an entry, and full. -/
theorem witness_StackInstructions :
    let sts (n : Nat) : State := State.reset.setSeq { State.reset.seq with sts := List.replicate n ⟨1, 2, 3⟩ }
    (loopLost (wStack 5 0 0 0 0) = false ∧ (wStack 5 0 0 0 0).seq.ld < 6 ∧ 0 < (wStack 1 0 0 0 0).seq.ld) ∧
    (loopLost (wStack 6 0 0 0 0) = false ∧ (wStack 6 0 0 0 0).seq.ld = 6) ∧
    ((sts 14).seq.sts.length < 15 ∧ 15 ≤ (sts 15).seq.sts.length ∧ (sts 1).seq.sts = ⟨1, 2, 3⟩ :: [] ∧
      (sts 1).sys.stkyx.val.getLsbD 23 = false) ∧
    (pcHas (wStack 1 29 0 0 0) 29 ∧ pcHas (wStack 1 30 0 0 0) 30 ∧ pcHas (wStack 1 1 0 0 0) 1) ∧
    (let s := (wStack 1 1 0 0 0).setSeq { (wStack 1 1 0 0 0).seq with sts := [⟨1, 2, 3⟩] }
     pcHas s 1 ∧ loopLost s = false ∧ s.sys.stkyx.val.getLsbD 23 = false ∧ 0 < s.seq.ld ∧ s.seq.sts ≠ []) := by
  simp only [pcHas]
  constructorm* _ ∧ _ <;> decide +kernel

/-- `StackInstructions`: FLUSH CACHE executed directly after FLUSH CACHE. -/
theorem witness_flush :
    ∃ t, beforeEnd (fed { State.reset.withFetchWord 48 0x170200000000 with flushing := true }) t ∧
      (t.scratch.flush && t.flushing) = true :=
  beforeEnd_of_run (by decide +kernel)

/-- `Jumps`, `Calls` and `Returns`: a condition that holds and one that does not, a PC stack and loop stacks with an entry,
an interrupt in service that pushed the status. -/
theorem witness_branches :
    let s := wStack 1 1 0x90005 0x4F090000 3
    let v := s.setSys { s.sys with imaskp := .of 0x10 }
    ((gates s true .always).both = true ∧ (gates s true (.is .eq)).both = false) ∧
    (pcHas s 1 ∧ 0 < s.seq.ld ∧ loopLost s = false) ∧
    (inService s = none ∧ canEndService s) ∧
    (let u := v.setSeq { v.seq with sts := [⟨1, 2, 3⟩] }
     inService u = some 4 ∧ pushesStatus 4 = true ∧ (pcHas u 1 ∧ 0 < u.seq.ld ∧ loopLost u = false) ∧ canEndService u) := by
  refine ⟨by decide +kernel, by simp only [pcHas]; constructorm* _ ∧ _ <;> decide +kernel, ⟨by decide +kernel, ?_⟩,
    by decide +kernel, by decide +kernel, by simp only [pcHas]; constructorm* _ ∧ _ <;> decide +kernel, ?_⟩
  · intro p hp
    have h : inService (wStack 1 1 0x90005 0x4F090000 3) = none := by decide +kernel
    rw [h] at hp
    cases hp
  · intro p _ _
    exact ⟨by simp [State.setSeq], by decide +kernel⟩

/-- `Calls`: the return addresses of a direct and a delayed call in normal-word space and in VISA space. -/
theorem witness_Calls :
    let s := wStack 0 29 0 0 0
    let v := s.setSeq { s.seq with pc := 0x130000 }
    pcHas s 29 ∧ isReturn s false 3 0x90001 ∧ isReturn s true 3 0x90003 ∧ isReturn v false 2 0x130002 ∧
      isReturn v true 2 0x130004 := by
  have f (a : Addr24) (h : out (fetch [] a) = some (.nop21c, 1)) : fetch [] a = .next (.nop21c, 1) := of_out h
  refine ⟨by simp only [pcHas]; decide +kernel, ⟨fun _ => by decide +kernel, nofun, nofun⟩,
    ⟨nofun, fun _ _ => by decide +kernel, fun _ h => absurd h (by decide +kernel)⟩,
    ⟨fun _ => by decide +kernel, nofun, nofun⟩, nofun, fun _ h => absurd h (by decide +kernel), ?_⟩
  intro _ _
  exact ⟨.nop21c, 1, .nop21c, 1, f _ (by decide +kernel), f _ (by decide +kernel), by decide +kernel⟩

/-- `DoUntil`: a body of one instruction, of 48 bits and in VISA space, the PC and loop stacks with just one entry free. -/
theorem witness_DoUntil :
    let s := wStack 5 29 0 0 0
    pcHas s 29 ∧ loopLost s = false ∧ s.seq.ld < 6 ∧
      (s.seq.pc + lengthAt s.seq.pc 3).toNat ≤ (s.seq.pc + (1 : Addr24)).toNat ∧ readUReg s (.r 1) = .next 0 ∧
      (0x130000 + lengthAt 0x130000 3).toNat ≤ ((0x130000 : Addr24) + 3).toNat ∧
      isVisa (0x130000 + lengthAt 0x130000 3) = true := by
  simp only [pcHas]
  constructorm* _ ∧ _ <;> first | decide +kernel | exact of_out (by decide +kernel)

/-- A NOP in either slot of a delayed branch. -/
def wSlot (k : Nat) : State := fed (State.reset.setSeq { State.reset.seq with db := some ⟨0x98000, k⟩ })

/-- A state in which a 48-bit word is placed at the PC. -/
def wWord (w : Nat) : State := fed (State.reset.withFetchWord 48 w)

/-- `NopAndIdle`: the first instruction after reset, a NOP. -/
theorem witness_executes :
    executes (fed State.reset) .nop21a 1 (fed State.reset).takeInput ∧
    ((fed State.reset).seq.exiting = none ∧ (fed State.reset).seq.db = none ∧ (fed State.reset).scratch = Scratch.none) := by
  simp only [executes, running, executable]
  constructorm* _ ∧ _ <;> first | decide +kernel | exact of_out (by decide +kernel)

/-- `branchFits` and `canLoopBack`, in a form that can be evaluated. -/
def endFits (s t : State) : Bool :=
  (s.seq.db.isNone || (t.scratch.br.isNone && (t.scratch.dbReq.isNone || s.seq.db.any fun d => d.count == 2))) &&
    (t.seq.ld == 0 || t.loopEnd != s.seq.pc ||
      (!loopLost t && t.seq.pcstkp.val == t.seq.pcstkp.eff && decide (0 < t.seq.pcstkp.val.toNat) &&
        decide (t.seq.pcstkp.val.toNat ≤ 30)))

theorem of_endFits {s t : State} (h : endFits s t = true) : branchFits s t ∧ canLoopBack t s.seq.pc := by
  simp only [endFits, Bool.and_eq_true] at h
  obtain ⟨hb, hc⟩ := h
  constructor
  · unfold branchFits
    cases hd : s.seq.db with
    | none => exact .inl rfl
    | some d =>
      obtain ⟨x, k⟩ := d
      simp_all
  · rintro ⟨h0, he, -⟩ -
    simp only [he, bne_self_eq_false, Bool.or_false, Bool.or_eq_true, beq_iff_eq, Bool.and_eq_true, decide_eq_true_eq,
      Bool.not_eq_true'] at hc
    rcases hc with hc | ⟨⟨⟨hl, hv⟩, hp⟩, h30⟩
    · omega
    · exact ⟨hl, _, hp, hv, rfl, h30⟩

/-- The next step runs `i` of `len` address units, and `q` of what it leaves, in a form that can be evaluated. -/
def runsTo (s : State) (i : Instr) (len : Nat) (q : State → Bool) : Prop :=
  running s ∧ executable s i len ∧ out (fetch s.takeInput.mem s.seq.pc) = some (i, len) ∧
    (out (Res.bind (Res.bind (loopTest 7 s.takeInput) arithTest) (exec i))).any q = true

theorem executesFrom_of_runsTo {s : State} {i : Instr} {len : Nat} {q : State → Bool} (h : runsTo s i len q) :
    ∃ u t, executesFrom s i len u t ∧ q t = true := by
  obtain ⟨hr, he, hf, ho⟩ := h
  obtain ⟨t, ht, hq⟩ := of_any ho
  cases hu : Res.bind (loopTest 7 s.takeInput) arithTest with
  | next u =>
    rw [hu] at ht
    exact ⟨u, t, ⟨hr, hu, of_out hf, he, ht⟩, hq⟩
  | fault _ => rw [hu] at ht; cases ht
  | refused _ => rw [hu] at ht; cases ht

/-- What `EndOfStep` and the second part of `LoopSteps` ask for, with `q` of what the instruction leaves. -/
def ends (s : State) (i : Instr) (q : State → Bool) : Prop :=
  ∃ u t, executesFrom s i 1 u t ∧ branchFits s t ∧ canLoopBack t s.seq.pc ∧ q t = true

theorem ends_of_runsTo {s : State} {i : Instr} {q : State → Bool} (h : runsTo s i 1 fun t => endFits s t && q t) :
    ends s i q := by
  obtain ⟨u, t, he, hq⟩ := executesFrom_of_runsTo h
  rw [Bool.and_eq_true] at hq
  exact ⟨u, t, he, (of_endFits hq.1).1, (of_endFits hq.1).2, hq.2⟩

/-- `EndOfStep`, outside loops: a NOP after reset and in either slot of a delayed branch, IDLE in the second, a delayed branch
in the first, a branch and a delayed branch. -/
theorem witness_EndOfStep :
    ends (fed State.reset) .nop21a (fun t => t.seq.ld == 0) ∧
    ends (wSlot 1) .nop21a (fun t => !t.seq.idle) ∧ ends (wSlot 2) .nop21a (fun t => t.scratch.dbReq.isNone) ∧
    ends { wSlot 1 with mem := writeCell [] 0x10000E 0x0080 } .idle22a (fun t => t.seq.idle) ∧
    (let r := State.reset.withFetchWord 48 0x063E04012345
     ends (fed (r.setSeq { r.seq with db := some ⟨0x98000, 2⟩ })) (.jumpDirect8a false .always true false 0x12345)
       (fun t => t.scratch.dbReq == some 0x12345)) ∧
    ends (wWord 0x063E00012345) (.jumpDirect8a false .always false false 0x12345)
      (fun t => t.scratch.br == some 0x12345) ∧
    ends (wWord 0x063E04012345) (.jumpDirect8a false .always true false 0x12345)
      (fun t => t.scratch.dbReq == some 0x12345) := by
  constructorm* _ ∧ _ <;> refine ends_of_runsTo ?_ <;> simp only [runsTo, running, executable] <;> decide +kernel

/-- A counter loop from 0x8FFFF with `count` passes to go, `k` instructions before its end, under `d` - 1 further entries of
the PC stack, with a word placed at its PC. -/
def wLoop (d k : Nat) (count : Word) (w : Nat) : State :=
  (wStack 1 d 0x8FFFF (.ofNat 32 (0xEF090000 + k)) count).withFetchWord 48 w

/-- `EndOfStep`, in a counter loop: a jump, a call, the RTS and the RTI of a routine called from its body, a delayed branch,
NOPs in its slots, DO UNTIL there and outside loops, POP PCSTK, POP LOOP and a load of LCNTR; a jump at the end of the loop. -/
theorem witness_EndOfStep_loops :
    (∀ k ∈ [0, 8], ends (fed (wLoop 1 k 3 0x063E00012345)) (.jumpDirect8a false .always false false 0x12345)
      fun t => t.scratch.br == some 0x12345 && t.seq.ld == 1) ∧
    ends (fed (wLoop 1 8 3 0x06BE00012345)) (.callDirect8a false .always false false 0x12345)
      (fun t => t.scratch.br == some 0x12345 && t.seq.pcstkp.val == 2) ∧
    ends (fed (wLoop 2 8 3 0x0A3E00000000)) (.rts11a .always false false false .none)
      (fun t => t.scratch.br == some 0x8FFFF && t.seq.ld == 1 && t.seq.pcstkp.val == 1) ∧
    ends (fed (wLoop 2 8 3 0x0B3E00000000)) (.rti11a .always false false .none)
      (fun t => t.scratch.br == some 0x8FFFF && t.seq.ld == 1 && t.seq.pcstkp.val == 1) ∧
    ends (fed (wLoop 1 8 3 0x063E04012345)) (.jumpDirect8a false .always true false 0x12345)
      (fun t => t.scratch.dbReq == some 0x12345 && t.seq.ld == 1) ∧
    (∀ c ∈ [1, 2], ends (fed ((wLoop 1 8 3 0).setSeq { (wLoop 1 8 3 0).seq with db := some ⟨0x98000, c⟩ })) .nop21a
      fun t => t.seq.ld == 1) ∧
    (∀ s ∈ [wLoop 1 8 3 0x0C0003000002, (wStack 0 0 0 0 0).withFetchWord 48 0x0C0003000002],
      ends (fed s) (.doImm12a 3 2) fun t => t.seq.ld == s.seq.ld + 1 && t.curlcntr == 3) ∧
    ends (fed (wLoop 2 8 3 0x170400000000)) .popPcstk20a (fun t => t.seq.ld == 1 && t.seq.pcstkp.val == 1) ∧
    ends (fed (wLoop 1 8 3 0x174000000000)) .popLoop20a (fun t => t.seq.ld == 0) ∧
    ends (fed (wLoop 1 8 3 0x0F6800000007)) (.loadImm17a .lcntr 7) (fun t => t.seq.lcntr == 7 && t.seq.ld == 1) := by
  simp only [List.forall_mem_cons, List.not_mem_nil, IsEmpty.forall_iff, implies_true, and_true]
  constructorm* _ ∧ _ <;> refine ends_of_runsTo ?_ <;> simp only [runsTo, running, executable] <;> decide +kernel

/-- `StepRunsDecoded`: the first instruction after reset; a counter loop whose test is due; a 48-bit and a 16-bit
instruction where they lie. -/
theorem witness_StepRunsDecoded :
    (let s := fed State.reset
     running s ∧ s.seq.ld = 0 ∧ fetch s.takeInput.mem s.seq.pc = .next (.nop21a, 1) ∧ executable s .nop21a 1) ∧
    (let s := fed (wStack 1 1 0x90000 0x4F090000 3)
     running s ∧ (∃ u, Res.bind (loopTest 7 s.takeInput) arithTest = .next u) ∧
      fetch s.takeInput.mem s.seq.pc = .next (.nop21a, 1) ∧ executable s .nop21a 1) ∧
    ((0x80000 : Addr24).toNat < 0x100000 ∧ 0x100000 ∈ cell48 (0x80000 : Addr24).toNat ∧
      decode48 (readCell [] (0x100000 + 2) ++ readCell [] (0x100000 + 1) ++ readCell [] 0x100000) = some .nop21a) ∧
    (let m := writeCell [] 0x1C3FFF 0xC012
     cellMapped 0x1C3FFF = true ∧ cellMapped (0x1C3FFF + 1 - 1) = true ∧
      decodeVisa (readCell m 0x1C3FFF) (readCell m (0x1C3FFF + 1)) (readCell m (0x1C3FFF + 2)) =
        some (.shortAdd2c 1 2, 1)) := by
  simp only [running, executable]
  refine ⟨?_, ⟨by decide +kernel, ?_, of_out (by decide +kernel), by decide +kernel⟩, by decide +kernel, by decide +kernel⟩
  · constructorm* _ ∧ _ <;> first | decide +kernel | exact of_out (by decide +kernel)
  · exact (of_any (p := fun _ => true) (by decide +kernel)).imp fun _ h => h.1

/-- `ResetState`: a step in which reset is asserted, and one with SYSCTL.SRST in force. -/
theorem witness_ResetState :
    { State.reset with env := [{ quietInput State.reset with reset := true }] }.input.reset = true ∧
    (State.reset.setIop { State.reset.iop with sysctl := .of 1 }).iop.sysctl.eff.getLsbD 0 = true := by decide +kernel

/-- `StepKeepsInv`, `RomNeverChanges` and `CounterLoopRuns`: a state in a counter loop meets the invariant, and a step runs
from it; a byte of ROM. -/
theorem witness_Inv :
    let s := wStack 1 1 0x90000 0x4F090000 3
    Inv s ∧ ∃ t, step s = .next t ∧ Runs s t ∧ cellRam (0 / 2) = false := by
  refine ⟨⟨by decide +kernel, by decide +kernel, by decide +kernel, ?_, ?_, by decide +kernel, ?_, ?_⟩, ?_⟩
  · intro d h
    cases h
  · intro d h
    cases h
  · simp only [Settled]
    constructorm* _ ∧ _ <;> decide +kernel
  · simp only [InterruptBits]
    constructorm* _ ∧ _ <;> decide +kernel
  · have h : (out (step (wStack 1 1 0x90000 0x4F090000 3))).isSome = true := by decide +kernel
    revert h
    cases hs : step (wStack 1 1 0x90000 0x4F090000 3) with
    | next t => exact fun _ => ⟨t, rfl, .on (.here _) hs, by decide +kernel⟩
    | fault _ => intro h; cases h
    | refused _ => intro h; cases h

/-- `MemoryFrame`: a store of one word, and a byte outside it. -/
theorem witness_MemoryFrame :
    let s := wMove 0 0x98000
    (∃ t, exec (.storeImm16a 3 0 false 0xFFFFFFFF) s = .next t) ∧
      (stores s (.storeImm16a 3 0 false 0xFFFFFFFF)).length = 1 ∧
      ∀ x ∈ stores s (.storeImm16a 3 0 false 0xFFFFFFFF), ¬ storesByte s x (4 * 0x98001) := by
  refine ⟨?_, by decide +kernel, ?_⟩
  · have h : (seen (.storeImm16a 3 0 false 0xFFFFFFFF) (wMove 0 0x98000) fun _ => ()) = some () := by decide +kernel
    revert h
    unfold seen
    cases exec (.storeImm16a 3 0 false 0xFFFFFFFF) (wMove 0 0x98000) with
    | next t => exact fun _ => ⟨t, rfl⟩
    | fault _ => intro h; cases h
    | refused _ => intro h; cases h
  · intro x hx
    have hx : x = ⟨postAddr (wMove 0 0x98000) (dagReg false 3), .dreg, false, false⟩ := by
      simpa [stores] using hx
    subst hx
    rintro (⟨a, ha, h⟩ | ⟨h, -⟩)
    · have hc : classify (wMove 0 0x98000) (postAddr (wMove 0 0x98000) (dagReg false 3)) .dreg false false =
          .next (.w32 0x130000) := of_out (by decide +kernel)
      rw [hc] at ha
      cases ha
      simp only [Access.covers] at h
      omega
    · exact absurd h (by decide +kernel)

/-- `InterruptEntry`: the timer interrupt, which pushes the status stack, over an empty PC stack, and the entry taken; one
that is over another in service under NESTM; a PC stack with just one entry free. -/
theorem witness_InterruptEntry :
    (stIrq.input.reset = false ∧ stIrq.iop.sysctl.eff.getLsbD 0 = false ∧ interruptNow stIrq.takeInput = some 4 ∧
      ∃ t, takeInterrupt 4 stIrq.takeInput = .next t) ∧ (pcHas stIrq 0 ∧ pcHas (wStack 0 29 0 0 0) 29) ∧ Inv stIrq ∧
    (let s := State.reset.setSys { State.reset.sys with
      mode1 := .of 0x1800, irptl := .of 0x40, imask := .of 0x43, imaskp := .of 0x100 }
     interruptNow s = some 6 ∧ pushesStatus 6 = false ∧ inService s = some 8) := by
  refine ⟨⟨by decide +kernel, by decide +kernel, by decide +kernel, ?_⟩,
    by simp only [pcHas]; constructorm* _ ∧ _ <;> decide +kernel,
    ⟨by decide +kernel, by decide +kernel, by decide +kernel, ?_, ?_, by decide +kernel, ?_, ?_⟩, by decide +kernel⟩
  · exact (of_any (p := fun _ => true) (by decide +kernel)).imp fun _ h => h.1
  · intro d h
    cases h
  · intro d h
    cases h
  · simp only [Settled]
    constructorm* _ ∧ _ <;> decide +kernel
  · simp only [InterruptBits]
    constructorm* _ ∧ _ <;> decide +kernel

/-- `InterruptSources` and `IdleAndTimer`: a step that runs a NOP, the timer on; the first and the last word of IOP space
and the first and the last odd word for a forced long word; I7 and I15 at words of RAM in circular buffers that wrap. -/
theorem witness_InterruptSources :
    (∃ t, beforeEnd (fed (stTimer 1)) t ∧ (t.sys.mode2.eff.getLsbD 5 && !t.scratch.tcountSet) = true) ∧
    ((0x3FFFF : Word).toNat < 0x40000 ∧ mappedSpan (2 * (0x80001 : Word).toNat) 2 = true ∧
      mappedSpan (2 * (0xE1FFF : Word).toNat) 2 = true) ∧
    (∀ a ∈ [(7 : RegNum), 15],
      let s := stDag a 0x98001 1 0x98000 2 true
      ramWord s (postAddr s a) ∧ s.mode1 24 = true ∧ s.simd = false ∧ 0 ≤ (s.mreg a).toInt ∧
        ((s.breg a).toNat : Int) + (s.lreg a).toNat ≤ (s.ireg a).toNat + (s.mreg a).toInt) := by
  refine ⟨beforeEnd_of_run (by decide +kernel), by decide, ?_⟩
  intro a ha
  simp only [List.mem_cons, List.not_mem_nil, or_false] at ha
  simp only [ramWord, normalWord]
  rcases ha with rfl | rfl <;> constructorm* _ ∧ _ <;> decide +kernel

/-- `InterruptSources` and `BreakpointUnit`: moves that complete, at a word of RAM, at the last odd one as a forced long word,
and in IOP space; the type 14 of the forms, and type 3 through I3. -/
theorem witness_completes :
    let s := wMove 0x200000 0xE1FFE
    let moves (d l : Bool) (a : Word) := uregMoves s d l (.r 1) true false 3 3 .always .none a 0
    (∀ x ∈ (moves true false 0x98000)[2]?, x.completes s .always) ∧ (∀ x ∈ (moves false false 0)[0]?, x.completes s .always) ∧
    (∀ x ∈ (moves true true 0xE1FFF)[2]?, x.completes s .always) ∧ (∀ x ∈ (moves false false 0x3FFFF)[2]?, x.completes s .always) ∧
    ((moves true false 0x98000)[2]?.isSome = true ∧ (moves false false 0)[0]?.isSome = true) := by
  refine ⟨?_, ?_, ?_, ?_, by decide⟩ <;>
    · intro x hx
      cases hx
      simp only [Move.completes, usable, normalWord]
      decide +kernel

/-- A NOP at an instruction breakpoint of its group, with UMODE and a count of events. -/
def wBreak (start last emun : Word) : State :=
  fed (State.reset.setIop { State.reset.iop with
    brkctl := .of 0x02200000, emun := emun, brk := (State.reset.iop.brk.set 0 (.of start)).set 1 (.of last) })

/-- `BreakpointUnit`: a range of one address at the instruction, with a count of 0 and more, and one that starts after its
end; words of memory for the accesses. -/
theorem witness_BreakpointUnit :
    (∀ s ∈ [wBreak 0x80004 0x80004 0, wBreak 0x80004 0x80004 0xFFFFFFFF, wBreak 0x80005 0x80004 0],
      running s ∧ ∃ t, runInstr s.takeInput = .next t ∧
        (!t.scratch.aborted && t.iop.brkctl.eff.getLsbD 25 && t.iop.brkctl.eff.getLsbD 21 &&
          !t.iop.brkctl.eff.getLsbD 24) = true) ∧
    (normalWord State.reset 0x80000 ∧ normalWord State.reset 0xE1FFF) := by
  refine ⟨?_, by simp only [normalWord]; constructorm* _ ∧ _ <;> decide +kernel⟩
  intro s hs
  simp only [List.mem_cons, List.not_mem_nil, or_false] at hs
  rcases hs with rfl | rfl | rfl <;>
    exact ⟨by simp only [running]; decide +kernel, of_any (by decide +kernel)⟩

/-- `IdleAndTimer`: a step in which the timer is enabled and comes to 0; an idle core. -/
theorem witness_IdleAndTimer_event :
    ∃ t, beforeEnd (fed (stTimer 1)) t ∧
      (t.sys.mode2.eff.getLsbD 5 && !t.scratch.tcountSet && t.tcount == 1) = true :=
  beforeEnd_of_run (by decide +kernel)

theorem witness_IdleAndTimer :
    let s := fed (State.reset.setSeq { State.reset.seq with idle := true })
    s.input.reset = false ∧ s.iop.sysctl.eff.getLsbD 0 = false ∧ interruptNow s.takeInput = none ∧ s.seq.idle = true ∧
      s.scratch = Scratch.none ∧ beforeEnd s s.takeInput := by
  have h : interruptNow (fed (State.reset.setSeq { State.reset.seq with idle := true })).takeInput = none := by
    decide +kernel
  refine ⟨by decide +kernel, by decide +kernel, h, rfl, rfl, by decide +kernel, by decide +kernel, ?_⟩
  rw [h]
  rfl

/-- A state in an arithmetic loop until EQ with AZ set, from 0x90000 to 0x90000 + `len` - 1, at its PC. -/
def wArith (len : Nat) (pc : Addr24) (az : Word) : State :=
  let s := wStack 1 1 0x90000 (.ofNat 32 (0x90000 + len - 1)) 0
  (s.setSeq { s.seq with pc := pc }).setSys { s.sys with astatx := .of az }

/-- `LoopSteps`, its first part: a counter loop of one instruction, with 1 and 3 to go, tested and not; five instructions from
its end; an arithmetic loop of three and of one instruction at its test, with its condition true and false. -/
theorem witness_LoopSteps_tests :
    (∀ s ∈ [wStack 1 1 0x90000 0x4F090000 1, wStack 1 1 0x90000 0x4F090000 3, wStack 1 1 0x90000 0x4F090004 3,
        (wStack 1 1 0x90000 0x4F090000 3).setTested true, wArith 3 0x90000 1, wArith 1 0x90000 1, wArith 3 0x90000 0],
      (0 < s.seq.ld ∧ s.seq.ld ≤ 6 ∧ loopLost s = false ∧ s.seq.pcstkp.val = s.seq.pcstkp.eff ∧ s.seq.pcstkp.val = 1) ∧
        3 ≤ s.loopEnd.toNat ∧ ((pcEntryAt s 1).extractLsb' 0 24).toNat ≤ s.loopEnd.toNat) ∧
    (let s := wStack 1 1 0x90000 0x4F090000 1
     s.loopTerm = .lce ∧ s.loopEnd = s.seq.pc ∧ s.loopTested = false ∧ s.curlcntr = 1) ∧
    (let s := wStack 1 1 0x90000 0x4F090004 3
     s.loopTerm = .lce ∧ s.loopEnd.toNat = s.seq.pc.toNat + 4 ∧ s.curlcntr ≠ 1) ∧
    (let s := wArith 3 0x90000 1
     s.loopTerm ≠ .lce ∧ s.seq.pc.toNat = s.loopEnd.toNat - 2 ∧ termHolds s .x s.loopTerm = true ∧ s.simd = false ∧
      s.seq.exiting = none) ∧
    (let s := wArith 1 0x90000 1
     s.loopTerm ≠ .lce ∧ s.seq.pc.toNat = s.loopEnd.toNat ∧ termHolds s .x s.loopTerm = true) ∧
    termHolds (wArith 3 0x90000 0) .x (wArith 3 0x90000 0).loopTerm = false := by decide +kernel

/-- `LoopSteps`, its first part: an enclosing loop tested after the inner one is popped, both ending here. -/
theorem witness_LoopSteps_enclosing :
    let s := wStack 2 2 0x90000 0x4F090000 1
    0 < s.seq.ld ∧ s.seq.ld ≤ 6 ∧ loopLost s = false ∧ s.seq.pcstkp.val = 2 ∧ s.loopTerm = .lce ∧ s.loopTested = false ∧
      s.curlcntr = 1 ∧ (out (Res.bind (loopTest 7 s) arithTest)).any (fun u => u.seq.ld == 0) = true := by decide +kernel

/-- `LoopSteps`, its second part, with a NOP: at the end of a counter loop that goes back, before it, and on the way out of an
arithmetic loop with two instructions and one to go, in a loop; the last pass of an outermost loop: the step that pops the
stacks of a counter loop and of an arithmetic loop of three and of one instruction, and with empty stacks the two steps
after it. -/
theorem witness_LoopSteps_steps :
    let on_way (s : State) (k : Nat) : State := s.setSeq { s.seq with exiting := some ⟨0x8FFFF, 0x90000, k⟩ }
    let back (t : State) : Bool := t.loopEnd == 0x90000 && t.loopTested
    let left (t : State) (k : Nat) : Bool := t.seq.exiting.any fun x => x.left == k
    let empty (t : State) : Bool := t.seq.ld == 0 && t.seq.pcstkp.val == 0
    ends (fed (wStack 1 1 0x90000 0x4F090000 3)) .nop21a back ∧
    ends (fed (wStack 1 1 0x90000 0x4F090004 3)) .nop21a (fun t => !back t) ∧
    (∀ k ∈ [1, 2], ends (fed (on_way (wStack 1 1 0x90000 0x4F090004 3) k)) .nop21a fun t => left t k && !empty t) ∧
    ends (fed (wStack 1 1 0x90000 0x4F090000 1)) .nop21a empty ∧
    (∀ n ∈ [1, 3], ends (fed (wArith n 0x90000 1)) .nop21a fun t => left t 3 && empty t) ∧
    ∀ k ∈ [1, 2], ends (fed (on_way (wStack 0 0 0 0 0) k)) .nop21a fun t => left t k && empty t := by
  simp only [List.forall_mem_cons, List.not_mem_nil, IsEmpty.forall_iff, implies_true, and_true]
  constructorm* _ ∧ _ <;> refine ends_of_runsTo ?_ <;> simp only [runsTo, running, executable] <;> decide +kernel

/-- `CounterLoopRuns`: a loop of a NOP with a count of 1, and of 3 (`witness_Inv` shows its invariant). -/
theorem witness_CounterLoopRuns :
    let p (s : State) (n : Nat) : Prop := s.env = [] ∧ s.seq.idle = false ∧ s.seq.db = none ∧ s.seq.exiting = none ∧
      s.sys.mode1.val.getLsbD 12 = false ∧ s.sys.mode1.eff.getLsbD 12 = false ∧ s.iop.sysctl.val.getLsbD 0 = false ∧
      s.iop.sysctl.eff.getLsbD 0 = false ∧ loopLost s = false ∧ pcHas s 1 ∧ (pcEntryAt s 1).extractLsb' 0 24 = s.seq.pc ∧
      isVisa s.seq.pc = false ∧ s.seq.ld = 1 ∧ s.loopTerm = .lce ∧ s.loopEnd = s.seq.pc ∧ s.loopTested = false ∧
      s.curlcntr.toNat = n ∧ 0 < n ∧ fetch s.mem s.seq.pc = .next (.nop21a, 1) ∧ modifiedAt s.stale s.seq.pc 1 = false
    p (wStack 1 1 0x90000 0x4F090000 1) 1 ∧ p (wStack 1 1 0x90000 0x4F090000 3) 3 := by
  simp only [pcHas]
  constructorm* _ ∧ _ <;> first | decide +kernel | exact of_out (by decide +kernel)

/-- `Stops`: type 1 with the DM address, the PM address or both in IOP space, the other at a word of memory in SIMD mode;
addresses with no cells of each width, the first and the last between blocks 2 and 3. -/
theorem witness_Stops_addresses :
    let at_ (k : RegNum) : State := (wMove 0x200000 0x98000).setDagOf k { (wMove 0x200000 0x98000).dag with
      i := (wMove 0x200000 0x98000).dag.i.set k.toNat 0x3FFFF }
    ((postAddr (at_ 3) (dagReg false 3)).toNat < 0x40000 ∧ normalWord (at_ 3) (postAddr (at_ 3) (dagReg true 3)) ∧
      normalWord (at_ 3) (postAddr (at_ 3) (dagReg true 3) + 1) ∧ (at_ 3).simd = true) ∧
    ((postAddr (at_ 11) (dagReg true 3)).toNat < 0x40000 ∧ normalWord (at_ 11) (postAddr (at_ 11) (dagReg false 3)) ∧
      normalWord (at_ 11) (postAddr (at_ 11) (dagReg false 3) + 1)) ∧
    ((postAddr (wMove 0 0) (dagReg false 3)).toNat < 0x40000 ∧ (postAddr (wMove 0 0) (dagReg true 3)).toNat < 0x40000) ∧
    (∀ a ∈ [0x61000, 0x6FFFF], mappedSpan (4 * a) 4 = false) ∧
    (∀ a ∈ [0xC2000, 0xDFFFF], mappedSpan (2 * a) 2 = false ∧ imdw State.reset (2 * a) = false) ∧
    ∀ a ∈ [0x184000, 0x1BFFFF], cellMapped a = false := by
  simp only [normalWord]
  constructorm* _ ∧ _ <;> decide +kernel

/-- `Stops`: the registers and addresses at which each of them stops. -/
theorem witness_Stops :
    (sameDag false (.i 0) = true ∧ sameDag true (.b 15) = true) ∧ (0x3FFFF : Word).toNat < 0x40000 ∧
    0x200000 ≤ (0x200000 : Word).toNat ∧
    (State.reset.seq.pc + (0 : Addr24)).toNat < (State.reset.seq.pc + lengthAt State.reset.seq.pc 3).toNat ∧
    ((0x030000000000 : BitVec 48).extractLsb' 45 3 = 0 ∧
      (0x030000000000 : BitVec 48).extractLsb' 40 5 ∈ [3#5, 5#5, 0x15#5, 0x1A#5, 0x1B#5, 0x1C#5, 0x1D#5, 0x1E#5, 0x1F#5]) ∧
    (let s := fed { State.reset with stale := [⟨0x10000C, 4, 2⟩] }
     running s ∧ Res.bind (loopTest 7 s.takeInput) arithTest = .next s.takeInput ∧
      fetch s.takeInput.mem s.seq.pc = .next (.nop21a, 1) ∧ modifiedAt s.takeInput.stale s.seq.pc 1 = true) ∧
    (let s := fed { State.reset.withFetchWord 48 0x9AE080C0A5F1 with cacheHold := true }
     running s ∧ Res.bind (loopTest 7 s.takeInput) arithTest = .next s.takeInput ∧
      fetch s.takeInput.mem s.seq.pc = .next (.storeImm16a 5 3 true 0x80c0a5f1, 1) ∧
      modifiedAt s.takeInput.stale s.seq.pc 1 = false ∧ s.cacheHold = true ∧
      usesPm (.storeImm16a 5 3 true 0x80c0a5f1) = true) := by
  simp only [running]
  constructorm* _ ∧ _ <;> first | decide +kernel | exact of_out (by decide +kernel)

/-- `Stops`: a branch in the first and a delayed one in the second slot of a delayed branch, outside loops and in one. -/
theorem witness_Stops_slots :
    let in_slot (s : State) (k : Nat) : State := fed (s.setSeq { s.seq with db := some ⟨0x98000, k⟩ })
    ∀ r ∈ [State.reset.withFetchWord 48, wLoop 1 8 3],
      (∃ u t, executesFrom (in_slot (r 0x063E00012345) 2) (.jumpDirect8a false .always false false 0x12345) 1 u t ∧
        t.scratch.br.isSome = true) ∧
      ∃ u t, executesFrom (in_slot (r 0x063E04012345) 1) (.jumpDirect8a false .always true false 0x12345) 1 u t ∧
        t.scratch.dbReq.isSome = true := by
  simp only [List.forall_mem_cons, List.not_mem_nil, IsEmpty.forall_iff, implies_true, and_true]
  constructorm* _ ∧ _ <;> refine executesFrom_of_runsTo (q := fun t => _) ?_ <;>
    simp only [runsTo, running, executable] <;> decide +kernel

end Sys2Proof.Tests
end

section
/-! What an operation answers, said without its outcome: the rules by which a property of the answer goes through `Res.bind`
and `Res.map`. -/

namespace Sys2Proof.Machine

/-- Where `x` answers, `p` holds of the answer. -/
def Res.Yields {α : Type} (p : α → Prop) (x : Res α) : Prop := ∀ a, x = .next a → p a

variable {α β : Type} {p : α → Prop} {q : β → Prop} {x y : Res α}

@[simp] theorem Res.yields_next {a : α} : Res.Yields p (.next a) ↔ p a := by simp [Res.Yields]
@[simp] theorem Res.yields_refused {e : Refusal} : Res.Yields p (.refused e) := by simp [Res.Yields]

theorem Res.Yields.bind {f : α → Res β} (hx : Res.Yields p x) (hf : ∀ a, p a → Res.Yields q (f a)) :
    Res.Yields q (Res.bind x f) := fun b h => by
  obtain ⟨a, ha, hb⟩ := Res.bind_eq_next.mp h
  exact hf a (hx a ha) b hb

theorem Res.Yields.map {f : α → β} (hx : Res.Yields p x) (hf : ∀ a, p a → q (f a)) : Res.Yields q (Res.map f x) :=
  hx.bind fun a ha => Res.yields_next.mpr (hf a ha)

/-- Of `x` nothing need be known. -/
theorem Res.yields_bind {f : α → Res β} (hf : ∀ a, Res.Yields q (f a)) : Res.Yields q (Res.bind x f) :=
  Res.Yields.bind (p := fun _ => True) (fun _ _ => trivial) fun a _ => hf a

theorem Res.yields_map {f : α → β} (hf : ∀ a, q (f a)) : Res.Yields q (Res.map f x) :=
  Res.yields_bind fun a => Res.yields_next.mpr (hf a)

theorem Res.Yields.ite {c : Prop} [Decidable c] (hx : Res.Yields p x) (hy : Res.Yields p y) :
    Res.Yields p (if c then x else y) := by
  split
  · exact hx
  · exact hy

end Sys2Proof.Machine
end

section
/-! A compute or shift changes the two elements and their ASTAT and STKY only (`onlyUnits`), by a rule for each operation
that writes them. -/

namespace Sys2Proof.Safety

open Sys2Proof.Machine

variable {s t u : State}

theorem onlyUnits.refl (s : State) : onlyUnits s s := rfl

theorem onlyUnits.trans (h : onlyUnits s t) (k : onlyUnits t u) : onlyUnits s u := by
  unfold onlyUnits at *
  rw [k, h]

/-! ## The operations that write the state -/

theorem onlyUnits.setPe (h : onlyUnits s t) (e : Elem) (p : Pe) : onlyUnits s (t.setPe e p) :=
  h.trans (by cases e <;> rfl)

theorem onlyUnits.setAstat (h : onlyUnits s t) (e : Elem) (v : Word) : onlyUnits s (t.setAstat e v) :=
  h.trans (by cases e <;> rfl)

theorem onlyUnits.stick (h : onlyUnits s t) (e : Elem) (v : Word) : onlyUnits s (t.stick e v) :=
  h.trans (by cases e <;> rfl)

theorem onlyUnits.setReg (h : onlyUnits s t) (e : Elem) (n : RegNum) (v : Ext) : onlyUnits s (t.setReg e n v) := by
  unfold State.setReg
  dsimp only
  split <;> exact h.setPe _ _

theorem onlyUnits.setReg32 (h : onlyUnits s t) (e : Elem) (n : RegNum) (v : Word) : onlyUnits s (t.setReg32 e n v) :=
  h.setReg e n _

theorem onlyUnits.setMr (h : onlyUnits s t) (e : Elem) (bg : Bool) (v : Acc) : onlyUnits s (t.setMr e bg v) := by
  unfold State.setMr
  split <;> exact h.setPe _ _

theorem onlyUnits.setFifo (h : onlyUnits s t) (e : Elem) (b : Long) (p : BitVec 7) : onlyUnits s (t.setFifo e b p) :=
  h.setPe _ _

theorem onlyUnits.aluFlags (h : onlyUnits s t) (e : Elem) (f : AluFlags) : onlyUnits s (writeAluFlags e f t) :=
  (h.setAstat _ _).stick _ _

theorem onlyUnits.mulFlags (h : onlyUnits s t) (e : Elem) (f : MulFlags) : onlyUnits s (writeMulFlags e f t) :=
  (h.setAstat _ _).stick _ _

theorem onlyUnits.shfFlags (h : onlyUnits s t) (e : Elem) (sz sv ss : Bool) :
    onlyUnits s (writeShfFlags e sz sv ss t) := h.setAstat _ _

/-! ## The operations of the units -/

theorem onlyUnits.putAlu (h : onlyUnits s t) (e : Elem) (n : RegNum) (o : AluOut) : onlyUnits s (putAlu e n o t) :=
  (h.setReg _ _ _).aluFlags _ _

theorem onlyUnits.putCompare (h : onlyUnits s t) (v : State) (e : Elem) (eq lt gt ai af : Bool) :
    onlyUnits s (putCompare v e eq lt gt ai af t) := (h.aluFlags _ _).setAstat _ _

theorem onlyUnits.putMulReg (h : onlyUnits s t) (e : Elem) (n : RegNum) (r : Acc) (signed frac mv : Bool) :
    onlyUnits s (putMulReg e n r signed frac mv t) := (h.setReg32 _ _ _).mulFlags _ _

theorem onlyUnits.putMulAcc (h : onlyUnits s t) (e : Elem) (bg : Bool) (r : Acc) (signed frac mv : Bool) :
    onlyUnits s (putMulAcc e bg r signed frac mv t) := (h.setMr _ _ _).mulFlags _ _

theorem onlyUnits.mulToReg (h : onlyUnits s t) (v : State) (e : Elem) (op : MulRegOp) (md : MulMod) (n x y : RegNum) :
    onlyUnits s (mulToReg v e op md n x y t) := h.putMulReg _ _ _ _ _ _

theorem onlyUnits.mulToAcc (h : onlyUnits s t) (v : State) (e : Elem) (op : MulAccOp) (md : MulMod) (x y : RegNum) :
    onlyUnits s (mulToAcc v e op md x y t) := by
  unfold Machine.mulToAcc
  cases op <;> exact h.putMulAcc _ _ _ _ _ _

theorem onlyUnits.fmulToReg (h : onlyUnits s t) (v : State) (e : Elem) (n x y : RegNum) :
    onlyUnits s (fmulToReg v e n x y t) := (h.setReg _ _ _).mulFlags _ _

theorem onlyUnits.putShf (h : onlyUnits s t) (e : Elem) (n : RegNum) (o : ShfOut) : onlyUnits s (putShf e n o t) :=
  (h.setReg32 _ _ _).shfFlags _ _ _ _

theorem onlyUnits.bitTest (h : onlyUnits s t) (e : Elem) (x : Word) (k : Int) : onlyUnits s (bitTest e x k t) :=
  h.shfFlags _ _ _ _

theorem onlyUnits.bitDeposit (h : onlyUnits s t) (v : State) (e : Elem) (x : Word) (n : Nat) :
    onlyUnits s (bitDeposit v e x n t) := by
  unfold Machine.bitDeposit
  dsimp only
  split <;> exact (h.setFifo _ _ _).shfFlags _ _ _ _

theorem onlyUnits.bitExtract (h : onlyUnits s t) (v : State) (e : Elem) (nu : Bool) (rn : RegNum) (n : Nat) :
    onlyUnits s (bitExtract v e nu rn n t) := by
  unfold Machine.bitExtract
  refine onlyUnits.shfFlags ?_ _ _ _ _
  split
  · exact h.setReg32 _ _ _
  · split <;> exact (h.setReg32 _ _ _).setFifo _ _ _

theorem onlyUnits.readPointer (h : onlyUnits s t) (v : State) (e : Elem) (rn : RegNum) :
    onlyUnits s (readPointer v e rn t) := (h.setReg32 _ _ _).shfFlags _ _ _ _

theorem onlyUnits.writePointer (h : onlyUnits s t) (v : State) (e : Elem) (k : BitVec 7) :
    onlyUnits s (writePointer v e k t) := (h.setFifo _ _ _).shfFlags _ _ _ _

theorem onlyUnits.putDual (h : onlyUnits s t) (e : Elem) (ra rs : RegNum) (a d : AluOut) :
    onlyUnits s (putDual e ra rs a d t) := ((h.setReg _ _ _).setReg _ _ _).aluFlags _ _

/-! ## Computes and shifts -/

theorem onlyUnits.computeElem (h : onlyUnits s t) (v : State) (e : Elem) (c : Compute) :
    onlyUnits s (computeElem v e c t) := by
  cases c with
  | none => exact h
  | fix2 => exact h.putAlu _ _ _
  | fix1 => exact h.putAlu _ _ _
  | fixCmp => exact h.putCompare _ _ _ _ _ _ _
  | flt2 => exact h.putAlu _ _ _
  | flt1 => exact h.putAlu _ _ _
  | fltCmp => exact h.putCompare _ _ _ _ _ _ _
  | mulReg => exact h.mulToReg _ _ _ _ _ _ _
  | mulAcc => exact h.mulToAcc _ _ _ _ _ _
  | satReg => exact h.putMulReg _ _ _ _ _ _
  | satAcc => exact h.putMulAcc _ _ _ _ _ _
  | rndReg => exact h.putMulReg _ _ _ _ _ _
  | rndAcc => exact h.putMulAcc _ _ _ _ _ _
  | clrAcc => exact h.setMr _ _ _
  | fmul => exact h.fmulToReg _ _ _ _ _
  | mrGet => exact h.setReg32 _ _ _
  | mrSet => exact h.setMr _ _ _
  | shf => exact h.putShf _ _ _
  | fld => exact h.putShf _ _ _
  | btst => exact h.bitTest _ _ _
  | shf1 => exact h.putShf _ _ _
  | bitdep => exact h.bitDeposit _ _ _ _
  | bitext => exact h.bitExtract _ _ _ _ _
  | bffwrpSet => exact h.writePointer _ _ _
  | bffwrpGet => exact h.readPointer _ _ _
  | dualFix => exact h.putDual _ _ _ _ _
  | dualFlt => exact h.putDual _ _ _ _ _
  | mulAluReg => exact (h.mulToReg _ _ _ _ _ _ _).putAlu _ _ _
  | mulAluAcc => exact (h.mulToAcc _ _ _ _ _ _).putAlu _ _ _
  | fmulAlu => exact (h.fmulToReg _ _ _ _ _).putAlu _ _ _
  | fmulAbs => exact (h.fmulToReg _ _ _ _ _).putAlu _ _ _
  | mulDualFix => exact (h.mulToReg _ _ _ _ _ _ _).putDual _ _ _ _ _
  | mulDualFlt => exact (h.fmulToReg _ _ _ _ _).putDual _ _ _ _ _

theorem onlyUnits.shiftImmElem (h : onlyUnits s t) (v : State) (e : Elem) (sh : ShiftImm) :
    onlyUnits s (shiftImmElem v e sh t) := by
  cases sh with
  | by8 => exact h.putShf _ _ _
  | btst8 => exact h.bitTest _ _ _
  | field => exact h.putShf _ _ _
  | bitdep12 => exact h.bitDeposit _ _ _ _
  | bitext12 => exact h.bitExtract _ _ _ _ _
  | bffwrp7 => exact h.writePointer _ _ _

theorem onlyUnits.onElems {f : Elem → State → State} (hf : ∀ e w, onlyUnits s w → onlyUnits s (f e w))
    (h : onlyUnits s t) (v : State) (g : Gates) : onlyUnits s (onElems v g f t) := by
  have hx : onlyUnits s (if g.cx then f .x t else t) := by
    split
    · exact hf _ _ h
    · exact h
  unfold Machine.onElems
  dsimp only
  split
  · exact hf _ _ hx
  · exact hx

theorem doCompute_units (v : State) (g : Gates) (c : Compute) (t : State) :
    Res.Yields (onlyUnits t) (doCompute v g c t) := fun u h => by
  obtain ⟨-, rfl⟩ | ⟨-, -, rfl⟩ := doCompute_eq_next.mp h
  · exact onlyUnits.onElems (fun e _ hw => hw.computeElem v e c) (onlyUnits.refl t) v g
  · exact onlyUnits.refl u

theorem doShift_units (v : State) (g : Gates) (sh : ShiftImm) (t : State) : onlyUnits t (doShift v g sh t) :=
  onlyUnits.onElems (fun e _ hw => hw.shiftImmElem v e sh) (onlyUnits.refl t) v g

end Sys2Proof.Safety
end

section
/-! The invariant within a step (`Sound`): what of `Inv` an instruction keeps, though its writes are still pending. Every
operation of the model that can touch it has its own lemma. -/

namespace Sys2Proof.Machine

open Sys2Proof.Safety

/-! ## The two low bits of a word -/

theorem and_three_congr {x y : Word} (h0 : x.getLsbD 0 = y.getLsbD 0) (h1 : x.getLsbD 1 = y.getLsbD 1) :
    x &&& 3 = y &&& 3 := by
  apply BitVec.eq_of_getLsbD_eq
  intro k hk
  rw [BitVec.getLsbD_and, BitVec.getLsbD_and]
  match k with
  | 0 => rw [h0]
  | 1 => rw [h1]
  | k + 2 =>
    have hk : 2 ^ 2 ≤ 2 ^ (k + 2) := Nat.pow_le_pow_right two_pos (Nat.le_add_left 2 k)
    have h3 : (3 : Word).getLsbD (k + 2) = false := Nat.testBit_lt_two_pow (lt_of_lt_of_le (by decide) hk)
    simp only [h3, Bool.and_false]

theorem mergeBits_and_three (old new : Word) : mergeBits old new 0xFFFFFFFC &&& 3 = old &&& 3 :=
  and_three_congr (by rw [mergeBits_getLsbD]; rfl) (by rw [mergeBits_getLsbD]; rfl)

theorem putBit_and_three {n : Nat} (hn : 2 ≤ n) (w : Word) (b : Bool) : putBit w n b &&& 3 = w &&& 3 := by
  unfold putBit
  apply and_three_congr <;> split <;> simp <;> omega

/-- A bit cleared leaves no low bit that was not set. -/
theorem putBit_false_and_three {w : Word} (hw : w &&& 3 = 0) (n : Nat) : putBit w n false &&& 3 = 0 := by
  calc putBit w n false &&& 3 = (w &&& 3) &&& ~~~(1#32 <<< n) := by
        simp only [putBit, Bool.false_eq_true, if_false]; ac_rfl
    _ = 0 := by rw [hw]; simp

/-- The contents of a register and a write that it still has to take in have the low bits `v`. -/
def Latent.LowBits (l : Latent 32) (v : Word) : Prop := l.val &&& 3 = v ∧ ∀ w, l.wr = some w → w &&& 3 = v

theorem Latent.LowBits.write {l : Latent 32} {v : Word} (h : l.LowBits v) (w : Word) :
    (l.write (mergeBits l.val w 0xFFFFFFFC)).LowBits v := by
  refine ⟨h.1, fun x hx => ?_⟩
  cases hx
  rw [mergeBits_and_three]
  exact h.1

theorem Latent.LowBits.commit {l : Latent 32} {v : Word} (h : l.LowBits v) :
    l.commit.val &&& 3 = v ∧ l.commit.eff &&& 3 = v := by
  obtain ⟨hv, hw⟩ := h
  refine ⟨?_, hv⟩
  unfold Latent.commit
  cases hl : l.wr with
  | none => exact hv
  | some w => exact hw w hl

/-! ## The invariant -/

/-- The invariant within a step, by the parts of the state that it is about. -/
structure SoundParts (mem : List Host.Cell) (ld : Nat) (sts : List StatusEntry) (db : Option Delayed)
    (exiting : Option Exiting) (irptl imask : Latent 32) : Prop where
  memory : Memory.wf mem = true
  loops : ld ≤ 6
  statuses : sts.length ≤ 15
  delayed : ∀ d, db = some d → d.count = 1 ∨ d.count = 2
  leaving : ∀ x, exiting = some x → 1 ≤ x.left ∧ x.left ≤ 3
  irptl : irptl.LowBits 0
  imask : imask.LowBits 3

/-- What of the invariant holds between the parts of a step. A state that differs from a sound one in none of these parts is
sound by definition. -/
def Sound (s : State) : Prop :=
  SoundParts s.mem s.seq.ld s.seq.sts s.seq.db s.seq.exiting s.sys.irptl s.sys.imask

/-- The operation answers a sound state, where it answers. -/
abbrev KeepsSound (x : Res State) : Prop := Res.Yields Sound x

variable {s t : State}

theorem Sound.units (h : Sound s) (hu : onlyUnits s t) : Sound t := by
  unfold onlyUnits at hu
  rw [hu]
  exact h

theorem Sound.ite {c : Prop} [Decidable c] (hs : Sound s) (ht : Sound t) : Sound (if c then s else t) := by
  split
  · exact hs
  · exact ht

theorem doCompute_sound (h : Sound t) (v : State) (g : Gates) (c : Compute) : KeepsSound (doCompute v g c t) :=
  fun u hu => h.units (doCompute_units v g c t u hu)

theorem computeOnly_sound (h : Sound s) (c : Compute) : KeepsSound (computeOnly c s) := doCompute_sound h s .open c

theorem doShift_sound (h : Sound t) (v : State) (g : Gates) (sh : ShiftImm) : Sound (doShift v g sh t) :=
  h.units (doShift_units v g sh t)

theorem shiftOnly_sound (h : Sound s) (sh : ShiftImm) : KeepsSound (shiftOnly sh s) :=
  Res.yields_next.mpr (doShift_sound h s .open sh)

/-! ## Registers -/

theorem Sound.setReg (h : Sound t) (e : Elem) (n : RegNum) (v : Ext) : Sound (t.setReg e n v) :=
  h.units ((onlyUnits.refl t).setReg e n v)

theorem Sound.setReg32 (h : Sound t) (e : Elem) (n : RegNum) (v : Word) : Sound (t.setReg32 e n v) := h.setReg e n _

theorem Sound.setAstat (h : Sound t) (e : Elem) (v : Word) : Sound (t.setAstat e v) :=
  h.units ((onlyUnits.refl t).setAstat e v)

theorem Sound.setDagOf (h : Sound t) (n : RegNum) (d : Dag) : Sound (t.setDagOf n d) := by
  unfold State.setDagOf
  split <;> exact h

theorem Sound.setI (h : Sound t) (n : RegNum) (v : Word) : Sound (t.setI n v) := h.setDagOf n _

theorem Sound.setLaddr (h : Sound t) (v : Word) : Sound (t.setLaddr v) := by
  unfold State.setLaddr
  split <;> exact h

theorem Sound.setCurlcntr (h : Sound t) (v : Word) : Sound (t.setCurlcntr v) := by
  unfold State.setCurlcntr
  split <;> exact h

theorem Sound.setTested (h : Sound t) (v : Bool) : Sound (t.setTested v) := by
  unfold State.setTested
  split <;> exact h

theorem writeSReg_sound (h : Sound t) (x : SReg) (v : Word) : Sound (writeSReg x v t) := by
  cases x
  case irptl => exact { h with irptl := h.irptl.write v }
  case imask => exact { h with imask := h.imask.write v }
  all_goals exact h

theorem writePcstk_sound (h : Sound t) (v : Word) : KeepsSound (writePcstk v t) := by
  unfold writePcstk
  refine Res.yields_bind fun d => ?_
  split <;> exact Res.yields_next.mpr h

theorem writeUReg_sound (h : Sound t) (u : UReg) (v : Word) : KeepsSound (writeUReg u v t) := by
  cases u with
  | r n => exact Res.yields_next.mpr (h.setReg32 .x n v)
  | s n => exact Res.yields_next.mpr (h.setReg32 .y n v)
  | i n => exact Res.yields_next.mpr (h.setI n v)
  | m n => exact Res.yields_next.mpr (h.setDagOf n _)
  | l n => exact Res.yields_next.mpr (h.setDagOf n _)
  | b n => exact Res.yields_next.mpr (h.setDagOf n _)
  | pcstk => exact writePcstk_sound h v
  | pcstkp => exact .ite (Res.yields_next.mpr h) (Res.yields_next.mpr h)
  | laddr => exact .ite Res.yields_refused (Res.yields_next.mpr (h.setLaddr v))
  | curlcntr => exact .ite Res.yields_refused (Res.yields_next.mpr (h.setCurlcntr v))
  | lcntr =>
    refine Res.yields_next.mpr ?_
    split <;> exact h
  | sys x => exact Res.yields_next.mpr (writeSReg_sound h x v)
  | faddr | daddr | pc | emuclk | emuclk2 | px | px1 | px2 | tperiod | tcount => exact Res.yields_next.mpr h

theorem moveUReg_sound (h : Sound t) (v : State) (dst src : UReg) : KeepsSound (moveUReg v dst src t) := by
  unfold moveUReg
  split
  · exact Res.yields_next.mpr (h.setReg _ _ _)
  · exact .ite (Res.yields_next.mpr (h.setReg _ _ _)) (Res.yields_bind fun x => writeUReg_sound h dst x)
  · exact .ite (Res.yields_next.mpr h) (writeUReg_sound h dst _)
  · refine .ite (.ite (Res.yields_next.mpr h) (Res.yields_bind fun lo => ?_))
      (Res.yields_bind fun x => writeUReg_sound h dst x)
    split
    · exact Res.yields_map fun _ => h
    · exact Res.yields_next.mpr h

theorem transfer_sound (h : Sound t) (v : State) (g : Gates) (dst src : UReg) : KeepsSound (transfer v g dst src t) := by
  refine Res.Yields.bind (.ite (moveUReg_sound h v dst src) (Res.yields_next.mpr h)) fun u hu => ?_
  refine .ite ?_ (Res.yields_next.mpr hu)
  split
  · exact Res.yields_next.mpr hu
  · split
    · exact moveUReg_sound hu v _ _
    · exact .ite (Res.yields_next.mpr hu) (moveUReg_sound hu v _ _)

theorem loadImmediate_sound (h : Sound t) (v : State) (u : UReg) (x : Word) : KeepsSound (loadImmediate v u x t) := by
  refine (writeUReg_sound h u x).bind fun w hw => .ite ?_ (Res.yields_next.mpr hw)
  split
  · exact writeUReg_sound hw _ x
  · exact Res.yields_next.mpr hw

theorem bitChange_sound (h : Sound s) (f : Word → Word) (x : SReg) : KeepsSound (bitChange f x s) := by
  have hx := writeSReg_sound h x (f (readSReg s x))
  refine .ite ?_ (Res.yields_next.mpr hx)
  split
  · exact Res.yields_next.mpr (writeSReg_sound hx _ _)
  · exact Res.yields_next.mpr hx

theorem sregTest_sound (h : Sound s) (f : Word → Bool) (x : SReg) : KeepsSound (sregTest f x s) := by
  refine Res.yields_next.mpr ?_
  split
  · exact (h.setAstat _ _).setAstat _ _
  · exact h.setAstat _ _

/-! ## Index registers -/

theorem noteWrap_sound (h : Sound t) (a : RegNum) (wrapped : Bool) : Sound (noteWrap a wrapped t) := by
  unfold noteWrap
  split
  · exact h
  · split <;> exact h

theorem postMod_sound (h : Sound t) (v : State) (go : Bool) (a : RegNum) (k : Word) : Sound (postMod v go a k t) := by
  unfold postMod
  split
  · split
    · exact noteWrap_sound (h.setI _ _) _ _
    · exact h.setI _ _
  · exact h

theorem modifyIndex_sound (h : Sound t) (v : State) (src dst : RegNum) (k : Word) :
    Sound (modifyIndex v src dst k t) := by
  unfold modifyIndex
  split <;> exact h.setI _ _

/-! ## Memory transfers -/

theorem noteBus_sound (h : Sound t) (pm write : Bool) (addr : Word) : Sound (noteBus pm write addr t) := by
  rw [noteBus_eq]
  exact h

theorem noteIllegal_sound (h : Sound t) (v : State) (lw : Bool) (addr : Word) : Sound (noteIllegal v lw addr t) := by
  unfold noteIllegal
  dsimp only
  repeat' split
  all_goals exact h

theorem noteAccess_sound (h : Sound t) (v : State) (pm write lw : Bool) (addr : Word) :
    Sound (noteAccess v pm write lw addr t) := noteIllegal_sound (noteBus_sound h pm write addr) v lw addr

theorem performStore_sound (h : Sound t) (addr : Word) (a : Access) (d : StoreData) : Sound (performStore addr a d t) := by
  rcases performStore_eq addr a d t with ⟨-, e⟩ | ⟨-, e⟩ <;> rw [e]
  · rw [writeIop_eq]
    exact h
  · exact { h with memory := storeMem_wf a d h.memory }

theorem loadUReg_sound (h : Sound t) (u : UReg) (d : LoadData) : KeepsSound (loadUReg u d t) := by
  cases d with
  | v32 v => exact .ite (writeUReg_sound h _ v) (writeUReg_sound h u v)
  | v48 v => exact Res.yields_next.mpr h
  | v40 v =>
    unfold loadUReg
    dsimp only
    split
    · exact Res.yields_next.mpr (h.setReg _ _ _)
    · exact Res.yields_next.mpr h
  | v64 lo hi =>
    refine .ite (Res.yields_next.mpr h) ((writeUReg_sound h u lo).bind fun w hw => ?_)
    split
    · exact writeUReg_sound hw _ hi
    · exact Res.yields_next.mpr hw

theorem implicitly_sound {f : Access → State → Res State} (h : Sound t) (hf : ∀ a, KeepsSound (f a t)) (v : State)
    (go : Bool) (x : Transfer) (k : RegClass) : KeepsSound (implicitly v go x k f t) := fun u hu => by
  obtain ⟨-, rfl⟩ | ⟨-, ⟨-, rfl⟩ | ⟨a, w, -, hw, rfl⟩⟩ := implicitly_eq_next.mp hu
  · exact h
  · exact h
  · exact hf a w hw

theorem accessStore_sound (h : Sound t) (v : State) (g : Gates) (x : Transfer) (k : RegClass) (d : StoreData)
    (dc : Option StoreData) : KeepsSound (accessStore v g x k d dc t) := by
  refine .ite Res.yields_refused (Res.Yields.bind (p := Sound) (.ite ?_ (Res.yields_next.mpr h)) fun u hu => ?_)
  · exact Res.yields_map fun a => noteAccess_sound (performStore_sound h _ a d) v _ _ _ _
  · cases dc with
    | none => exact Res.yields_next.mpr hu
    | some c =>
      refine implicitly_sound hu (fun a => ?_) v _ x k
      exact Res.yields_next.mpr (performStore_sound hu _ a c)

theorem storeUReg_sound (h : Sound t) (v : State) (g : Gates) (x : Transfer) (u : UReg) :
    KeepsSound (storeUReg v g x u t) := by
  unfold storeUReg
  split
  · exact Res.yields_bind fun d => Res.yields_bind fun dc => accessStore_sound h v g x _ d _
  · exact .ite (Res.yields_bind fun d => accessStore_sound h v g x _ d _) (Res.yields_next.mpr h)

theorem loadTransfer_sound (h : Sound t) (v : State) (g : Gates) (x : Transfer) (u : UReg) :
    KeepsSound (loadTransfer v g x u t) := by
  refine Res.Yields.bind (p := Sound) (.ite (Res.yields_bind fun a => ?_) (Res.yields_next.mpr h)) fun w hw => ?_
  · refine Res.Yields.bind (p := Sound) (.ite (loadUReg_sound h u _) (Res.yields_next.mpr h)) fun w hw => ?_
    refine Res.Yields.map (p := Sound) ?_ fun y hy => ?_
    · split
      · exact .ite (loadUReg_sound hw _ _) (Res.yields_next.mpr hw)
      · exact Res.yields_next.mpr hw
    · exact (noteAccess_sound hy v _ _ _ _).ite (noteBus_sound hy _ _ _)
  · split
    · exact .ite (Res.yields_next.mpr hw) (implicitly_sound hw (fun a => loadUReg_sound hw _ _) v _ x _)
    · exact Res.yields_next.mpr hw

theorem access_sound (h : Sound t) (v : State) (g : Gates) (x : Transfer) (write : Bool) (u : UReg) :
    KeepsSound (access v g x write u t) := .ite (storeUReg_sound h v g x u) (loadTransfer_sound h v g x u)

/-! ## Stacks -/

theorem pushPc_sound (h : Sound t) (entry : BitVec 26) : KeepsSound (pushPc entry t) := fun u hu => by
  obtain ⟨d, -, rfl⟩ := pushPc_eq_next.mp hu
  rw [bumpPc_eq]
  split <;> exact h

theorem popPc_sound (h : Sound t) : Res.Yields (fun r => Sound r.2) (popPc t) := fun ⟨e, u⟩ hu => by
  obtain ⟨d, -, -, -, rfl⟩ := popPc_eq_next.mp hu
  exact h

theorem pushLoop_sound (h : Sound t) (laddr count : Word) : KeepsSound (pushLoop laddr count t) := fun u hu => by
  obtain ⟨-, rfl⟩ := pushLoop_eq_next.mp hu
  split
  · next hl =>
    have hd : Sound (t.setSeq { t.seq with ld := t.seq.ld + 1 }) := { h with loops := hl }
    exact ((hd.setTested _).setLaddr _).setCurlcntr _
  · exact h

theorem popLoop_sound (h : Sound t) : KeepsSound (popLoop t) := fun u hu => by
  obtain ⟨-, -, rfl⟩ := popLoop_eq_next.mp hu
  exact { h with loops := (Nat.sub_le _ _).trans h.loops }

theorem saveStatus_sound (h : Sound t) : Sound (saveStatus t) := by
  rw [saveStatus_eq]
  split
  · next hl => exact { h with statuses := hl }
  · exact h

theorem takeStatus_sound (h : Sound t) : Res.Yields (fun r => Sound r.2) (takeStatus t) := fun ⟨e, u⟩ hu => by
  obtain ⟨-, rest, hs, rfl⟩ := takeStatus_eq_next.mp hu
  have hl := h.statuses
  rw [hs] at hl
  exact { h with statuses := (Nat.le_succ _).trans hl }

theorem popStatus_sound (h : Sound t) : KeepsSound (popStatus t) :=
  Res.Yields.bind (takeStatus_sound h) fun _ hr => Res.yields_next.mpr hr

theorem pushStatus_sound (h : Sound t) : Sound (pushStatus t) := saveStatus_sound h

/-! ## Interrupts -/

theorem Sound.clearLatch (h : Sound t) (p : Nat) : Sound (t.setLatch p false) := by
  unfold State.setLatch
  split
  · exact h
  · exact { h with irptl := ⟨putBit_false_and_three h.irptl.1 _, h.irptl.2⟩ }

theorem Sound.setMaskp (h : Sound t) (p : Nat) (b : Bool) : Sound (t.setMaskp p b) := by
  unfold State.setMaskp
  split <;> exact h

theorem takeInterrupt_sound (h : Sound t) (p : Nat) : KeepsSound (takeInterrupt p t) := fun u hu => by
  obtain ⟨w, hw, rfl⟩ := takeInterrupt_eq_next.mp hu
  have hw : Sound w := pushPc_sound (t := t.setSeq { t.seq with idle := false }) h _ w hw
  have hv : Sound (if pushesStatus p then pushStatus w else w) := by
    split
    · exact pushStatus_sound hw
    · exact hw
  exact (hv.clearLatch p).setMaskp p true

theorem clearInterrupt_sound (h : Sound t) : KeepsSound (clearInterrupt t) := fun u hu => by
  cases hs : inService t with
  | none =>
    rw [clearInterrupt_none hs] at hu
    cases hu
    exact h
  | some p =>
    obtain ⟨w, hw, rfl⟩ := (clearInterrupt_eq_next hs).mp hu
    have hw : Sound w := Res.Yields.ite (popStatus_sound h) (Res.yields_next.mpr h) w hw
    split <;> exact (hw.clearLatch p).setMaskp p false

theorem returnFromInterrupt_sound (h : Sound t) : Res.Yields (fun r => Sound r.2) (returnFromInterrupt t) :=
  (clearInterrupt_sound h).bind fun _ hu => (popPc_sound hu).bind fun _ hr => Res.yields_next.mpr hr

end Sys2Proof.Machine
end

section
/-! Every instruction, the parts of a step around it and its end keep the invariant, so every step does. -/

namespace Sys2Proof.Machine

open Sys2Proof.Safety

variable {s t : State}

/-! ## Instructions of groups I and III -/

theorem dualMove_sound (h : Sound s) (dmd : Bool) (dmi dmm : DagNum) (pmd : Bool) (dr : RegNum) (pmi pmm : DagNum)
    (pr : RegNum) (c : Compute) : KeepsSound (dualMove dmd dmi dmm pmd dr pmi pmm pr c s) := by
  refine (doCompute_sound h s .open c).bind fun t ht => ?_
  refine Res.Yields.bind (p := Sound) (.ite (access_sound ht _ _ _ _ _) (Res.yields_next.mpr ht)) fun u hu => ?_
  refine (access_sound hu _ _ _ _ _).bind fun v hv => ?_
  refine Res.Yields.bind (p := Sound) (.ite (Res.yields_next.mpr hv) (access_sound hv _ _ _ _ _)) fun w hw => ?_
  exact Res.yields_next.mpr (postMod_sound (postMod_sound hw _ _ _ _) _ _ _ _)

theorem conditionalCompute_sound (h : Sound s) (cond : Cond) (c : Compute) : KeepsSound (conditionalCompute cond c s) :=
  (doCompute_sound h s _ c).map fun _ ht => ht

theorem indexedMove_sound (h : Sound s) (g : Gates) (pm : Bool) (i : DagNum) (mod : Word) (post lw write : Bool)
    (u : UReg) (conditional : Bool) (c : Compute) :
    KeepsSound (indexedMove s g pm i mod post lw write u conditional c) := by
  refine .ite Res.yields_refused ((doCompute_sound h s g c).bind fun t ht => ?_)
  exact (access_sound ht _ _ _ _ _).bind fun v hv => Res.yields_next.mpr (postMod_sound hv _ _ _ _)

theorem regMove_sound (h : Sound s) (src : UReg) (cond : Cond) (dst : UReg) (c : Compute) :
    KeepsSound (regMove src cond dst c s) :=
  (doCompute_sound h s _ c).bind fun _ ht => (transfer_sound ht s _ dst src).map fun _ hu => hu

theorem regSwap_sound (h : Sound s) (cd : RegNum) (cond : Cond) (d : RegNum) (c : Compute) :
    KeepsSound (regSwap cd cond d c s) := by
  refine (doCompute_sound h s _ c).bind fun t ht => Res.yields_next.mpr ?_
  have hx := (ht.setReg .x d (s.reg .y cd)).ite (c := (gates s false cond).cx) ht
  exact (hx.setReg .y cd (s.reg .x d)).ite (c := (gates s false cond).cy) hx

theorem shiftMem_sound (h : Sound s) (i m : DagNum) (cond : Cond) (g d : Bool) (dreg : RegNum) (sh : ShiftImm) :
    KeepsSound (execShiftMem6a i m cond g d dreg sh s) :=
  (access_sound (doShift_sound h s _ sh) _ _ _ _ _).bind fun _ ht => Res.yields_next.mpr (postMod_sound ht _ _ _ _)

theorem indexModify_sound (h : Sound s) (g : Bool) (cond : Cond) (is m idx : DagNum) (c : Compute) :
    KeepsSound (indexModify g cond is m idx c s) := by
  refine (doCompute_sound h s _ c).bind fun t ht => Res.yields_next.mpr ?_
  exact (modifyIndex_sound ht _ _ _ _).ite (c := (gates s false cond).any) ht

theorem storeImmediate_sound (h : Sound s) (i m : DagNum) (g : Bool) (data : Word) :
    KeepsSound (storeImmediate i m g data s) :=
  (accessStore_sound h _ _ _ _ _ _).map fun _ ht => postMod_sound ht _ _ _ _

/-! ## Instructions of groups II and IV -/

theorem goTo_sound (h : Sound t) (j : Bool) (target : Addr24) : Sound (goTo j target t) := by
  unfold goTo
  split <;> exact h

theorem abortLoop_sound (h : Sound t) : KeepsSound (abortLoop t) :=
  (popLoop_sound h).bind fun _ hu => (popPc_sound hu).bind fun _ hr => Res.yields_next.mpr hr

theorem jump_sound (h : Sound t) (take a j ci : Bool) (target : Addr24) : KeepsSound (jump take a j ci target t) := by
  refine .ite ?_ (Res.yields_next.mpr h)
  refine Res.Yields.bind (p := Sound) (.ite (abortLoop_sound h) (Res.yields_next.mpr h)) fun u hu => ?_
  refine Res.Yields.bind (p := Sound) (.ite (clearInterrupt_sound hu) (Res.yields_next.mpr hu)) fun w hw => ?_
  exact Res.yields_next.mpr (goTo_sound hw j target)

theorem call_sound (h : Sound t) (v : State) (take j : Bool) (k : Nat) (target : Addr24) :
    KeepsSound (call v take j k target t) :=
  .ite (Res.yields_bind fun _ => (pushPc_sound h _).map fun _ hu => goTo_sound hu j target) (Res.yields_next.mpr h)

theorem doRts_sound (h : Sound t) (take j : Bool) : KeepsSound (doRts take j t) :=
  .ite ((popPc_sound h).map fun _ hr => goTo_sound hr j _) (Res.yields_next.mpr h)

theorem doRti_sound (h : Sound t) (take j : Bool) : KeepsSound (doRti take j t) :=
  .ite ((returnFromInterrupt_sound h).map fun _ hr => goTo_sound hr j _) (Res.yields_next.mpr h)

theorem branchWith_sound {f : Bool → State → Res State} (h : Sound s) (hf : ∀ take t, Sound t → KeepsSound (f take t))
    (cond : Cond) (e : Bool) (c : Compute) : KeepsSound (branchWith cond e c f s) :=
  (doCompute_sound h s _ c).bind fun _ ht => (hf _ _ ht).map fun _ hu => hu

theorem jumpElseMove_sound (h : Sound s) (d : Bool) (dmi dmm : DagNum) (cond : Cond) (target : Addr24) (dreg : RegNum)
    (c : Compute) : KeepsSound (jumpElseMove d dmi dmm cond target dreg c s) :=
  (doCompute_sound h s _ c).bind fun _ ht => (access_sound ht _ _ _ _ _).bind fun _ hu =>
    (jump_sound (postMod_sound hu _ _ _ _) _ _ _ _ _).map fun _ hw => hw

theorem doLoop_sound (h : Sound t) (rel : Addr24) (term : Term) (count : Word) :
    KeepsSound (doLoop rel term count t) :=
  .ite Res.yields_refused ((pushPc_sound h _).bind fun _ hu => (pushLoop_sound hu _ _).map fun _ hw => hw)

theorem doPushLoop_sound (h : Sound t) : KeepsSound (doPushLoop t) := (pushLoop_sound h _ _).map fun _ hu => hu

theorem doPopLoop_sound (h : Sound t) : KeepsSound (doPopLoop t) := (popLoop_sound h).map fun _ hu => hu

theorem doPushSts_sound (h : Sound t) : KeepsSound (doPushSts t) := Res.yields_next.mpr (saveStatus_sound h)

theorem doPopSts_sound (h : Sound t) : KeepsSound (doPopSts t) := (takeStatus_sound h).map fun _ hr => hr

theorem doPopPcstk_sound (h : Sound t) : KeepsSound (doPopPcstk t) := (popPc_sound h).map fun _ hr => hr

theorem pushPcPointer_sound (h : Sound t) : KeepsSound (pushPcPointer t) := pushPc_sound h _

theorem when_sound {f : State → Res State} (h : Sound t) (hf : ∀ u, Sound u → KeepsSound (f u)) (b : Bool) :
    KeepsSound (when b f t) := .ite (hf t h) (Res.yields_next.mpr h)

theorem stackOps_sound (h : Sound s) (lpu lpo spu spo ppu ppo fc : Bool) :
    KeepsSound (execStackOps20a lpu lpo spu spo ppu ppo fc s) := by
  refine .ite Res.yields_refused ?_
  refine (when_sound h (fun _ => doPushLoop_sound) lpu).bind fun _ h => ?_
  refine (when_sound h (fun _ => doPopLoop_sound) lpo).bind fun _ h => ?_
  refine (when_sound h (fun _ => doPushSts_sound) spu).bind fun _ h => ?_
  refine (when_sound h (fun _ => doPopSts_sound) spo).bind fun _ h => ?_
  refine (when_sound h (fun _ => pushPcPointer_sound) ppu).bind fun _ h => ?_
  refine (when_sound h (fun _ => doPopPcstk_sound) ppo).bind fun u h => Res.yields_next.mpr ?_
  exact Sound.ite (s := flushCache u) h h

theorem cjump_sound (h : Sound s) (target : Addr24) : KeepsSound (cjump target s) := by
  have hx := h.setReg32 .x 2 (s.ireg 6)
  have hy := (hx.setReg32 .y 2 (s.ireg 6)).ite (c := s.simd) hx
  exact Res.yields_next.mpr (goTo_sound (hy.setI 6 (s.ireg 7)) true target)

theorem rframe_sound (h : Sound s) : KeepsSound (rframe s) := loadTransfer_sound (h.setI 7 (s.ireg 6)) _ _ _ _

/-! ## Every instruction -/

/-- The instructions that are a compute or a shift alone come last, together. -/
theorem exec_sound (i : Instr) (h : Sound s) : KeepsSound (exec i s) := by
  unfold exec
  cases i with
  | dualMove1a | dualMove1b => exact dualMove_sound h _ _ _ _ _ _ _ _ _
  | compute2a | compute2b => exact conditionalCompute_sound h _ _
  | memUreg3a | memUreg3b | memDreg3c | memDreg4a | memDreg4b | memOffset15a | memOffset15b =>
    exact indexedMove_sound h _ _ _ _ _ _ _ _ _ _
  | move5a | move5b => exact regMove_sound h _ _ _ _
  | swap5a | swap5b => exact regSwap_sound h _ _ _ _
  | shiftMem6a => exact shiftMem_sound h _ _ _ _ _ _ _
  | shift6a => exact Res.yields_next.mpr (doShift_sound h _ _ _)
  | modify7a | modify7b => exact indexModify_sound h _ _ _ _ _ _
  | jumpDirect8a | jumpRel8a | jumpInd9a | jumpRel9a | jumpInd9b | jumpRel9b =>
    exact branchWith_sound h (fun _ _ ht => jump_sound ht _ _ _ _ _) _ _ _
  | callDirect8a | callRel8a | callInd9a | callRel9a | callInd9b | callRel9b =>
    exact branchWith_sound h (fun _ _ ht => call_sound ht _ _ _ _ _) _ _ _
  | jumpInd10a | jumpRel10a => exact jumpElseMove_sound h _ _ _ _ _ _ _
  | rts11a | rts11c => exact branchWith_sound h (fun _ _ ht => doRts_sound ht _ _) _ _ _
  | rti11a | rti11c => exact branchWith_sound h (fun _ _ ht => doRti_sound ht _ _) _ _ _
  | doImm12a => exact (writeUReg_sound h _ _).bind fun _ ht => doLoop_sound ht _ _ _
  | doUreg12a => exact Res.yields_bind fun _ => (writeUReg_sound h _ _).bind fun _ ht => doLoop_sound ht _ _ _
  | doUntil13a => exact doLoop_sound h _ _ _
  | memDirect14a => exact access_sound h _ _ _ _ _
  | storeImm16a | storeImm16b => exact storeImmediate_sound h _ _ _ _
  | loadImm17a | loadImm17b => exact loadImmediate_sound h _ _ _
  | bitSet18a | bitClr18a | bitTgl18a => exact bitChange_sound h _ _
  | bitTst18a | bitXor18a => exact sregTest_sound h _ _
  | modifyImm19a => exact Res.yields_next.mpr (modifyIndex_sound h _ _ _ _)
  | bitrev19a => exact Res.yields_next.mpr (h.setI _ _)
  | stackOps20a => exact stackOps_sound h _ _ _ _ _ _ _
  | pushLoop20a => exact doPushLoop_sound h
  | popLoop20a => exact doPopLoop_sound h
  | pushSts20a => exact doPushSts_sound h
  | popSts20a => exact doPopSts_sound h
  | pushPcstk20a => exact pushPcPointer_sound h
  | popPcstk20a => exact doPopPcstk_sound h
  | flushCache20a | nop21a | nop21c | idle22a | emuidle22a => exact Res.yields_next.mpr h
  | idle22c emu => exact Res.yields_next.mpr (h.ite (t := goIdle s) h)
  | cjumpDirect25a | cjumpRel25a => exact cjump_sound h _
  | rframe25a | rframe25c => exact rframe_sound h
  | lshiftImm | orLshiftImm | ashiftImm | orAshiftImm | rotImm | bclrImm | bsetImm | btglImm | btstImm | fdepImm
  | orFdepImm | fdepSeImm | orFdepSeImm | fextImm | fextSeImm | bitdepImm | bitextImm | bitextNuImm | bffwrpImm =>
    exact shiftOnly_sound h _
  | _ => exact computeOnly_sound h _

end Sys2Proof.Machine
end

section
/-! The parts of a step around its instruction keep the invariant, and the end of the step settles what they left pending:
every step keeps the invariant between steps (`Inv`). -/

namespace Sys2Proof.Machine

open Sys2Proof.Safety

variable {s t : State}

/-! ## Around the instruction -/

theorem loopTest_sound (k : Nat) (h : Sound s) : KeepsSound (loopTest k s) := by
  induction k generalizing s with
  | zero => exact Res.yields_next.mpr h
  | succ k ih =>
    refine .ite (.ite Res.yields_refused (.ite ?_ ?_)) (Res.yields_next.mpr h)
    · exact (popLoop_sound h).bind fun _ hu => (popPc_sound hu).bind fun _ hr => ih hr
    · exact Res.yields_next.mpr ((h.setCurlcntr _).setTested _)

theorem arithTest_sound (h : Sound s) : KeepsSound (arithTest s) := by
  refine .ite (.ite Res.yields_refused (Res.yields_bind fun entry => .ite ?_ (Res.yields_next.mpr h)))
    (Res.yields_next.mpr h)
  refine (popLoop_sound h).bind fun _ hu => (popPc_sound hu).bind fun _ hr => Res.yields_next.mpr ?_
  exact { hr with leaving := fun x hx => by cases hx; exact ⟨Nat.le_add_left 1 2, Nat.le_refl 3⟩ }

theorem loopBack_sound (h : Sound t) (n next : Addr24) : Res.Yields (fun r => Sound r.2) (loopBack n next t) :=
  .ite (.ite (Res.yields_next.mpr h) (.ite Res.yields_refused (Res.yields_map fun _ => h.setTested false)))
    (Res.yields_next.mpr h)

theorem flowOn_sound (h : Sound t) (n next : Addr24) : Res.Yields (fun r => Sound r.2) (flowOn n next t) := by
  unfold flowOn
  split
  · next x hx =>
    have hl := h.leaving x (leavingAt_eq_some.mp hx).1
    split
    · exact Res.yields_next.mpr { h with leaving := fun y hy => by cases hy }
    · next h1 => exact Res.yields_next.mpr { h with leaving := fun y hy => by cases hy; dsimp only; omega }
  · exact loopBack_sound h n next

/-- The delayed branch that is left pending has one or two slots to go, whatever was pending before. -/
theorem nextDelayed_count {pending : Option Delayed} {d : Delayed} (h : nextDelayed pending t = some d) :
    d.count = 1 ∨ d.count = 2 := by
  unfold nextDelayed at h
  split at h
  · cases h
    dsimp only
    split
    · exact .inl rfl
    · exact .inr rfl
  · split at h
    · split at h
      · cases h
        exact .inl rfl
      · cases h
    · cases h

theorem advance_sound (h : Sound t) (v : State) (count : Word) (len : Nat) : KeepsSound (advance v count len t) :=
  .ite ((flowOn_sound h _ _).map fun _ hr => { hr with delayed := fun _ hd => nextDelayed_count hd }) Res.yields_refused

theorem runInstr_sound (h : Sound s) : KeepsSound (runInstr s) := by
  refine ((loopTest_sound 7 h).bind fun _ => arithTest_sound).bind fun u hu => Res.yields_bind fun ⟨i, len⟩ => ?_
  exact .ite Res.yields_refused (.ite Res.yields_refused ((exec_sound i hu).bind fun _ ht => advance_sound ht u _ len))

/-! ## The latches -/

/-- The bit of an interrupt in IRPTL is none of the two lowest. -/
theorem two_le_latchBit {p : Nat} (hp : 2 ≤ p) (hl : inLirptl p = false) : 2 ≤ latchBit p := by
  simp only [inLirptl, Bool.or_eq_false_iff, Bool.and_eq_false_iff, decide_eq_false_iff_not] at hl
  unfold latchBit
  split_ifs <;> omega

/-- The latches of interrupts 0 and 1 are no part of the update. -/
theorem latchUpdate_and_three (events : BitVec 42) (imaskp maskpl irptl lirptl : Word) :
    (latchUpdate events imaskp maskpl irptl lirptl).1 &&& 3 = irptl &&& 3 := by
  unfold latchUpdate
  generalize List.range 42 = l
  induction l generalizing irptl lirptl with
  | nil => rfl
  | cons p l ih =>
    rw [List.foldl_cons]
    split
    · next hp =>
      split
      · exact ih _ _
      · next hl => rw [ih, putBit_and_three (two_le_latchBit hp.1 (by simpa using hl))]
    · exact ih _ _

/-! ## The end of the step -/

/-- The system registers at the end of a step, with the events of the step. -/
theorem endStep_sys (s : State) (inp : EnvInput) (ran : Option Addr24) (t : State) :
    ∃ events, (endStep s inp ran t).sys = t.sys.commit.latch events := by
  obtain ⟨c, e, v, ht⟩ := tickTimer_eq (inp.moreTicks + 1) t
  unfold endStep
  dsimp only
  rw [ht]
  cases ran with
  | none => exact ⟨_, rfl⟩
  | some n =>
    dsimp only
    obtain ⟨a, b, y, hb⟩ := breakpoints_eq n (tickEmuclk (inp.moreTicks + 1)
      { t with tcount := c, tmrexp := e, scratch := { t.scratch with events := v } })
    rw [hb]
    exact ⟨_, rfl⟩

theorem latch_interruptBits {y : SysRegs} (hr : y.irptl.LowBits 0) (hm : y.imask.LowBits 3) (events : BitVec 42) :
    InterruptBits (y.commit.latch events) := by
  refine ⟨?_, ?_, hm.commit.1, hm.commit.2⟩
  · exact (latchUpdate_and_three _ _ _ _ _).trans hr.commit.1
  · exact (latchUpdate_and_three _ _ _ _ _).trans hr.commit.2

/-- No register holds a pending write after the end of a step. -/
theorem endStep_settled (s : State) (inp : EnvInput) (ran : Option Addr24) (t : State) :
    Settled (endStep s inp ran t) := by
  obtain ⟨events, hsys⟩ := endStep_sys s inp ran t
  have he := endStep_ended s inp ran t
  unfold Settled
  rw [hsys, he.seq, he.sysctl, he.brkctl, he.brk]
  refine ⟨rfl, rfl, rfl, rfl, rfl, rfl, rfl, rfl, rfl, rfl, rfl, rfl, rfl, rfl, rfl, fun k => ?_⟩
  simp [Latent.commit]

/-- The end of a step makes of a sound state one that has the invariant. -/
theorem endStep_inv (h : Sound t) (s : State) (inp : EnvInput) (ran : Option Addr24) : Inv (endStep s inp ran t) := by
  obtain ⟨events, hsys⟩ := endStep_sys s inp ran t
  have he := endStep_ended s inp ran t
  exact
    { memory := he.mem ▸ h.memory
      loops := by rw [he.seq]; exact h.loops
      statuses := by rw [he.seq]; exact h.statuses
      delayed := by rw [he.seq]; exact h.delayed
      leaving := by rw [he.seq]; exact h.leaving
      quiet := he.scratch
      settled := endStep_settled s inp ran t
      interrupts := hsys ▸ latch_interruptBits h.irptl h.imask events }

/-! ## The step -/

/-- A state that has the invariant is sound when the input of its step is taken in. -/
theorem takeInput_sound (h : Inv s) : Sound s.takeInput := by
  obtain ⟨-, -, -, -, -, -, -, -, hr, hm, -⟩ := h.settled
  obtain ⟨hr3, -, hm3, -⟩ := h.interrupts
  exact
    { memory := dma_wf _ h.memory
      loops := h.loops
      statuses := h.statuses
      delayed := h.delayed
      leaving := h.leaving
      irptl := ⟨hr3, fun w hw => by rw [show s.takeInput.sys.irptl.wr = none from hr] at hw; cases hw⟩
      imask := ⟨hm3, fun w hw => by rw [show s.takeInput.sys.imask.wr = none from hm] at hw; cases hw⟩ }

/-- After reset: every stack is empty, nothing is pending, and interrupts 0 and 1 are unmasked. -/
theorem reset_inv : Inv State.reset where
  memory := reset_mem_wf
  loops := Nat.zero_le 6
  statuses := Nat.zero_le 15
  delayed _ hd := by cases hd
  leaving _ hx := by cases hx
  quiet := rfl
  settled := by unfold Settled; decide
  interrupts := by unfold InterruptBits; decide

/-- A restart leaves memory, and all that the invariant says of the rest is as after reset. -/
theorem restart_inv (h : Memory.wf s.mem = true) : Inv s.restart := { reset_inv with memory := h }

theorem stepWith_inv (h : Sound s) (inp : EnvInput) : Res.Yields Inv (stepWith inp s) := by
  refine .ite (Res.yields_next.mpr (restart_inv h.memory)) ?_
  split
  · next p _ => exact (takeInterrupt_sound h p).map fun _ ht => endStep_inv ht s inp none
  · exact .ite (Res.yields_next.mpr (endStep_inv h s inp none))
      ((runInstr_sound h).map fun _ ht => endStep_inv ht s inp _)

/-- Settles O50. -/
theorem resetInv : Obligations.ResetInv := reset_inv

/-- Settles O51: the input leaves the state sound (`Sound`), every part of the step keeps it so, and the end of the step
takes in what is pending. -/
theorem stepKeepsInv : Obligations.StepKeepsInv := by
  unfold Obligations.StepKeepsInv
  exact fun s t h ht => stepWith_inv (takeInput_sound h) s.input t ht

end Sys2Proof.Machine
end

section
/-! What reset leaves, and that an asserted reset leaves it. -/

namespace Sys2Proof.Machine

open Sys2Proof.Safety

/-- The input of a step leaves SYSCTL. -/
@[simp] theorem State.takeInput_sysctl (s : State) : s.takeInput.iop.sysctl = s.iop.sysctl := rfl

/-- A step in which reset is asserted, from outside or by SYSCTL.SRST, is a restart. -/
theorem step_of_reset {s : State} (h : s.input.reset = true ∨ s.iop.sysctl.eff.getLsbD 0 = true) :
    step s = .next s.takeInput.restart := by
  unfold step stepWith
  rw [State.takeInput_sysctl, if_pos h]

theorem reset_readSReg :
    ∀ p ∈ ([(.mode1, 0), (.mode2, 0x42000000), (.mmask, 0x00200000), (.irptl, 0), (.imask, 3), (.imaskp, 0),
      (.lirptl, 0), (.astatx, 0), (.astaty, 0), (.stkyx, 0x05400000), (.ustat1, 0), (.ustat2, 0), (.ustat3, 0),
      (.ustat4, 0)] : List (SReg × Word)), readSReg State.reset p.1 = p.2 := by decide

theorem reset_readUReg :
    ∀ p ∈ ([(.pcstk, 0x03FFFFFF), (.pcstkp, 0), (.laddr, 0xFFFFFFFF), (.curlcntr, 0xFFFFFFFF), (.tperiod, 0),
      (.tcount, 0)] : List (UReg × Word)), readUReg State.reset p.1 = .next p.2 := by
  simp only [List.forall_mem_cons, List.not_mem_nil, IsEmpty.forall_iff, implies_true, and_true]
  exact ⟨rfl, rfl, rfl, rfl, rfl, rfl⟩

/-- Settles O49: the reset values by evaluation, the step of an asserted reset by `step_of_reset`. -/
theorem resetState : Obligations.ResetState := by
  unfold Obligations.ResetState
  refine ⟨reset_readSReg, reset_readUReg, rfl, rfl, rfl, rfl, by decide, fun s h => ?_⟩
  exact ⟨s.takeInput.restart, step_of_reset h, rfl⟩

end Sys2Proof.Machine
end

section
/-! Frames of one element (`UnitFrame`), built up write by write. -/

namespace Sys2Proof.Safety

open Sys2Proof.Machine

variable {s t u : State} {e : Elem} {regs : List RegNum} {acc : Option Bool} {fifo : Bool} {flags sticky : Word}

theorem UnitFrame.refl (s : State) (e : Elem) (regs : List RegNum) (acc : Option Bool) (fifo : Bool)
    (flags sticky : Word) : UnitFrame s s e regs acc fifo flags sticky where
  primary _ := .inr rfl
  alternate _ := .inr rfl
  accs _ := .inr rfl
  bits := .inr ⟨rfl, rfl⟩
  astat := ⟨rfl, rfl, rfl⟩
  stky := ⟨rfl, rfl, rfl, by simp⟩

/-- The frame is about the element and the system registers. -/
theorem UnitFrame.congr (h : UnitFrame s t e regs acc fifo flags sticky) (hp : u.pe e = t.pe e) (hs : u.sys = t.sys) :
    UnitFrame s u e regs acc fifo flags sticky := by
  have hm (bg : Bool) : u.mr e bg = t.mr e bg := by unfold State.mr State.mode1; rw [hp, hs]
  have ha : u.astat e = t.astat e := by cases e <;> simp only [State.astat, hs]
  have hk : u.stky e = t.stky e := by cases e <;> simp only [State.stky, hs]
  exact
    { primary := by simpa only [hp] using h.primary
      alternate := by simpa only [hp] using h.alternate
      accs := by simpa only [hm] using h.accs
      bits := by simpa only [hp] using h.bits
      astat := by simpa only [ha] using h.astat
      stky := by simpa only [hk] using h.stky }

/-- A data register of the frame may be written. -/
theorem UnitFrame.setReg (h : UnitFrame s t e regs acc fifo flags sticky) {n : RegNum} (hn : n ∈ regs)
    (ha : t.altReg n = s.altReg n) (v : Ext) : UnitFrame s (t.setReg e n v) e regs acc fifo flags sticky where
  primary m := by
    cases hs : t.altReg n with
    | true => simpa [State.setReg, hs] using h.primary m
    | false =>
      by_cases hm : m = n
      · exact .inl ⟨hm ▸ hn, by rw [hm, ← ha, hs]⟩
      · have hne : n.toNat ≠ m.toNat := fun c => hm (BitVec.eq_of_toNat_eq c).symm
        simpa [State.setReg, hs, Vector.getElem_set_ne, hne] using h.primary m
  alternate m := by
    cases hs : t.altReg n with
    | false => simpa [State.setReg, hs] using h.alternate m
    | true =>
      by_cases hm : m = n
      · exact .inl ⟨hm ▸ hn, by rw [hm, ← ha, hs]⟩
      · have hne : n.toNat ≠ m.toNat := fun c => hm (BitVec.eq_of_toNat_eq c).symm
        simpa [State.setReg, hs, Vector.getElem_set_ne, hne] using h.alternate m
  accs bg := by simpa using h.accs bg
  bits := by simpa using h.bits
  astat := by simpa using h.astat
  stky := by simpa using h.stky

/-- A sticky bit of the frame may be set. -/
theorem UnitFrame.stick (h : UnitFrame s t e regs acc fifo flags sticky) {bits : Word} (hb : bits ||| sticky = sticky) :
    UnitFrame s (t.stick e bits) e regs acc fifo flags sticky where
  primary m := by simpa using h.primary m
  alternate m := by simpa using h.alternate m
  accs bg := by simpa using h.accs bg
  bits := by simpa using h.bits
  astat := by simpa using h.astat
  stky := by
    obtain ⟨heff, hwr, hor, hand⟩ := h.stky
    rw [State.stick_stky]
    refine ⟨heff, hwr, ?_, ?_⟩
    · rw [Latent.hw_val, BitVec.or_assoc, hb, hor]
    · calc (s.stky e).val &&& ~~~((t.stky e).val ||| bits)
          = ((s.stky e).val &&& ~~~(t.stky e).val) &&& ~~~bits := by rw [BitVec.not_or, BitVec.and_assoc]
        _ = 0 := by rw [hand]; simp

end Sys2Proof.Safety
end

section
/-! IOP space by type 14 of a data register of PEx: what the load and the store leave, by the register's own read and write
(`readIop`, `noteIopRead`, `writeIop`), and what these are for each register. -/

namespace Sys2Proof.Machine

open Sys2Proof.Safety

variable {s : State} {a : Word} {n : RegNum}

/-! ## The access -/

theorem classify_iop (ha : a.toNat < 0x40000) (k : RegClass) : classify s a k false false = .next .iop := by
  simp [classify, ha]

/-- A register of IOP space has no implicit access beside it. -/
theorem implicitly_iop {x : Transfer} (hx : x.addr.toNat < 0x40000) (go : Bool) (k : RegClass)
    (f : Access → State → Res State) (t : State) : implicitly s go x k f t = .next t := by
  have hi : implicitAccess s x.addr k x.lw = .next none := by
    unfold implicitAccess
    rw [if_pos (.inl (by omega))]
  rw [implicitly_eq_next]
  cases hg : s.simd && go
  · exact .inl ⟨rfl, rfl⟩
  · exact .inr ⟨rfl, .inl ⟨hi, rfl⟩⟩

theorem exec_loadIop (ha : a.toNat < 0x40000) (pm : Bool) :
    exec (.memDirect14a pm false false (.r n) a) s =
      .next (noteAccess s pm false false a (s.setReg32 .x n (readIop s a))) := by
  change loadTransfer s .open _ (.r n) s = _
  simp [loadTransfer, UReg.complement, UReg.dreg, Gates.open, broadcasts, classify_iop ha, loadData, loadUReg, writeUReg,
    implicitly_iop (x := ⟨pm, a, false, false, false, none⟩) ha]

theorem exec_storeIop (ha : a.toNat < 0x40000) (pm : Bool) :
    exec (.memDirect14a pm true false (.r n) a) s =
      .next (noteAccess s pm true false a (writeIop a (s.reg32 .x n) s)) := by
  change storeUReg s .open _ (.r n) s = _
  simp [storeUReg, UReg.complement, storeData, accessStore, Gates.open, Gates.any, pairToIop, classify_iop ha,
    performStore, implicitly_iop (x := ⟨pm, a, false, false, false, none⟩) ha]

/-! ## Its notes -/

/-- What a read does beside giving the value depends on the registers of IOP space alone. -/
theorem noteIopRead_congr {t : State} (hi : t.iop = s.iop) (hp : t.platform = s.platform) :
    (noteIopRead a t).iop = (noteIopRead a s).iop ∧ (noteIopRead a t).platform = (noteIopRead a s).platform := by
  unfold noteIopRead
  split
  · exact ⟨by simp [hi], hp⟩
  · split
    · exact ⟨hi, hp⟩
    · exact ⟨hi, by simp [hp]⟩

theorem noteIllegal_iop (ha : a.toNat < 0x40000) (t : State) :
    ∃ k v, k ||| 0x80000 = 0x80000 ∧ noteIllegal s false a t = (t.stick .x k).setScratch v := by
  unfold noteIllegal
  dsimp only
  rw [if_pos ha]
  split
  · exact ⟨0x80000, _, rfl, rfl⟩
  · exact ⟨0, t.scratch, rfl, by simp [State.stick, State.setSys, State.setScratch, Latent.hw]⟩

/-- The notes of an access to IOP space: bit 19 of STKYx, the notes for the end of the step, and of a read what it does. -/
theorem noteAccess_iop (ha : a.toNat < 0x40000) (pm write : Bool) (t : State) :
    ∃ k v w, k ||| 0x80000 = 0x80000 ∧ noteAccess s pm write false a t =
      ((if write then t.setScratch w else noteIopRead a (t.setScratch w)).stick .x k).setScratch v := by
  obtain ⟨k, v, hk, h⟩ := noteIllegal_iop (s := s) ha (noteBus pm write a t)
  refine ⟨k, v, { t.scratch with
    accesses := t.scratch.accesses ++ [{ pm := pm, write := write, addr := a }]
    pmUsed := t.scratch.pmUsed || pm }, hk, ?_⟩
  unfold noteAccess
  rw [h]
  unfold noteBus
  cases write <;> simp [ha] <;> rfl

/-! ## What the load and the store leave -/

@[simp] theorem noteIopRead_pe (t : State) (e : Elem) : (noteIopRead a t).pe e = t.pe e := by
  rw [noteIopRead_eq]
  cases e <;> rfl

@[simp] theorem noteIopRead_sys (t : State) : (noteIopRead a t).sys = t.sys := by rw [noteIopRead_eq]

@[simp] theorem noteIopRead_mem (t : State) : (noteIopRead a t).mem = t.mem := by rw [noteIopRead_eq]

@[simp] theorem noteIopRead_reg (t : State) (e : Elem) (n : RegNum) : (noteIopRead a t).reg e n = t.reg e n := by
  rw [noteIopRead_eq]
  cases e <;> rfl

@[simp] theorem noteIopRead_astat (t : State) (e : Elem) : (noteIopRead a t).astat e = t.astat e := by
  cases e <;> simp [State.astat]

@[simp] theorem noteIopRead_stky (t : State) (e : Elem) : (noteIopRead a t).stky e = t.stky e := by
  cases e <;> simp [State.stky]

theorem loadIop_gives (ha : a.toNat < 0x40000) (pm : Bool) :
    gives (.memDirect14a pm false false (.r n) a) s fun t =>
      t.reg .x n = (readIop s a).toExt ∧ t.iop = (noteIopRead a s).iop ∧ t.platform = (noteIopRead a s).platform ∧
        UnitFrame s t .x [n] none false 0 0x80000 ∧ elemSame s t .y ∧ t.mem = s.mem := by
  obtain ⟨k, v, w, hk, h⟩ := noteAccess_iop (s := s) ha pm false (s.setReg32 .x n (readIop s a))
  refine ⟨_, (exec_loadIop ha pm).trans (congrArg _ h), ?_⟩
  have hc := noteIopRead_congr (a := a) (s := s) (t := (s.setReg32 .x n (readIop s a)).setScratch w)
    (State.setReg_iop s _ _ _) (State.setReg_platform s _ _ _)
  have hf : UnitFrame s (s.setReg32 .x n (readIop s a)) .x [n] none false 0 0x80000 :=
    (UnitFrame.refl s ..).setReg (List.mem_singleton.mpr rfl) rfl _
  have hf : UnitFrame s (noteIopRead a ((s.setReg32 .x n (readIop s a)).setScratch w)) .x [n] none false 0 0x80000 :=
    hf.congr (by simp) (by simp)
  refine ⟨?_, hc.1, hc.2, (hf.stick hk).congr rfl rfl, ⟨?_, ?_, ?_⟩, ?_⟩
  · simp [State.setReg32]
  · simp [State.setReg32, State.setReg_pe_ne]
  · simp [State.setReg32]
  · simp [State.setReg32, State.stick_stky_ne]
  · simp [State.setReg32, State.stick]

theorem storeIop_gives (ha : a.toNat < 0x40000) (pm : Bool) :
    gives (.memDirect14a pm true false (.r n) a) s fun t =>
      t.iop = (writeIop a (s.reg32 .x n) s).iop ∧ t.platform = (writeIop a (s.reg32 .x n) s).platform ∧
        t.pex = s.pex ∧ elemSame s t .y ∧ t.mem = s.mem := by
  obtain ⟨k, v, w, -, h⟩ := noteAccess_iop (s := s) ha pm true (writeIop a (s.reg32 .x n) s)
  refine ⟨_, (exec_storeIop ha pm).trans (congrArg _ h), ?_⟩
  rw [writeIop_eq]
  exact ⟨rfl, rfl, rfl, ⟨rfl, rfl, rfl⟩, rfl⟩

/-! ## The registers -/

/-- EEMUSTAT with the bits of its two channels written out. -/
theorem eemustatView_eq (y : CoreIop) :
    eemustatView y = (y.eemustat &&& ~~~0x1C00) ||| (if y.eemuout = [] then 0 else 0x400) |||
      (if Config.eemuoutMore < y.eemuout.length then 0x800 else 0) ||| (if y.eemuinFull then 0x1000 else 0) := by
  unfold eemustatView eemuoutSize bitIf
  congr 1
  congr 1
  · congr 1
    cases y.eemuout <;> rfl
  · simp

/-- The breakpoint address registers lie above the other core registers, but for EMUN. -/
theorem brkIndex_range {x : Nat} {k : Fin 16} (h : brkIndex x = some k) : 0x30026 < x ∧ x < 0x40000 ∧ x ≠ 0x300AE := by
  unfold brkIndex at h
  split at h
  · omega
  · split at h
    · omega
    · split at h
      · omega
      · cases h

theorem readIop_brk {k : Fin 16} (h : brkIndex a.toNat = some k) : readIop s a = s.iop.brk[k].val := by
  obtain ⟨h1, -, h2⟩ := brkIndex_range h
  unfold readIop
  dsimp only
  rw [if_neg (by omega), if_neg (by omega), if_neg (by omega), if_neg (by omega), if_neg (by omega), if_neg (by omega),
    if_neg h2, h]

theorem writeIop_brk {k : Fin 16} (h : brkIndex a.toNat = some k) (v : Word) :
    writeIop a v s =
      if s.iop.brkctl.eff.getLsbD 25 then s.setIop { s.iop with brk := s.iop.brk.set k (s.iop.brk[k].write v) } else s := by
  obtain ⟨h1, -, h2⟩ := brkIndex_range h
  unfold writeIop
  dsimp only
  rw [if_neg (by omega), if_neg (by omega), if_neg (by omega), if_neg (by omega), if_neg (by omega), if_neg (by omega),
    if_neg h2, h]

/-- A read of a core register other than EEMUIN does nothing beside. -/
theorem noteIopRead_core (hc : isCoreIop a.toNat = true) (h : a.toNat ≠ 0x30020) : noteIopRead a s = s := by
  unfold noteIopRead
  rw [if_neg h, if_pos hc]

theorem isCoreIop_brk {x : Nat} {k : Fin 16} (h : brkIndex x = some k) : isCoreIop x = true := by simp [isCoreIop, h]

/-- An address that is none of the core's. -/
theorem not_isCoreIop {x : Nat} (h : isCoreIop x = false) :
    (x ≠ 0x30020 ∧ x ≠ 0x30021 ∧ x ≠ 0x30022 ∧ x ≠ 0x30024 ∧ x ≠ 0x30025 ∧ x ≠ 0x30026 ∧ x ≠ 0x300AE) ∧
      brkIndex x = none := by
  refine ⟨⟨?_, ?_, ?_, ?_, ?_, ?_, ?_⟩, ?_⟩
  case refine_8 =>
    by_contra hb
    obtain ⟨k, hk⟩ := Option.ne_none_iff_exists'.mp hb
    rw [isCoreIop_brk hk] at h
    cases h
  all_goals
    rintro rfl
    exact absurd h (by decide)

theorem readIop_platform (h : isCoreIop a.toNat = false) : readIop s a = s.platform.answer := by
  obtain ⟨⟨h0, h1, h2, h3, h4, h5, h6⟩, hb⟩ := not_isCoreIop h
  simp [readIop, h0, h1, h2, h3, h4, h5, h6, hb]

theorem writeIop_platform (h : isCoreIop a.toNat = false) (v : Word) :
    writeIop a v s = { s with platform := { s.platform with access := some ⟨a, some v⟩ } } := by
  obtain ⟨⟨h0, h1, h2, h3, h4, h5, h6⟩, hb⟩ := not_isCoreIop h
  simp [writeIop, h0, h1, h2, h3, h4, h5, h6, hb]

theorem noteIopRead_platform (h : isCoreIop a.toNat = false) :
    noteIopRead a s = { s with platform := { s.platform with access := some ⟨a, none⟩ } } := by
  obtain ⟨⟨h0, -⟩, -⟩ := not_isCoreIop h
  unfold noteIopRead
  rw [if_neg h0, if_neg (by simp [h])]

/-- A word written to EEMUOUT is the newest of its FIFO, or lost where that is full. -/
theorem pushEemuout_eq (v : Word) (y : CoreIop) :
    pushEemuout v y = if Config.eemuoutMore < y.eemuout.length then y else { y with eemuout := y.eemuout ++ [v] } := by
  unfold pushEemuout eemuoutSize
  by_cases h : Config.eemuoutMore < y.eemuout.length
  · rw [if_pos h, if_neg (by omega)]
  · rw [if_neg h, if_pos (by omega)]

/-! ## Reads and writes of the core's registers -/

/-- A load from `a` gives `w`, leaves the core's IOP registers as `y`, and changes the register loaded only. -/
def ReadsCore (s : State) (pm : Bool) (n : RegNum) (a w : Word) (y : CoreIop) : Prop :=
  gives (.memDirect14a pm false false (.r n) a) s fun t =>
    t.reg .x n = w.toExt ∧ t.iop = y ∧ UnitFrame s t .x [n] none false 0 0x80000 ∧
      t.mem = s.mem ∧ t.platform = s.platform ∧ elemSame s t .y

/-- A store to `a` leaves the core's IOP registers as `y`, and changes nothing else of what is named. -/
def WritesCore (s : State) (pm : Bool) (n : RegNum) (a : Word) (y : CoreIop) : Prop :=
  gives (.memDirect14a pm true false (.r n) a) s fun t =>
    t.iop = y ∧ t.pex = s.pex ∧ t.mem = s.mem ∧ t.platform = s.platform ∧ elemSame s t .y

theorem readsCore_of {pm : Bool} {w : Word} {y : CoreIop} (ha : a.toNat < 0x40000) (hv : readIop s a = w)
    (hr : noteIopRead a s = s.setIop y) : ReadsCore s pm n a w y := by
  obtain ⟨t, ht, hreg, hiop, hplat, hf, hy, hm⟩ := loadIop_gives (s := s) (n := n) ha pm
  rw [hr] at hiop hplat
  exact ⟨t, ht, hv ▸ hreg, hiop, hf, hm, hplat, hy⟩

theorem writesCore_of {pm : Bool} {y : CoreIop} (ha : a.toNat < 0x40000)
    (hw : writeIop a (s.reg32 .x n) s = s.setIop y) : WritesCore s pm n a y := by
  obtain ⟨t, ht, hiop, hplat, hx, hy, hm⟩ := storeIop_gives (s := s) (n := n) ha pm
  rw [hw] at hiop hplat
  exact ⟨t, ht, hiop, hx, hm, hplat, hy⟩

/-- Reading EEMUIN empties it; every other core register is only read. -/
theorem core_reads (s : State) (pm : Bool) (n : RegNum) {k : Fin 16} {addr : Word} (hb : brkIndex addr.toNat = some k) :
    (∀ p ∈ ([(0x30021, eemustatView s.iop), (0x30024, s.iop.sysctl.val), (0x30025, s.iop.brkctl.val),
        (0x30026, Config.revpid.setWidth 32), (0x300AE, s.iop.emun), (addr, s.iop.brk[k].val)] : List (Word × Word)),
      ReadsCore s pm n p.1 p.2 s.iop) ∧
    ReadsCore s pm n 0x30020 s.iop.eemuin { s.iop with eemuinFull := false } ∧
    ∀ w l, s.iop.eemuout = w :: l → ReadsCore s pm n 0x30022 w s.iop := by
  have core {a w : Word} (hc : isCoreIop a.toNat = true) (h0 : a.toNat ≠ 0x30020) (ha : a.toNat < 0x40000)
      (hv : readIop s a = w) : ReadsCore s pm n a w s.iop := readsCore_of ha hv (noteIopRead_core hc h0)
  refine ⟨?_, readsCore_of (by decide) rfl rfl, fun w l hl => core (by decide) (by decide) (by decide) ?_⟩
  · simp only [List.forall_mem_cons, List.not_mem_nil, IsEmpty.forall_iff, implies_true, and_true]
    refine ⟨?eemustat, ?sysctl, ?brkctl, ?revpid, ?emun, ?brk⟩
    case brk =>
      obtain ⟨h1, h2, -⟩ := brkIndex_range hb
      exact core (isCoreIop_brk hb) (by omega) h2 (readIop_brk hb)
    all_goals exact core (by decide) (by decide) (by decide) rfl
  · change s.iop.eemuout.headD _ = w
    rw [hl]
    rfl

/-- What a store leaves of each core register. -/
theorem core_writes (s : State) (pm : Bool) (n : RegNum) {k : Fin 16} {addr : Word} (hb : brkIndex addr.toNat = some k) :
    ∀ p ∈ ([(0x30020, { s.iop with eemuin := s.reg32 .x n }),
        (0x30021, { s.iop with eemustat := mergeBits s.iop.eemustat (s.reg32 .x n) 0xFFFE4300 }),
        (0x30022, pushEemuout (s.reg32 .x n) s.iop),
        (0x30024, { s.iop with sysctl := s.iop.sysctl.write (s.reg32 .x n) }),
        (0x30025, { s.iop with brkctl := s.iop.brkctl.write (s.reg32 .x n) }), (0x30026, s.iop),
        (0x300AE, { s.iop with emun := s.reg32 .x n }),
        (addr, if s.iop.brkctl.eff.getLsbD 25 then
          { s.iop with brk := s.iop.brk.set k (s.iop.brk[k].write (s.reg32 .x n)) } else s.iop)] :
        List (Word × CoreIop)), WritesCore s pm n p.1 p.2 := by
  simp only [List.forall_mem_cons, List.not_mem_nil, IsEmpty.forall_iff, implies_true, and_true]
  refine ⟨?eemuin, ?eemustat, ?eemuout, ?sysctl, ?brkctl, ?revpid, ?emun, ?brk⟩
  case brk =>
    refine writesCore_of (brkIndex_range hb).2.1 ?_
    rw [writeIop_brk hb]
    split <;> rfl
  all_goals exact writesCore_of (by decide) rfl

/-- The platform's registers: a read is answered by the input of the step, a write handed on. -/
theorem platform_accesses (s : State) (pm : Bool) (n : RegNum) {addr : Word} (ha : addr.toNat < 0x40000)
    (hc : isCoreIop addr.toNat = false) :
    (gives (.memDirect14a pm false false (.r n) addr) s fun t =>
      t.reg .x n = s.platform.answer.toExt ∧ UnitFrame s t .x [n] none false 0 0x80000 ∧ elemSame s t .y ∧
        t.platform = { s.platform with access := some ⟨addr, none⟩ } ∧ t.iop = s.iop ∧ t.mem = s.mem) ∧
    gives (.memDirect14a pm true false (.r n) addr) s fun t =>
      t.platform = { s.platform with access := some ⟨addr, some (s.reg32 .x n)⟩ } ∧ t.pex = s.pex ∧ elemSame s t .y ∧
        t.iop = s.iop ∧ t.mem = s.mem := by
  constructor
  · obtain ⟨t, ht, hreg, hiop, hplat, hf, hy, hm⟩ := loadIop_gives (s := s) (n := n) ha pm
    rw [noteIopRead_platform hc] at hiop hplat
    exact ⟨t, ht, readIop_platform hc ▸ hreg, hf, hy, hplat, hiop, hm⟩
  · obtain ⟨t, ht, hiop, hplat, hx, hy, hm⟩ := storeIop_gives (s := s) (n := n) ha pm
    rw [writeIop_platform hc] at hiop hplat
    exact ⟨t, ht, hplat, hx, hy, hiop, hm⟩

/-- The emulator's side of the two channels, and the platform's answer, as the input of the step has them. -/
theorem takeInput_channels (s : State) :
    s.takeInput.platform = ⟨s.input.answer, none⟩ ∧
    (∀ w, s.input.emuIn = some w → s.takeInput.iop.eemuin = w ∧ s.takeInput.iop.eemuinFull = true) ∧
    (s.input.emuIn = none → s.takeInput.iop.eemuin = s.iop.eemuin ∧ s.takeInput.iop.eemuinFull = s.iop.eemuinFull) ∧
    s.takeInput.iop.eemuout = if s.input.emuOut then s.iop.eemuout.drop 1 else s.iop.eemuout := by
  refine ⟨rfl, fun w h => ?_, fun h => ?_, ?_⟩
  · simp [State.takeInput, emulatorSide, h]
  · simp [State.takeInput, emulatorSide, h]
  · simp [State.takeInput, emulatorSide]

/-- Settles O32: the core's registers by `core_reads` and `core_writes`, the platform's by `platform_accesses`, the other
ends of both by `takeInput_channels`. -/
theorem coreIopRegisters : Obligations.CoreIopRegisters := by
  unfold Obligations.CoreIopRegisters
  refine ⟨fun s pm n k addr hb => ?_, fun s pm n addr ha hc => platform_accesses s pm n ha hc, takeInput_channels⟩
  obtain ⟨hreads, heemuin, heemuout⟩ := core_reads s pm n hb
  have hwrites := core_writes s pm n hb
  rw [eemustatView_eq] at hreads
  rw [pushEemuout_eq] at hwrites
  exact ⟨hreads, heemuin, heemuout, hwrites⟩

end Sys2Proof.Machine
end

section
/-! Memory through the operations of the model: each keeps every property of memory (`KeepsMem`), a transfer that stores
those that its stores keep (`StoresKeep`). -/

namespace Sys2Proof.Machine

open Sys2Proof.Safety

/-- A transfer that may store makes the access `a`: its own, or in SIMD mode that of the complementary register. -/
def storeMakes (s : State) (x : StoreTo) (a : Access) : Prop :=
  classify s x.addr x.cls x.lw x.dual = .next a ∨
    (s.simd = true ∧ implicitAccess s x.addr x.cls x.lw = .next (some a))

/-- The bytes that a transfer may store to are those of the accesses that it makes. -/
theorem storesByte_iff {s : State} {x : StoreTo} {b : Nat} :
    storesByte s x b ↔ ∃ a, storeMakes s x a ∧ Access.covers a b := by
  unfold storesByte storeMakes
  constructor
  · rintro (⟨a, ha, hb⟩ | ⟨hs, a, ha, hb⟩)
    · exact ⟨a, .inl ha, hb⟩
    · exact ⟨a, .inr ⟨hs, ha⟩, hb⟩
  · rintro ⟨a, ha | ⟨hs, ha⟩, hb⟩
    · exact .inl ⟨a, ha, hb⟩
    · exact .inr ⟨hs, a, ha, hb⟩

/-- `P` is kept by whatever the transfer stores. -/
def StoresKeep (P : List Host.Cell → Prop) (s : State) (x : StoreTo) : Prop :=
  ∀ a, storeMakes s x a → ∀ d m, P m → P (storeMem a d m)

/-- The operation leaves memory with `P`, where it answers. -/
abbrev KeepsMem (P : List Host.Cell → Prop) (x : Res State) : Prop := Res.Yields (fun t => P t.mem) x

variable {P : List Host.Cell → Prop} {s t : State}

/-- An operation that leaves memory keeps every property of it. -/
theorem keepsMem_of_mem {x : Res State} (h : P t.mem) (hx : ∀ u, x = .next u → u.mem = t.mem) : KeepsMem P x :=
  fun u hu => by
    change P u.mem
    rwa [hx u hu]

theorem KeepsMem.bind {α : Type} {q : α → Prop} {x : Res State} {f : State → Res α} (hx : KeepsMem P x)
    (hf : ∀ u, P u.mem → Res.Yields q (f u)) : Res.Yields q (Res.bind x f) := Res.Yields.bind hx hf

/-! ## Units and registers -/

theorem onlyUnits_mem (h : onlyUnits s t) : t.mem = s.mem := by
  unfold onlyUnits at h
  rw [h]

@[simp] theorem doShift_mem (v : State) (g : Gates) (sh : ShiftImm) (t : State) : (doShift v g sh t).mem = t.mem :=
  onlyUnits_mem (doShift_units v g sh t)

theorem doCompute_keepsMem (h : P t.mem) (v : State) (g : Gates) (c : Compute) : KeepsMem P (doCompute v g c t) :=
  keepsMem_of_mem h fun u hu => onlyUnits_mem (doCompute_units v g c t u hu)

theorem computeOnly_keepsMem (h : P s.mem) (c : Compute) : KeepsMem P (computeOnly c s) :=
  doCompute_keepsMem h s .open c

theorem shiftOnly_keepsMem (h : P s.mem) (sh : ShiftImm) : KeepsMem P (shiftOnly sh s) :=
  Res.yields_next.mpr (by rwa [doShift_mem])

theorem writeUReg_keepsMem (h : P t.mem) (u : UReg) (v : Word) : KeepsMem P (writeUReg u v t) :=
  keepsMem_of_mem h fun _ => writeUReg_mem

theorem moveUReg_keepsMem (h : P t.mem) (v : State) (dst src : UReg) : KeepsMem P (moveUReg v dst src t) := by
  unfold moveUReg
  split
  · simpa using h
  · exact .ite (by simpa using h) (Res.yields_bind fun x => writeUReg_keepsMem h dst x)
  · exact .ite (by simpa using h) (writeUReg_keepsMem h dst _)
  · refine .ite (.ite (by simpa using h) (Res.yields_bind fun lo => ?_))
      (Res.yields_bind fun x => writeUReg_keepsMem h dst x)
    split
    · exact Res.yields_map fun _ => h
    · simpa using h

theorem transfer_keepsMem (h : P t.mem) (v : State) (g : Gates) (dst src : UReg) :
    KeepsMem P (transfer v g dst src t) := by
  refine KeepsMem.bind (.ite (moveUReg_keepsMem h v dst src) (Res.yields_next.mpr h)) fun u hu => ?_
  refine .ite ?_ (Res.yields_next.mpr hu)
  split
  · exact Res.yields_next.mpr hu
  · split
    · exact moveUReg_keepsMem hu v _ _
    · exact .ite (Res.yields_next.mpr hu) (moveUReg_keepsMem hu v _ _)

theorem loadImmediate_keepsMem (h : P t.mem) (v : State) (u : UReg) (x : Word) :
    KeepsMem P (loadImmediate v u x t) := by
  refine (writeUReg_keepsMem h u x).bind fun w hw => .ite ?_ (Res.yields_next.mpr hw)
  split
  · exact writeUReg_keepsMem hw _ x
  · exact Res.yields_next.mpr hw

theorem bitChange_keepsMem (h : P s.mem) (f : Word → Word) (x : SReg) : KeepsMem P (bitChange f x s) := by
  refine .ite ?_ (by simpa using h)
  split <;> simpa using h

@[simp] theorem setBtf_mem (e : Elem) (b : Bool) (t : State) : (setBtf e b t).mem = t.mem := State.setAstat_mem t e _

theorem sregTest_keepsMem (h : P s.mem) (f : Word → Bool) (x : SReg) : KeepsMem P (sregTest f x s) := by
  refine Res.yields_next.mpr ?_
  split <;> simpa using h

/-! ## Index registers and notes -/

@[simp] theorem noteAborted_mem (g : Gates) (t : State) : (noteAborted g t).mem = t.mem := rfl

@[simp] theorem noteWrap_mem (a : RegNum) (wrapped : Bool) (t : State) : (noteWrap a wrapped t).mem = t.mem := by
  unfold noteWrap
  split
  · rfl
  · split <;> rfl

@[simp] theorem postMod_mem (v : State) (go : Bool) (a : RegNum) (k : Word) (t : State) :
    (postMod v go a k t).mem = t.mem := by
  unfold postMod
  split
  · split <;> simp
  · rfl

@[simp] theorem modifyIndex_mem (v : State) (src dst : RegNum) (k : Word) (t : State) :
    (modifyIndex v src dst k t).mem = t.mem := by
  unfold modifyIndex
  split <;> simp

/-! ## Memory transfers -/

theorem accessStore_keepsMem (h : P t.mem) {g : Gates} {x : Transfer} {k : RegClass}
    (hs : StoresKeep P s ⟨x.addr, k, x.lw, x.dual⟩) (d : StoreData) (dc : Option StoreData) :
    KeepsMem P (accessStore s g x k d dc t) := fun u hu => by
  obtain ⟨m, hm, hu⟩ := accessStore_mem hu
  have hm : P m := by
    obtain ⟨-, rfl⟩ | ⟨-, a, ha, rfl⟩ := hm
    · exact h
    · exact hs a (.inl ha) d _ h
  obtain hu | ⟨hsimd, c, a, -, ha, hu⟩ := hu
  · rwa [hu]
  · rw [hu]
    exact hs a (.inr ⟨hsimd, ha⟩) c m hm

theorem storeUReg_keepsMem (h : P t.mem) {g : Gates} {x : Transfer} {u : UReg}
    (hs : StoresKeep P s ⟨x.addr, u.cls, x.lw, x.dual⟩) : KeepsMem P (storeUReg s g x u t) := by
  unfold storeUReg
  split
  · exact Res.yields_bind fun d => Res.yields_bind fun dc => accessStore_keepsMem h hs d _
  · exact .ite (Res.yields_bind fun d => accessStore_keepsMem h hs d _) (Res.yields_next.mpr h)

/-- A transfer keeps what it keeps when it stores; a load keeps everything. -/
theorem access_keepsMem (h : P t.mem) {g : Gates} {x : Transfer} {write : Bool} {u : UReg}
    (hs : write = true → StoresKeep P s ⟨x.addr, u.cls, x.lw, x.dual⟩) : KeepsMem P (access s g x write u t) := by
  unfold access
  split
  · next hw => exact storeUReg_keepsMem h (hs hw)
  · exact keepsMem_of_mem h fun _ => loadTransfer_mem

/-! ## Stacks -/

theorem pushPc_keepsMem (h : P t.mem) (entry : BitVec 26) : KeepsMem P (pushPc entry t) := fun u hu => by
  obtain ⟨d, -, rfl⟩ := pushPc_eq_next.mp hu
  rw [bumpPc_eq]
  split <;> exact h

theorem popPc_keepsMem (h : P t.mem) : Res.Yields (fun r => P r.2.mem) (popPc t) := fun ⟨e, u⟩ hu => by
  obtain ⟨d, -, -, -, rfl⟩ := popPc_eq_next.mp hu
  exact h

@[simp] theorem State.setTested_mem (s : State) (v : Bool) : (s.setTested v).mem = s.mem := by
  unfold State.setTested
  split <;> rfl

theorem pushLoop_keepsMem (h : P t.mem) (laddr count : Word) : KeepsMem P (pushLoop laddr count t) := fun u hu => by
  obtain ⟨-, rfl⟩ := pushLoop_eq_next.mp hu
  split
  · simpa using h
  · exact h

theorem popLoop_keepsMem (h : P t.mem) : KeepsMem P (popLoop t) := fun u hu => by
  obtain ⟨-, -, rfl⟩ := popLoop_eq_next.mp hu
  exact h

@[simp] theorem saveStatus_mem (t : State) : (saveStatus t).mem = t.mem := by
  rw [saveStatus_eq]
  split <;> rfl

theorem takeStatus_keepsMem (h : P t.mem) : Res.Yields (fun r => P r.2.mem) (takeStatus t) := fun ⟨e, u⟩ hu => by
  obtain ⟨-, rest, -, rfl⟩ := takeStatus_eq_next.mp hu
  exact h

theorem popStatus_keepsMem (h : P t.mem) : KeepsMem P (popStatus t) :=
  Res.Yields.bind (takeStatus_keepsMem h) fun _ hr => Res.yields_next.mpr hr

/-! ## Interrupts -/

@[simp] theorem State.setLatch_mem (s : State) (p : Nat) (b : Bool) : (s.setLatch p b).mem = s.mem := by
  rw [State.setLatch_eq, State.setSys_mem]

@[simp] theorem State.setMaskp_mem (s : State) (p : Nat) (b : Bool) : (s.setMaskp p b).mem = s.mem := by
  rw [State.setMaskp_eq, State.setSys_mem]

@[simp] theorem pushStatus_mem (t : State) : (pushStatus t).mem = t.mem := saveStatus_mem t

theorem takeInterrupt_keepsMem (h : P t.mem) (p : Nat) : KeepsMem P (takeInterrupt p t) := fun u hu => by
  obtain ⟨w, hw, rfl⟩ := takeInterrupt_eq_next.mp hu
  have hw : P w.mem := pushPc_keepsMem (t := t.setSeq { t.seq with idle := false }) h _ w hw
  simpa [apply_ite State.mem] using hw

theorem clearInterrupt_keepsMem (h : P t.mem) : KeepsMem P (clearInterrupt t) := fun u hu => by
  cases hs : inService t with
  | none =>
    rw [clearInterrupt_none hs] at hu
    cases hu
    exact h
  | some p =>
    obtain ⟨w, hw, rfl⟩ := (clearInterrupt_eq_next hs).mp hu
    have hw : P w.mem := Res.Yields.ite (popStatus_keepsMem h) (Res.yields_next.mpr h) w hw
    split <;> simpa using hw

theorem returnFromInterrupt_keepsMem (h : P t.mem) : Res.Yields (fun r => P r.2.mem) (returnFromInterrupt t) :=
  (clearInterrupt_keepsMem h).bind fun _ hu => (popPc_keepsMem hu).bind fun _ hr => Res.yields_next.mpr hr

end Sys2Proof.Machine
end

section
/-! Every instruction keeps the properties of memory that its stores keep (`exec_keepsMem`), so memory changes only where an
instruction stores. -/

namespace Sys2Proof.Machine

open Sys2Proof.Safety

variable {P : List Host.Cell → Prop} {s t : State}

/-! ## Instructions of groups I and III -/

theorem dualMove_keepsMem (h : P s.mem) {dmd : Bool} {dmi : DagNum} {pmd : Bool} {pmi : DagNum}
    (hd : dmd = true → StoresKeep P s ⟨postAddr s (dagReg false dmi), .dreg, false, true⟩)
    (hp : pmd = true → StoresKeep P s ⟨postAddr s (dagReg true pmi), .dreg, false, true⟩)
    (dmm : DagNum) (dr : RegNum) (pmm : DagNum) (pr : RegNum) (c : Compute) :
    KeepsMem P (dualMove dmd dmi dmm pmd dr pmi pmm pr c s) := by
  refine (doCompute_keepsMem h s .open c).bind fun t ht => ?_
  refine KeepsMem.bind (P := P) ?_ fun u hu => ?_
  · split
    · next hw => exact access_keepsMem ht fun _ => hd hw
    · exact Res.yields_next.mpr ht
  refine (access_keepsMem hu hp).bind fun v hv => ?_
  refine KeepsMem.bind (.ite (Res.yields_next.mpr hv) (access_keepsMem hv fun hw => by cases hw)) fun w hw => ?_
  simpa using hw

theorem conditionalCompute_keepsMem (h : P s.mem) (cond : Cond) (c : Compute) :
    KeepsMem P (conditionalCompute cond c s) := (doCompute_keepsMem h s _ c).map fun _ ht => ht

theorem indexedMove_keepsMem (h : P s.mem) {pm : Bool} {i : DagNum} {mod : Word} {post lw write : Bool} {u : UReg}
    (hs : write = true →
      StoresKeep P s ⟨if post then postAddr s (dagReg pm i) else preAddr s (dagReg pm i) mod, u.cls, lw, false⟩)
    (g : Gates) (conditional : Bool) (c : Compute) :
    KeepsMem P (indexedMove s g pm i mod post lw write u conditional c) := by
  refine .ite Res.yields_refused ((doCompute_keepsMem h s g c).bind fun t ht => ?_)
  exact (access_keepsMem ht hs).bind fun v hv => Res.yields_next.mpr (by simpa using hv)

theorem regMove_keepsMem (h : P s.mem) (src : UReg) (cond : Cond) (dst : UReg) (c : Compute) :
    KeepsMem P (regMove src cond dst c s) :=
  (doCompute_keepsMem h s _ c).bind fun _ ht => (transfer_keepsMem ht s _ dst src).map fun _ hu => hu

theorem regSwap_keepsMem (h : P s.mem) (cd : RegNum) (cond : Cond) (d : RegNum) (c : Compute) :
    KeepsMem P (regSwap cd cond d c s) :=
  (doCompute_keepsMem h s _ c).bind fun _ ht => Res.yields_next.mpr (by simpa [apply_ite State.mem] using ht)

theorem shiftMem_keepsMem (h : P s.mem) {i : DagNum} {g d : Bool}
    (hs : d = true → StoresKeep P s ⟨postAddr s (dagReg g i), .dreg, false, false⟩) (m : DagNum) (cond : Cond)
    (dreg : RegNum) (sh : ShiftImm) : KeepsMem P (execShiftMem6a i m cond g d dreg sh s) :=
  (access_keepsMem (by simpa using h) hs).bind fun _ ht => Res.yields_next.mpr (by simpa using ht)

theorem indexModify_keepsMem (h : P s.mem) (g : Bool) (cond : Cond) (is m idx : DagNum) (c : Compute) :
    KeepsMem P (indexModify g cond is m idx c s) :=
  (doCompute_keepsMem h s _ c).bind fun _ ht => Res.yields_next.mpr (by simpa [apply_ite State.mem] using ht)

theorem storeImmediate_keepsMem (h : P s.mem) {i : DagNum} {g : Bool}
    (hs : StoresKeep P s ⟨postAddr s (dagReg g i), .dreg, false, false⟩) (m : DagNum) (data : Word) :
    KeepsMem P (storeImmediate i m g data s) :=
  (accessStore_keepsMem h hs _ _).map fun _ ht => by simpa using ht

/-! ## Instructions of groups II and IV -/

@[simp] theorem goTo_mem (j : Bool) (target : Addr24) (t : State) : (goTo j target t).mem = t.mem := by
  unfold goTo
  split <;> rfl

theorem abortLoop_keepsMem (h : P t.mem) : KeepsMem P (abortLoop t) :=
  (popLoop_keepsMem h).bind fun _ hu => (popPc_keepsMem hu).bind fun _ hr => Res.yields_next.mpr hr

theorem jump_keepsMem (h : P t.mem) (take a j ci : Bool) (target : Addr24) :
    KeepsMem P (jump take a j ci target t) := by
  refine .ite ?_ (Res.yields_next.mpr h)
  refine KeepsMem.bind (.ite (abortLoop_keepsMem h) (Res.yields_next.mpr h)) fun u hu => ?_
  refine KeepsMem.bind (.ite (clearInterrupt_keepsMem hu) (Res.yields_next.mpr hu)) fun w hw => ?_
  simpa using hw

theorem call_keepsMem (h : P t.mem) (v : State) (take j : Bool) (k : Nat) (target : Addr24) :
    KeepsMem P (call v take j k target t) :=
  .ite (Res.yields_bind fun _ => (pushPc_keepsMem h _).map fun _ hu => by simpa using hu) (Res.yields_next.mpr h)

theorem doRts_keepsMem (h : P t.mem) (take j : Bool) : KeepsMem P (doRts take j t) :=
  .ite ((popPc_keepsMem h).map fun _ hr => by simpa using hr) (Res.yields_next.mpr h)

theorem doRti_keepsMem (h : P t.mem) (take j : Bool) : KeepsMem P (doRti take j t) :=
  .ite ((returnFromInterrupt_keepsMem h).map fun _ hr => by simpa using hr) (Res.yields_next.mpr h)

theorem branchWith_keepsMem {f : Bool → State → Res State} (h : P s.mem)
    (hf : ∀ take t, P t.mem → KeepsMem P (f take t)) (cond : Cond) (e : Bool) (c : Compute) :
    KeepsMem P (branchWith cond e c f s) :=
  (doCompute_keepsMem h s _ c).bind fun _ ht => (hf _ _ ht).map fun _ hu => hu

theorem jumpElseMove_keepsMem (h : P s.mem) {d : Bool} {dmi : DagNum}
    (hs : d = true → StoresKeep P s ⟨postAddr s (dagReg false dmi), .dreg, false, false⟩) (dmm : DagNum)
    (cond : Cond) (target : Addr24) (dreg : RegNum) (c : Compute) :
    KeepsMem P (jumpElseMove d dmi dmm cond target dreg c s) :=
  (doCompute_keepsMem h s _ c).bind fun _ ht => (access_keepsMem ht hs).bind fun _ hu =>
    (jump_keepsMem (by simpa using hu) _ _ _ _ _).map fun _ hw => hw

theorem doLoop_keepsMem (h : P t.mem) (rel : Addr24) (term : Term) (count : Word) :
    KeepsMem P (doLoop rel term count t) :=
  .ite Res.yields_refused
    ((pushPc_keepsMem h _).bind fun _ hu => (pushLoop_keepsMem hu _ _).map fun _ hw => hw)

theorem doPushLoop_keepsMem (h : P t.mem) : KeepsMem P (doPushLoop t) := (pushLoop_keepsMem h _ _).map fun _ hu => hu

theorem doPopLoop_keepsMem (h : P t.mem) : KeepsMem P (doPopLoop t) := (popLoop_keepsMem h).map fun _ hu => hu

theorem doPushSts_keepsMem (h : P t.mem) : KeepsMem P (doPushSts t) := Res.yields_next.mpr (by simpa using h)

theorem doPopSts_keepsMem (h : P t.mem) : KeepsMem P (doPopSts t) := (takeStatus_keepsMem h).map fun _ hr => hr

theorem doPopPcstk_keepsMem (h : P t.mem) : KeepsMem P (doPopPcstk t) := (popPc_keepsMem h).map fun _ hr => hr

theorem pushPcPointer_keepsMem (h : P t.mem) : KeepsMem P (pushPcPointer t) := pushPc_keepsMem h _

theorem when_keepsMem {f : State → Res State} (h : P t.mem) (hf : ∀ u, P u.mem → KeepsMem P (f u)) (b : Bool) :
    KeepsMem P (when b f t) := .ite (hf t h) (Res.yields_next.mpr h)

theorem stackOps_keepsMem (h : P s.mem) (lpu lpo spu spo ppu ppo fc : Bool) :
    KeepsMem P (execStackOps20a lpu lpo spu spo ppu ppo fc s) := by
  refine .ite Res.yields_refused ?_
  refine (when_keepsMem h (fun _ => doPushLoop_keepsMem) lpu).bind fun _ h => ?_
  refine (when_keepsMem h (fun _ => doPopLoop_keepsMem) lpo).bind fun _ h => ?_
  refine (when_keepsMem h (fun _ => doPushSts_keepsMem) spu).bind fun _ h => ?_
  refine (when_keepsMem h (fun _ => doPopSts_keepsMem) spo).bind fun _ h => ?_
  refine (when_keepsMem h (fun _ => pushPcPointer_keepsMem) ppu).bind fun _ h => ?_
  refine (when_keepsMem h (fun _ => doPopPcstk_keepsMem) ppo).bind fun u h => Res.yields_next.mpr ?_
  split <;> exact h

theorem cjump_keepsMem (h : P s.mem) (target : Addr24) : KeepsMem P (cjump target s) :=
  Res.yields_next.mpr (by simpa [apply_ite State.mem] using h)

theorem rframe_keepsMem (h : P s.mem) : KeepsMem P (rframe s) :=
  keepsMem_of_mem h fun _ ht => by rw [loadTransfer_mem ht, State.setI_mem]

/-! ## Every instruction -/

/-- A property of memory that the stores of an instruction keep is kept by the instruction. The instructions that are a
compute or a shift alone come last, together. -/
theorem exec_keepsMem (i : Instr) (h : P s.mem) (hs : ∀ x ∈ stores s i, StoresKeep P s x) :
    KeepsMem P (exec i s) := by
  unfold exec
  cases i with
  | dualMove1a | dualMove1b =>
    refine dualMove_keepsMem h (fun hd => hs _ ?_) (fun hp => hs _ ?_) _ _ _ _ _
    · simp [stores, hd]
    · simp [stores, hp]
  | compute2a | compute2b => exact conditionalCompute_keepsMem h _ _
  | memUreg3a | memUreg3b | memDreg3c | memDreg4a | memDreg4b | memOffset15a | memOffset15b =>
    exact indexedMove_keepsMem h (fun hw => by subst hw; exact hs _ (List.mem_singleton.mpr rfl)) _ _ _
  | move5a | move5b => exact regMove_keepsMem h _ _ _ _
  | swap5a | swap5b => exact regSwap_keepsMem h _ _ _ _
  | shiftMem6a =>
    exact shiftMem_keepsMem h (fun hw => by subst hw; exact hs _ (List.mem_singleton.mpr rfl)) _ _ _ _
  | shift6a => exact Res.yields_next.mpr (by simpa using h)
  | modify7a | modify7b => exact indexModify_keepsMem h _ _ _ _ _ _
  | jumpDirect8a | jumpRel8a | jumpInd9a | jumpRel9a | jumpInd9b | jumpRel9b =>
    exact branchWith_keepsMem h (fun _ _ ht => jump_keepsMem ht _ _ _ _ _) _ _ _
  | callDirect8a | callRel8a | callInd9a | callRel9a | callInd9b | callRel9b =>
    exact branchWith_keepsMem h (fun _ _ ht => call_keepsMem ht _ _ _ _ _) _ _ _
  | jumpInd10a | jumpRel10a =>
    exact jumpElseMove_keepsMem h (fun hw => by subst hw; exact hs _ (List.mem_singleton.mpr rfl)) _ _ _ _ _
  | rts11a | rts11c => exact branchWith_keepsMem h (fun _ _ ht => doRts_keepsMem ht _ _) _ _ _
  | rti11a | rti11c => exact branchWith_keepsMem h (fun _ _ ht => doRti_keepsMem ht _ _) _ _ _
  | doImm12a => exact (writeUReg_keepsMem h _ _).bind fun _ ht => doLoop_keepsMem ht _ _ _
  | doUreg12a =>
    exact Res.yields_bind fun _ => (writeUReg_keepsMem h _ _).bind fun _ ht => doLoop_keepsMem ht _ _ _
  | doUntil13a => exact doLoop_keepsMem h _ _ _
  | memDirect14a => exact access_keepsMem h fun hw => by subst hw; exact hs _ (List.mem_singleton.mpr rfl)
  | storeImm16a | storeImm16b => exact storeImmediate_keepsMem h (hs _ (List.mem_singleton.mpr rfl)) _ _
  | loadImm17a | loadImm17b => exact loadImmediate_keepsMem h _ _ _
  | bitSet18a | bitClr18a | bitTgl18a => exact bitChange_keepsMem h _ _
  | bitTst18a | bitXor18a => exact sregTest_keepsMem h _ _
  | modifyImm19a => exact Res.yields_next.mpr (by simpa using h)
  | bitrev19a => exact Res.yields_next.mpr (by simpa using h)
  | stackOps20a => exact stackOps_keepsMem h _ _ _ _ _ _ _
  | pushLoop20a => exact doPushLoop_keepsMem h
  | popLoop20a => exact doPopLoop_keepsMem h
  | pushSts20a => exact doPushSts_keepsMem h
  | popSts20a => exact doPopSts_keepsMem h
  | pushPcstk20a => exact pushPcPointer_keepsMem h
  | popPcstk20a => exact doPopPcstk_keepsMem h
  | flushCache20a | nop21a | nop21c | idle22a | emuidle22a => exact Res.yields_next.mpr h
  | idle22c emu => cases emu <;> exact Res.yields_next.mpr h
  | cjumpDirect25a | cjumpRel25a => exact cjump_keepsMem h _
  | rframe25a | rframe25c => exact rframe_keepsMem h
  | lshiftImm | orLshiftImm | ashiftImm | orAshiftImm | rotImm | bclrImm | bsetImm | btglImm | btstImm | fdepImm
  | orFdepImm | fdepSeImm | orFdepSeImm | fextImm | fextSeImm | bitdepImm | bitextImm | bitextNuImm | bffwrpImm =>
    exact shiftOnly_keepsMem h _
  | _ => exact computeOnly_keepsMem h _

/-- Settles O53: that a byte reads as before is a property of memory that stores outside the byte keep. -/
theorem memoryFrame : Obligations.MemoryFrame := by
  unfold Obligations.MemoryFrame
  intro i s t ht b hb
  refine exec_keepsMem (P := fun m => readByte m b = readByte s.mem b) i rfl (fun x hx a ha d m hm => ?_) t ht
  have hc : ¬ Access.covers a b := fun hc => hb x hx (storesByte_iff.mpr ⟨a, ha, hc⟩)
  exact (readByte_storeMem d (.inl hc)).trans hm

end Sys2Proof.Machine
end

section
/-! No step changes a byte outside RAM: stores and DMA leave it, and nothing else of a step touches memory. -/

namespace Sys2Proof.Machine

open Sys2Proof.Safety

variable {P : List Host.Cell → Prop} {s t : State}

/-! ## The parts of a step around its instruction -/

theorem loopSame_mem (h : loopSame s t) : t.mem = s.mem := by
  unfold loopSame at h
  rw [h]

theorem flowOn_keepsMem (h : P t.mem) (n next : Addr24) : Res.Yields (fun r => P r.2.mem) (flowOn n next t) := by
  unfold flowOn
  split
  · exact .ite (Res.yields_next.mpr h) (Res.yields_next.mpr h)
  · refine .ite (.ite (Res.yields_next.mpr h) (.ite Res.yields_refused (Res.yields_map fun _ => ?_)))
      (Res.yields_next.mpr h)
    simpa using h

theorem advance_keepsMem (h : P t.mem) (v : State) (count : Word) (len : Nat) : KeepsMem P (advance v count len t) :=
  .ite ((flowOn_keepsMem h _ _).map fun _ hr => hr) Res.yields_refused

/-- A step keeps what its instruction keeps and what its input does. -/
theorem stepWith_keepsMem (h : P s.mem) (hP : ∀ a d m, P m → P (storeMem a d m)) (inp : EnvInput) :
    KeepsMem P (stepWith inp s) := by
  have ended {t : State} {ran : Option Addr24} (ht : P t.mem) : P (endStep s inp ran t).mem := by
    rwa [(endStep_ended s inp ran t).mem]
  refine .ite (Res.yields_next.mpr h) ?_
  split
  · next p _ => exact (takeInterrupt_keepsMem h p).map fun _ => ended
  · refine .ite (Res.yields_next.mpr (ended h)) (Res.Yields.map (p := fun t => P t.mem) ?_ fun _ => ended)
    have htests := keepsMem_of_mem h fun u hu => loopSame_mem (loopTests_same (k := 7) hu)
    refine htests.bind fun u hu => Res.yields_bind fun ⟨i, len⟩ => ?_
    refine .ite Res.yields_refused (.ite Res.yields_refused ?_)
    exact (exec_keepsMem i hu fun _ _ a _ => hP a).bind fun _ ht => advance_keepsMem ht u _ len

/-! ## Bytes outside RAM -/

theorem readByte_dma {b : Nat} (hb : cellRam (b / 2) = false) (l : List Host.Cell) (m : List Host.Cell) :
    readByte (l.foldl dmaByte m) b = readByte m b := by
  induction l generalizing m with
  | nil => rfl
  | cons c l ih =>
    rw [List.foldl_cons, ih]
    unfold dmaByte
    split
    · next hc =>
      have hne : b ≠ c.1 := by
        rintro rfl
        rw [hb] at hc
        cases hc
      exact readByte_writeByte_ne m c.2 hne
    · rfl

theorem step_keepsRom {b : Nat} (hb : cellRam (b / 2) = false) (h : step s = .next t) :
    readByte t.mem b = readByte s.mem b := by
  have hin : readByte s.takeInput.mem b = readByte s.mem b := readByte_dma hb _ _
  refine stepWith_keepsMem (P := fun m => readByte m b = readByte s.mem b) hin (fun a d m hm => ?_) s.input t h
  exact (readByte_storeMem d (.inr hb)).trans hm

/-- Settles O52, by induction on the run. -/
theorem romNeverChanges : Obligations.RomNeverChanges := by
  unfold Obligations.RomNeverChanges
  intro s t hr b hb
  induction hr with
  | here => rfl
  | on _ hstep ih => rw [step_keepsRom hb hstep, ih]

end Sys2Proof.Machine
end

section
/-! Cells of memory: which of them are RAM together, and that a store to RAM is read back. -/

namespace Sys2Proof.Machine

open Sys2Proof.Safety

/-! ## RAM by rows and by 48-bit words -/

theorem cellExternal_eq_false (c : Nat) : cellExternal c = false := by
  have h : Config.extWords = 0 := rfl
  rw [Bool.eq_false_iff]
  intro hc
  simp only [cellExternal, Bool.and_eq_true, decide_eq_true_eq] at hc
  omega

/-- The blocks and their RAM begin and end at rows, so the four cells of a row are alike. -/
theorem cellRam_of_row {c c' : Nat} (h : c / 4 = c' / 4) (hr : cellRam c = true) : cellRam c' = true := by
  have hb : cellBlock c' = cellBlock c := by unfold cellBlock; omega
  unfold cellRam cellInternal at *
  rw [hb]
  simp only [cellExternal_eq_false, Bool.or_false, Bool.and_eq_true, decide_eq_true_eq] at *
  omega

/-- A cell of a block is RAM from the first row of RAM on. -/
theorem cellRam_block {b off : Nat} (hb : b < 4) (ho : off < 4 * Config.blockRows b) :
    cellRam (blockCell b + off) = decide (4 * Config.romRows b ≤ off) := by
  have hR : Config.blockRows b ≤ 0x10000 := by
    unfold Config.blockRows
    split <;> omega
  have hc : cellBlock (blockCell b + off) = b := by unfold cellBlock blockCell; omega
  have hi : cellInternal (blockCell b + off) = true := by
    unfold cellInternal
    rw [hc]
    simp only [Bool.and_eq_true, decide_eq_true_eq]
    unfold blockCell
    omega
  unfold cellRam
  rw [hi, hc, cellExternal_eq_false, Bool.or_false, Bool.true_and, decide_eq_decide]
  unfold blockCell
  omega

theorem cell48_range {a k : Nat} (h : cell48 a = some k) : 0x80000 ≤ a ∧ a < 0x100000 := by
  unfold cell48 at h
  dsimp only at h
  split at h
  · next hc => exact ⟨hc.1, hc.2.1⟩
  · cases h

/-- Where the first cell of a 48-bit word is RAM, the other two are. -/
theorem cellRam_word48 {a k : Nat} (h : cell48 a = some k) (hr : cellRam k = true) :
    cellRam (k + 1) = true ∧ cellRam (k + 2) = true := by
  unfold cell48 at h
  dsimp only at h
  split at h
  · next hc =>
    obtain rfl := Option.some.inj h
    obtain ⟨h0, h1, h2⟩ := hc
    have hb : (a - 0x80000) / 0x20000 < 4 := by omega
    generalize (a - 0x80000) / 0x20000 = b at hr hb h2 ⊢
    generalize 3 * ((a - 0x80000) % 0x20000) = off at hr h2 ⊢
    rw [cellRam_block hb (by omega), decide_eq_true_eq] at hr
    rw [Nat.add_assoc, Nat.add_assoc, cellRam_block hb (by omega), cellRam_block hb (by omega), decide_eq_true_eq,
      decide_eq_true_eq]
    omega
  · cases h

/-! ## What a store leaves in RAM -/

theorem append_thirds (v : BitVec 48) :
    v.extractLsb' 32 16 ++ (v.extractLsb' 0 32).extractLsb' 16 16 ++ (v.extractLsb' 0 32).extractLsb' 0 16 = v := by
  apply BitVec.eq_of_getLsbD_eq
  intro i hi
  simp only [BitVec.getLsbD_append, BitVec.getLsbD_extractLsb']
  by_cases h0 : i < 16
  · have h1 : i < 32 := by omega
    simp [h0, h1]
  by_cases h1 : i < 32
  · have : i - 16 < 16 := by omega
    simp [h0, this, show 16 + (i - 16) = i by omega, h1]
  · have : ¬ i - 16 < 16 := by omega
    have h2 : i - 16 - 16 < 16 := by omega
    simp [h0, this, h2, show 32 + (i - 16 - 16) = i by omega]

/-- The two words of a forced long word do not overlap. -/
def Access.apart : Access → Prop
  | .w64 c c' => c + 1 < c' ∨ c' + 1 < c
  | _ => True

theorem read48_storeMem {m : List Host.Cell} {k : Nat} (d : StoreData) (hm : Memory.wf m = true)
    (h0 : cellRam k = true) (h1 : cellRam (k + 1) = true) (h2 : cellRam (k + 2) = true) :
    read48 (storeCell (k + 2) (d.wide.extractLsb' 32 16) (storeWord k (d.wide.extractLsb' 0 32) m)) k = d.wide := by
  unfold read48 storeWord
  rw [readCell_storeCell_same _ (storeCell_wf _ _ (storeCell_wf _ _ hm)) h2, readCell_storeCell_ne _ (by omega),
    readCell_storeCell_same _ (storeCell_wf _ _ hm) h1, readCell_storeCell_ne _ (by omega),
    readCell_storeCell_ne _ (by omega), readCell_storeCell_same _ hm h0]
  exact append_thirds d.wide

/-- Memory holds what was stored, where all of the access is RAM. -/
theorem storeMem_holds {m : List Host.Cell} {a : Access} (d : StoreData) (hm : Memory.wf m = true) (hi : a ≠ .iop)
    (hr : Access.inRam a) (ha : Access.apart a) : Access.holds (storeMem a d m) d a := by
  have ram (c : Nat) (hc : Access.covers a (2 * c)) : cellRam c = true := by
    simpa using hr (2 * c) hc
  have ram' (c : Nat) (hc : Access.covers a (2 * c + 2)) : cellRam (c + 1) = true := by
    simpa using hr (2 * c + 2) hc
  cases a with
  | iop => exact absurd rfl hi
  | w16 c => exact readCell_storeCell_same _ hm (ram c ⟨by omega, by omega⟩)
  | w32 c => exact read32_storeWord_same _ hm (ram c ⟨by omega, by omega⟩) (ram' c ⟨by omega, by omega⟩)
  | w64 c c' =>
    have h0 := read32_storeWord_same d.low hm (ram c (.inl ⟨by omega, by omega⟩))
      (ram' c (.inl ⟨by omega, by omega⟩))
    have h1 := read32_storeWord_same d.high (storeWord_wf c d.low hm) (ram c' (.inr ⟨by omega, by omega⟩))
      (ram' c' (.inr ⟨by omega, by omega⟩))
    exact ⟨(read32_storeWord_ne d.high ha).trans h0, h1⟩
  | w48 c | w40 c =>
    have h2 : cellRam (c + 2) = true := by
      simpa [Nat.add_div] using hr (2 * c + 4) ⟨by omega, by omega⟩
    exact read48_storeMem d hm (ram c ⟨by omega, by omega⟩) (ram' c ⟨by omega, by omega⟩) h2

/-! ## Long words -/

theorem xor_one_eq (a : Nat) : a ^^^ 1 = if a % 2 = 0 then a + 1 else a - 1 := by
  split
  · next h => exact Nat.xor_one_of_even (Nat.even_iff.mpr h)
  · next h => exact Nat.xor_one_of_odd (Nat.odd_iff.mpr (by omega))

/-- The two words of a long word are the halves of a row. -/
theorem longCells_halves {addr : Word} {lw : Bool} {c c' : Nat} (h : longCells addr lw c c') :
    c / 4 = addrRow addr ∧ c' / 4 = addrRow addr ∧ c % 2 = 0 ∧ c' % 2 = 0 ∧ c ≠ c' := by
  unfold addrRow
  obtain ⟨h0, h1, rfl, rfl, -⟩ | ⟨h0, h1, -, rfl, rfl, -⟩ := h
  · rw [if_pos h1]
    omega
  · rw [if_neg (by omega), xor_one_eq]
    split <;> omega

theorem longCells_inRam {addr : Word} {lw : Bool} {c c' : Nat} (h : longCells addr lw c c') (hr : cellRam c = true) :
    Access.inRam (.w64 c c') := by
  obtain ⟨hc, hc', h0, h1, -⟩ := longCells_halves h
  intro b hb
  refine cellRam_of_row (c := c) ?_ hr
  simp only [Access.covers] at hb
  omega

theorem longCells_apart {addr : Word} {lw : Bool} {c c' : Nat} (h : longCells addr lw c c') :
    Access.apart (.w64 c c') := by
  obtain ⟨-, -, h0, h1, h2⟩ := longCells_halves h
  simp only [Access.apart]
  omega

/-- A byte outside the row is none of the long word's. -/
theorem longCells_not_covers {addr : Word} {lw : Bool} {c c' b : Nat} (h : longCells addr lw c c')
    (hb : b / 8 ≠ addrRow addr) : ¬ Access.covers (.w64 c c') b := by
  obtain ⟨hc, hc', h0, h1, -⟩ := longCells_halves h
  simp only [Access.covers]
  omega

end Sys2Proof.Machine
end

section
/-! What holds of an answer, weakened; and states that differ in the notes of an access only (`accessed`). -/

namespace Sys2Proof.Safety

open Sys2Proof.Machine

theorem gives.imp {i : Instr} {p q : State → Prop} (h : gives i s p) (hpq : ∀ t, p t → q t) : gives i s q := by
  obtain ⟨t, ht, hp⟩ := h
  exact ⟨t, ht, hpq t hp⟩

variable {w t : State}

theorem accessed.reg (h : accessed w t) (e : Elem) (n : RegNum) : t.reg e n = w.reg e n := by
  rw [h.1]
  cases e <;> rfl

theorem accessed.px (h : accessed w t) : t.px = w.px := by rw [h.1]

theorem accessed.mem (h : accessed w t) : t.mem = w.mem := by rw [h.1]

/-- What is noted of cells stored to is a note too. -/
theorem accessed.of_setScratch {x : Scratch} (h : accessed (w.setScratch x) t) : accessed w t := h

end Sys2Proof.Safety
end

section
/-! A transfer at a direct address: the equations of the load and the store by the class of the access, and that beside
register and memory they make notes only (`accessed`). -/

namespace Sys2Proof.Machine

open Sys2Proof.Safety

variable {s w t : State} {pm lw : Bool} {addr : Word} {u k : UReg} {a : Access} {c c' : Nat} {d dk : StoreData}

/-! ## Notes -/

/-- The notes of an access to memory. -/
theorem noteAccess_accessed (h : 0x40000 ≤ addr.toNat) (s : State) (pm write lw : Bool) (w : State) :
    accessed w (noteAccess s pm write lw addr w) := by
  have hb : noteBus pm write addr w = w.setScratch (noteBus pm write addr w).scratch := by
    unfold noteBus
    dsimp only
    rw [if_neg (by omega)]
    rfl
  unfold noteAccess
  rw [hb]
  generalize (noteBus pm write addr w).scratch = x
  have none : accessed w (w.setScratch x) := ⟨rfl, rfl, by simp⟩
  unfold noteIllegal
  dsimp only
  rw [if_neg (by omega)]
  split
  · split
    · refine ⟨rfl, ?_, ?_⟩
      · change (w.sys.stkyx.val ||| 0x00100000) ||| 0x180000 = _
        rw [BitVec.or_assoc]
        rfl
      · change w.sys.stkyx.val &&& ~~~(w.sys.stkyx.val ||| 0x00100000) = 0
        rw [BitVec.not_or, ← BitVec.and_assoc]
        simp
    · exact none
  · exact none

/-! ## Classes -/

theorem classify_long (h : longCells addr lw c c') (k : RegClass) : classify s addr k lw false = .next (.w64 c c') := by
  unfold classify
  dsimp only
  obtain ⟨h0, h1, rfl, rfl, hm⟩ | ⟨h0, h1, rfl, rfl, rfl, hm⟩ := h
  · rw [if_neg (by omega), if_pos h1, if_pos hm]
  · rw [if_neg (by omega), if_neg (by omega), if_pos h1, if_pos rfl, if_pos hm]

theorem longCells_wide (h : longCells addr lw c c') : addr.toNat < 0x80000 ∨ lw = true := by
  obtain ⟨-, h1, -⟩ | ⟨-, -, hl, -⟩ := h
  · exact .inl h1
  · exact .inr hl

theorem longCells_memory (h : longCells addr lw c c') : 0x40000 ≤ addr.toNat := by
  obtain ⟨h0, -⟩ | ⟨h0, -⟩ := h <;> omega

theorem implicitAccess_wide {r : RegClass} (h : addr.toNat < 0x80000 ∨ lw = true ∨ r = .px) :
    implicitAccess s addr r lw = .next none := by
  unfold implicitAccess
  rw [if_pos h]

theorem classify_block40 {n : Nat} (h : cell48 addr.toNat = some n) (hi : imdw s (2 * addr.toNat) = true) :
    classify s addr .dreg false false = .next (.w40 n) := by
  obtain ⟨h0, h1⟩ := cell48_range h
  unfold classify
  dsimp only
  rw [if_neg (by omega), if_neg (by omega), if_pos h1, if_neg (by decide), if_neg (by decide), if_pos hi, h]

theorem implicitAccess_block40 {r : RegClass} (h1 : addr.toNat < 0x100000)
    (hi : imdw s (2 * addr.toNat) = true) : implicitAccess s addr r lw = .next none := by
  unfold implicitAccess
  dsimp only
  by_cases hw : addr.toNat < 0x80000 ∨ lw = true ∨ r = .px
  · rw [if_pos hw]
  · rw [if_neg hw, if_pos h1, if_pos hi]

theorem classify_px48 {n : Nat} (h : cell48 addr.toNat = some n) :
    classify s addr .px false false = .next (.w48 n) := by
  obtain ⟨h0, h1⟩ := cell48_range h
  unfold classify
  dsimp only
  rw [if_neg (by omega), if_neg (by omega), if_pos h1, if_neg (by decide), if_pos rfl, h]

theorem classify_short (h0 : 0x100000 ≤ addr.toNat) (h1 : addr.toNat < 0x200000) (hm : cellMapped addr.toNat = true) :
    classify s addr .dreg false false = .next (.w16 addr.toNat) := by
  unfold classify
  dsimp only
  rw [if_neg (by omega), if_neg (by omega), if_neg (by omega), if_pos h1, if_neg (by decide), if_neg (by decide),
    if_pos hm]

theorem implicitAccess_short (h0 : 0x100000 ≤ addr.toNat) (h1 : addr.toNat < 0x200000)
    (hm : cellMapped (addr.toNat + 2) = true) :
    implicitAccess s addr .dreg false = .next (some (.w16 (addr.toNat + 2))) := by
  unfold implicitAccess
  dsimp only
  rw [if_neg (by simp; omega), if_neg (by omega), if_pos h1, if_pos hm]

/-! ## The transfer of type 14 -/

/-- The parameters of a transfer of type 14. -/
def directTransfer (pm lw : Bool) (addr : Word) : Transfer :=
  { pm := pm, addr := addr, lw := lw, dual := false, conditional := false, index := none }

theorem implicitly_none {x : Transfer} {r : RegClass} (hi : implicitAccess s x.addr r x.lw = .next none) (go : Bool)
    (f : Access → State → Res State) (t : State) : implicitly s go x r f t = .next t := by
  rw [implicitly_eq_next]
  cases hg : s.simd && go
  · exact .inl ⟨rfl, rfl⟩
  · exact .inr ⟨rfl, .inl ⟨hi, rfl⟩⟩

/-- A load of a register with a complement. -/
theorem exec_load_pair (hk : u.complement = some k) (ha : classify s addr u.cls lw false = .next a)
    (hl : loadUReg u (loadData s addr a) s = .next w) :
    exec (.memDirect14a pm false lw u addr) s =
      implicitly s true (directTransfer pm lw addr) u.cls (fun a t => loadUReg k (loadData s addr a) t)
        (noteAccess s pm false lw addr w) := by
  change loadTransfer s .open (directTransfer pm lw addr) u s = _
  simp [loadTransfer, directTransfer, hk, Gates.open, broadcasts, ha, hl]

/-- A load of a register without one. -/
theorem exec_load_single (hk : u.complement = none) (ha : classify s addr u.cls lw false = .next a)
    (hl : loadUReg u (loadData s addr a) s = .next w) :
    exec (.memDirect14a pm false lw u addr) s = .next (noteAccess s pm false lw addr w) := by
  change loadTransfer s .open (directTransfer pm lw addr) u s = _
  simp [loadTransfer, directTransfer, hk, Gates.open, Gates.any, broadcasts, ha, hl]

theorem exec_store_pair (hk : u.complement = some k) (ha : classify s addr u.cls lw false = .next a)
    (hd : storeData s u = .next d) (hdk : storeData s k = .next dk) :
    exec (.memDirect14a pm true lw u addr) s =
      implicitly s true (directTransfer pm lw addr) u.cls (fun a t => .next (performStore addr a dk t))
        (noteAccess s pm true lw addr (performStore addr a d s)) := by
  change storeUReg s .open (directTransfer pm lw addr) u s = _
  simp [storeUReg, accessStore, directTransfer, hk, hd, hdk, pairToIop, Gates.open, ha]

theorem exec_store_single (hk : u.complement = none) (ha : classify s addr u.cls lw false = .next a)
    (hd : storeData s u = .next d) :
    exec (.memDirect14a pm true lw u addr) s = .next (noteAccess s pm true lw addr (performStore addr a d s)) := by
  change storeUReg s .open (directTransfer pm lw addr) u s = _
  simp [storeUReg, accessStore, directTransfer, hk, hd, Gates.open, ha]

/-- A load of a width without an implicit access changes the register, and notes the access. -/
theorem wideLoad_gives (hm : 0x40000 ≤ addr.toNat) (ha : classify s addr u.cls lw false = .next a)
    (hi : implicitAccess s addr u.cls lw = .next none) (hl : loadUReg u (loadData s addr a) s = .next w) (pm : Bool) :
    gives (.memDirect14a pm false lw u addr) s (accessed w) := by
  refine ⟨_, ?_, noteAccess_accessed hm s pm false lw w⟩
  cases hk : u.complement with
  | none => exact exec_load_single hk ha hl
  | some k => rw [exec_load_pair hk ha hl, implicitly_none hi]

/-- A store of such a width changes memory, and notes the access. -/
theorem wideStore_gives (hm : 0x40000 ≤ addr.toNat) (ha : classify s addr u.cls lw false = .next a)
    (hi : implicitAccess s addr u.cls lw = .next none) (hd : storeData s u = .next d)
    (hk : ∀ k, u.complement = some k → ∃ dk, storeData s k = .next dk) (hne : a ≠ .iop) (pm : Bool) :
    gives (.memDirect14a pm true lw u addr) s (accessed (s.setMem (storeMem a d s.mem))) := by
  have hp : performStore addr a d s = noteStored a (s.setMem (storeMem a d s.mem)) := by
    obtain ⟨h, -⟩ | ⟨-, h⟩ := performStore_eq addr a d s
    · exact absurd h hne
    · exact h
  have ht := noteAccess_accessed hm s pm true lw (performStore addr a d s)
  rw [hp] at ht
  refine ⟨_, ?_, ht.of_setScratch⟩
  rw [← hp]
  cases hc : u.complement with
  | none => exact exec_store_single hc ha hd
  | some k =>
    obtain ⟨dk, hdk⟩ := hk k hc
    rw [exec_store_pair hc ha hd hdk, implicitly_none hi]

end Sys2Proof.Machine
end

section
/-! Universal registers that are no data registers: that a usable one can be read and written, and what it moves as one
of a pair. -/

namespace Sys2Proof.Machine

open Sys2Proof.Safety

variable {s t : State} {u k : UReg}

/-! ## Reads and writes that complete -/

theorem pcDepth_usable (h : usable s .pcstk) : ∃ d, pcDepth s = .next d := by
  obtain ⟨he, hne⟩ := h.2 rfl
  exact ⟨_, pcDepth_eq_next.mpr ⟨he, hne, rfl⟩⟩

theorem readUReg_usable (h : usable s u) : ∃ v, readUReg s u = .next v := by
  cases u
  case pcstk =>
    obtain ⟨d, hd⟩ := pcDepth_usable h
    by_cases h0 : 0 < d ∧ d ≤ 30 <;> exact ⟨_, by simp [readUReg, readPcstk, hd, h0]; rfl⟩
  case laddr => exact ⟨s.laddr, by simp [readUReg, h.1 (.inl rfl)]⟩
  case curlcntr => exact ⟨s.curlcntr, by simp [readUReg, h.1 (.inr rfl)]⟩
  all_goals exact ⟨_, rfl⟩

theorem writeUReg_usable (h : usable s u) (v : Word) : ∃ t, writeUReg u v s = .next t := by
  cases u
  case pcstk =>
    obtain ⟨d, hd⟩ := pcDepth_usable h
    by_cases h0 : 0 < d ∧ d ≤ 30 <;> exact ⟨_, by simp [writeUReg, writePcstk, hd, h0]; rfl⟩
  case pcstkp =>
    unfold writeUReg
    dsimp only
    split <;> exact ⟨_, rfl⟩
  case laddr => exact ⟨s.setLaddr v, by simp [writeUReg, h.1 (.inl rfl)]⟩
  case curlcntr => exact ⟨(s.setCurlcntr v).syncLce, by simp [writeUReg, h.1 (.inr rfl)]⟩
  all_goals exact ⟨_, rfl⟩

/-! ## Pairs -/

theorem neighbour_usable (h : u.neighbour = some k) (s : State) : usable s k := by
  cases u <;> cases h <;> simp [usable]

theorem complement_usable (h : u.complement = some k) (s : State) : usable s k := by
  cases u
  case sys x =>
    obtain ⟨y, -, rfl⟩ := Option.map_eq_some_iff.mp h
    simp [usable]
  all_goals cases h <;> simp [usable]

/-- The other register of a pair: the neighbour, else the complement, else the register itself (20_memory.md R163,
R165). -/
def busPeer (u : UReg) : UReg := (u.neighbour.or u.complement).getD u

theorem peer_usable (h : usable s u) : usable s (busPeer u) := by
  unfold busPeer
  cases hn : u.neighbour with
  | some n => exact neighbour_usable hn s
  | none =>
    cases hc : u.complement with
    | some k => exact complement_usable hc s
    | none => exact h

/-! ## The bus -/

/-- A register that is no data register puts itself and its peer on the bus. -/
theorem storeData_pair (hd : u.dreg = none) (hp : u ≠ .px) {lo hi : Word} (hlo : readUReg s u = .next lo)
    (hhi : readUReg s (busPeer u) = .next hi) : storeData s u = .next ⟨lo, hi, lo ++ (0#16)⟩ := by
  unfold storeData
  split
  · cases hd
  · cases hd
  · exact absurd rfl hp
  · rw [hlo, Res.bind_next]
    unfold busPeer at hhi
    cases hn : u.neighbour.or u.complement with
    | some n =>
      rw [hn] at hhi
      simp only [Option.getD_some] at hhi
      simp [hhi]
    | none =>
      rw [hn] at hhi
      obtain rfl : lo = hi := by simpa [hlo] using hhi
      rfl

theorem storeData_usable (h : usable s u) : ∃ d, storeData s u = .next d := by
  cases hd : u.dreg with
  | some r =>
    cases u
    case r | s => exact ⟨_, rfl⟩
    all_goals cases hd
  | none =>
    by_cases hp : u = .px
    · subst hp
      exact ⟨_, rfl⟩
    · obtain ⟨lo, hlo⟩ := readUReg_usable h
      obtain ⟨hi, hhi⟩ := readUReg_usable (peer_usable h)
      exact ⟨_, storeData_pair hd hp hlo hhi⟩

/-- The words of a long word go to the register and its neighbour. -/
theorem loadUReg_neighbour (hn : u.neighbour = some k) (lo hi : Word) (t : State) :
    loadUReg u (.v64 lo hi) t = writeAll [(u, lo), (k, hi)] t := by
  have hp : u ≠ .px := by
    rintro rfl
    cases hn
  unfold loadUReg
  dsimp only
  rw [if_neg hp, hn]
  unfold writeAll
  congr 1
  funext w
  cases h : writeUReg k hi w <;> simp [writeAll, h, Res.bind]

theorem loadUReg_alone (hp : u ≠ .px) (hn : u.neighbour = none) (lo hi : Word) (t : State) :
    loadUReg u (.v64 lo hi) t = writeAll [(u, lo)] t := by
  unfold loadUReg
  dsimp only
  rw [if_neg hp, hn]
  rfl

/-- A usable register takes the words of a long word, with its neighbour where it has one. -/
theorem writeAll_pair_usable (h : usable s u) (v : Word) {l : List (UReg × Word)}
    (hl : ∀ p ∈ l, u.neighbour = some p.1) : ∃ w, writeAll ((u, v) :: l) s = .next w := by
  obtain ⟨t, ht⟩ := writeUReg_usable h v
  unfold writeAll
  rw [ht, Res.bind_next]
  clear ht h
  induction l generalizing t with
  | nil => exact ⟨t, rfl⟩
  | cons p l ih =>
    obtain ⟨w, hw⟩ := writeUReg_usable (neighbour_usable (hl p (by simp)) t) p.2
    obtain ⟨x, hx⟩ := ih (fun q hq => hl q (by simp [hq])) w
    exact ⟨x, by unfold writeAll; rw [hw, Res.bind_next, hx]⟩

end Sys2Proof.Machine
end

section
/-! The width of an access by its address and its register (20_memory.md R160 to R170). -/

namespace Sys2Proof.Machine

open Sys2Proof.Safety

variable {s : State} {lw : Bool} {u : UReg} {n : RegNum} {addr : Word} {c c' : Nat}

/-! ## Long words -/

/-- A load of a long word: what the register does with its two words, and nothing beside. -/
theorem longLoad_gives {w : State} (h : longCells addr lw c c')
    (hl : loadUReg u (.v64 (read32 s.mem c) (read32 s.mem c')) s = .next w) (pm : Bool) :
    gives (.memDirect14a pm false lw u addr) s (accessed w) :=
  wideLoad_gives (longCells_memory h) (classify_long h _)
    (implicitAccess_wide ((longCells_wide h).imp_right .inl)) hl pm

/-- A store of a long word: both halves of what the register puts on the bus, and nothing outside the row. -/
theorem longStore_gives (h : longCells addr lw c c') (hm : Memory.wf s.mem = true) {d : StoreData}
    (hd : storeData s u = .next d) (pm : Bool) :
    gives (.memDirect14a pm true lw u addr) s fun t =>
      accessed { s with mem := t.mem } t ∧
        (cellRam c = true → read32 t.mem c = d.low ∧ read32 t.mem c' = d.high) ∧
        ∀ b, b / 8 ≠ addrRow addr → readByte t.mem b = readByte s.mem b := by
  have ht := wideStore_gives (longCells_memory h) (classify_long h u.cls)
    (implicitAccess_wide ((longCells_wide h).imp_right .inl)) hd
    (fun k hk => storeData_usable (complement_usable hk s)) (by simp) pm
  refine ht.imp fun t ht => ?_
  have hmem : t.mem = storeMem (.w64 c c') d s.mem := ht.mem
  refine ⟨by rw [hmem]; exact ht, fun hr => ?_, fun b hb => ?_⟩
  · rw [hmem]
    exact storeMem_holds d hm (by simp) (longCells_inRam h hr) (longCells_apart h)
  · rw [hmem]
    exact readByte_storeMem d (.inl (longCells_not_covers h hb))

theorem xor_one_ne (n : RegNum) : n ^^^ 1 ≠ n := by
  revert n
  decide

/-- A data register and its neighbour take the two words of a long word. -/
theorem longLoad_dreg (h : longCells addr lw c c') (pm : Bool) :
    gives (.memDirect14a pm false lw (.r n) addr) s fun t =>
      t.reg .x n = Word.toExt (read32 s.mem c) ∧ t.reg .x (n ^^^ 1) = Word.toExt (read32 s.mem c') ∧ t.mem = s.mem := by
  refine (longLoad_gives (u := .r n) h rfl pm).imp fun t ht => ?_
  rw [ht.reg, ht.reg, ht.mem]
  have hne : ¬ (Elem.x = Elem.x ∧ n = n ^^^ 1) := fun hc => xor_one_ne n hc.2.symm
  exact ⟨(State.setReg_reg_ne _ hne _).trans (State.setReg_reg ..), State.setReg_reg .., by simp⟩

/-! ## Short words -/

/-- The implicit access of a short word is the one two cells on. -/
theorem implicitly_short (h0 : 0x100000 ≤ addr.toNat) (h1 : addr.toNat < 0x200000)
    (hy : s.simd = true → cellMapped (addr.toNat + 2) = true) (pm : Bool) (f : Access → State → Res State) (t : State) :
    implicitly s true (directTransfer pm false addr) .dreg f t =
      if s.simd then (f (.w16 (addr.toNat + 2)) t).map (notePm pm) else .next t := by
  unfold implicitly
  cases hs : s.simd
  · rfl
  · simp [directTransfer, implicitAccess_short h0 h1 (hy hs)]

theorem shortLoad_gives (h0 : 0x100000 ≤ addr.toNat) (h1 : addr.toNat < 0x200000)
    (hm : cellMapped addr.toNat = true) (hy : s.simd = true → cellMapped (addr.toNat + 2) = true) (pm : Bool) :
    gives (.memDirect14a pm false false (.r n) addr) s fun t =>
      t.reg .x n = Word.toExt (extendShort s (readCell s.mem addr.toNat)) ∧
        (s.simd = true → t.reg .y n = Word.toExt (extendShort s (readCell s.mem (addr.toNat + 2)))) ∧
        t.mem = s.mem := by
  have he := (exec_load_pair (pm := pm) (u := .r n) (k := .s n) rfl (classify_short h0 h1 hm) rfl).trans
    (implicitly_short h0 h1 hy pm _ _)
  have hv := noteAccess_accessed (addr := addr) (by omega) s pm false false
    (s.setReg32 .x n (extendShort s (readCell s.mem addr.toNat)))
  have hx := (hv.reg .x n).trans (State.setReg_reg ..)
  have hmem := hv.mem.trans (State.setReg32_mem ..)
  change exec _ s = if s.simd then .next (notePm pm (State.setReg32 _ .y n _)) else .next _ at he
  cases hs : s.simd with
  | false => exact ⟨_, by rw [he, hs]; rfl, hx, nofun, hmem⟩
  | true =>
    refine ⟨_, by rw [he, hs]; rfl, ?_, fun _ => ?_, ?_⟩
    · simpa [notePm, State.setReg32, State.setReg_reg_ne] using hx
    · exact State.setReg_reg ..
    · simp

/-- Memory after a store of a data register to a short word: its low half, in SIMD mode that of the complement two cells
on. -/
def shortStored (s : State) (n : RegNum) (a : Nat) : List Host.Cell :=
  let m := storeCell a ((s.reg32 .x n).extractLsb' 0 16) s.mem
  if s.simd then storeCell (a + 2) ((s.reg32 .y n).extractLsb' 0 16) m else m

theorem shortStore_gives (h0 : 0x100000 ≤ addr.toNat) (h1 : addr.toNat < 0x200000)
    (hm : cellMapped addr.toNat = true) (hy : s.simd = true → cellMapped (addr.toNat + 2) = true) (pm : Bool) :
    gives (.memDirect14a pm true false (.r n) addr) s fun t => t.mem = shortStored s n addr.toNat := by
  have he := (exec_store_pair (pm := pm) (u := .r n) (k := .s n) rfl (classify_short h0 h1 hm) rfl rfl).trans
    (implicitly_short h0 h1 hy pm _ _)
  unfold shortStored
  cases hs : s.simd with
  | false => exact ⟨_, by rw [he, hs]; rfl, by simp [storeMem]⟩
  | true => exact ⟨_, by rw [he, hs]; rfl, by simp [storeMem]⟩

theorem readCell_shortStored {a : Nat} (hm : Memory.wf s.mem = true) (hr : cellRam a = true) :
    readCell (shortStored s n a) a = (s.reg32 .x n).setWidth 16 := by
  rw [BitVec.setWidth_eq_extractLsb' (by decide)]
  unfold shortStored
  dsimp only
  split
  · rw [readCell_storeCell_ne _ (by omega), readCell_storeCell_same _ hm hr]
  · exact readCell_storeCell_same _ hm hr

theorem readCell_shortStored_simd {a : Nat} (hm : Memory.wf s.mem = true) (hs : s.simd = true)
    (hr : cellRam (a + 2) = true) : readCell (shortStored s n a) (a + 2) = (s.reg32 .y n).setWidth 16 := by
  unfold shortStored
  dsimp only
  rw [if_pos hs, readCell_storeCell_same _ (storeCell_wf _ _ hm) hr, BitVec.setWidth_eq_extractLsb' (by decide)]

theorem readByte_shortStored {a b : Nat} (hx : b / 2 ≠ a) (hy : s.simd = false ∨ b / 2 ≠ a + 2) :
    readByte (shortStored s n a) b = readByte s.mem b := by
  have h (m : List Host.Cell) {c : Nat} (v : BitVec 16) (hc : b / 2 ≠ c) :
      readByte (storeCell c v m) b = readByte m b :=
    readByte_storeCell v (.inl (by omega))
  unfold shortStored
  dsimp only
  split
  · next hs => rw [h _ _ (hy.resolve_left (by simp [hs])), h _ _ hx]
  · exact h _ _ hx

/-! ## 48-bit words -/

/-- A store of 48 bits: the word that the register puts on the bus, and nothing outside it. -/
theorem store48_gives {k : Nat} {a : Access} {d : StoreData} (hk : cell48 addr.toNat = some k)
    (hm : Memory.wf s.mem = true) (hw : a = .w48 k ∨ a = .w40 k) (ha : classify s addr u.cls false false = .next a)
    (hi : implicitAccess s addr u.cls false = .next none) (hd : storeData s u = .next d) (pm : Bool) :
    gives (.memDirect14a pm true false u addr) s fun t =>
      (cellRam k = true → read48 t.mem k = d.wide) ∧
        ∀ b, b < 2 * k ∨ 2 * k + 6 ≤ b → readByte t.mem b = readByte s.mem b := by
  obtain ⟨h0, -⟩ := cell48_range hk
  have ht := wideStore_gives (by omega) ha hi hd (fun k hk => storeData_usable (complement_usable hk s))
    (by rcases hw with rfl | rfl <;> simp) pm
  refine ht.imp fun t ht => ?_
  rw [ht.mem, State.setMem_mem]
  refine ⟨fun hr => ?_, fun b hb => readByte_storeMem d (.inl ?_)⟩
  · obtain ⟨h1, h2⟩ := cellRam_word48 hk hr
    rcases hw with rfl | rfl <;> exact read48_storeMem d hm hr h1 h2
  · rcases hw with rfl | rfl <;> simp only [Access.covers] <;> omega

/-- A data register in a 40-bit block moves 40 bits of 48. -/
theorem block40_dreg {k : Nat} (hk : cell48 addr.toNat = some k) (hi : imdw s (2 * addr.toNat) = true)
    (hm : Memory.wf s.mem = true) (pm : Bool) :
    (gives (.memDirect14a pm false false (.r n) addr) s fun t =>
      t.reg .x n = (read48 s.mem k).extractLsb' 8 40 ∧ t.mem = s.mem) ∧
    gives (.memDirect14a pm true false (.r n) addr) s fun t =>
      (cellRam k = true → read48 t.mem k = s.reg .x n ++ (0#8)) ∧
        ∀ b, b < 2 * k ∨ 2 * k + 6 ≤ b → readByte t.mem b = readByte s.mem b := by
  obtain ⟨h0, h1⟩ := cell48_range hk
  have ha := classify_block40 hk hi
  have hn : implicitAccess s addr .dreg false = .next none := implicitAccess_block40 h1 hi
  refine ⟨?_, store48_gives (u := .r n) hk hm (.inr rfl) ha hn rfl pm⟩
  refine (wideLoad_gives (u := .r n) (by omega) ha hn rfl pm).imp fun t ht => ?_
  exact ⟨(ht.reg .x n).trans (State.setReg_reg ..), ht.mem.trans (State.setReg_mem ..)⟩

/-- The combined PX at a normal-word address moves 48 bits. -/
theorem px48 {k : Nat} (hk : cell48 addr.toNat = some k) (hm : Memory.wf s.mem = true) (pm : Bool) :
    (gives (.memDirect14a pm false false .px addr) s fun t => t.px = read48 s.mem k ++ (0#16) ∧ t.mem = s.mem) ∧
    gives (.memDirect14a pm true false .px addr) s fun t =>
      (cellRam k = true → read48 t.mem k = s.px.extractLsb' 16 48) ∧
        ∀ b, b < 2 * k ∨ 2 * k + 6 ≤ b → readByte t.mem b = readByte s.mem b := by
  obtain ⟨h0, -⟩ := cell48_range hk
  have ha := classify_px48 (s := s) hk
  have hn : implicitAccess s addr .px false = .next none := implicitAccess_wide (.inr (.inr rfl))
  refine ⟨?_, store48_gives (u := .px) hk hm (.inl rfl) ha hn rfl pm⟩
  exact (wideLoad_gives (u := .px) (by omega) ha hn rfl pm).imp fun t ht => ⟨ht.px, ht.mem⟩

/-! ## Pairs of registers that are no data registers -/

/-- A load of a long word writes the register, with its neighbour where it has one, and leaves memory. -/
theorem longLoad_writes {l : List (UReg × Word)} (h : longCells addr lw c c') (hu : usable s u)
    (hl : loadUReg u (.v64 (read32 s.mem c) (read32 s.mem c')) s = writeAll ((u, read32 s.mem c) :: l) s)
    (hn : ∀ p ∈ l, u.neighbour = some p.1) (pm : Bool) :
    ∃ w, writeAll ((u, read32 s.mem c) :: l) s = .next w ∧
      gives (.memDirect14a pm false lw u addr) s fun t => accessed w t ∧ t.mem = s.mem := by
  obtain ⟨w, hw⟩ := writeAll_pair_usable hu (read32 s.mem c) hn
  have hload := hl.trans hw
  exact ⟨w, hw, (longLoad_gives h hload pm).imp fun t ht => ⟨ht, ht.mem.trans (loadUReg_mem hload)⟩⟩

/-- Settles O31: the accesses of two words by `longLoad_gives` and `longStore_gives`, of data registers and the others
alike; the narrower ones by the lemmas of their widths. -/
theorem accessWidths : Obligations.AccessWidths := by
  unfold Obligations.AccessWidths
  constructor
  · intro s pm n addr a hm
    refine ⟨fun h0 h1 hc => ?long, fun h0 h1 hc _ => ?forced, fun h0 h1 hc hy => ?short, fun k hk => ?word48⟩
    case long =>
      have h : longCells addr false (4 * a) (4 * a + 2) := .inl ⟨h0, h1, rfl, rfl, hc⟩
      have hstore := longStore_gives (u := .r n) h hm rfl pm
      refine ⟨longLoad_dreg h pm, hstore.imp fun t ⟨_, hw, hb⟩ => ⟨fun hr => ?_, fun b hn => hb b ?_⟩⟩
      · obtain ⟨hlow, hhigh⟩ := hw hr
        rw [read64, hlow, hhigh]
      · rw [addrRow, if_pos h1]
        omega
    case forced =>
      have h : longCells addr true (2 * a) (2 * (a ^^^ 1)) := .inr ⟨h0, h1, rfl, rfl, rfl, hc⟩
      have hstore := longStore_gives (u := .r n) h hm rfl pm
      refine ⟨longLoad_dreg h pm, hstore.imp fun t ⟨_, hw, hb⟩ => ⟨hw, fun b hn => hb b ?_⟩⟩
      rwa [addrRow, if_neg (by omega)]
    case short =>
      refine ⟨shortLoad_gives h0 h1 hc hy pm, (shortStore_gives h0 h1 hc hy pm).imp fun t ht => ?_⟩
      rw [ht]
      exact ⟨readCell_shortStored hm, readCell_shortStored_simd hm, fun b => readByte_shortStored⟩
    case word48 => exact ⟨fun hi => block40_dreg hk hi hm pm, px48 hk hm pm⟩
  · intro s pm lw u addr c c' hm h hd hu
    refine ⟨fun hp => ⟨?_, ?_⟩, ?_⟩
    · cases hn : u.neighbour with
      | some k => exact longLoad_writes h hu (loadUReg_neighbour hn _ _ s) (by simp [hn]) pm
      | none => exact longLoad_writes h hu (loadUReg_alone hp hn _ _ s) (by simp) pm
    · obtain ⟨lo, hlo⟩ := readUReg_usable hu
      obtain ⟨hi, hhi⟩ := readUReg_usable (peer_usable hu)
      exact ⟨lo, hi, hlo, hhi, longStore_gives h hm (storeData_pair hd hp hlo hhi) pm⟩
    · rintro rfl
      have hbus : storeData s .px = .next ⟨s.px1, s.px2, s.px.extractLsb' 16 48⟩ := rfl
      exact ⟨longLoad_gives h rfl pm, longStore_gives h hm hbus pm⟩

end Sys2Proof.Machine
end

section
/-! Fields: `unpack` cuts out of a word what `pack` put in, and the codes of operands are read back. -/

namespace Sys2Proof

/-! ## Words and their fields -/

/-- Each field is below two to the power of its width. -/
abbrev Fits (ws vs : List Nat) : Prop := List.Forall₂ (fun w v => v < 2 ^ w) ws vs

theorem pack_lt (ws vs : List Nat) : pack ws vs < 2 ^ ws.sum := by
  induction ws generalizing vs with
  | nil => simp [pack]
  | cons w ws ih =>
    cases vs with
    | nil => exact Nat.two_pow_pos _
    | cons v vs =>
      have hv : v % 2 ^ w + 1 ≤ 2 ^ w := Nat.mod_lt _ (Nat.two_pow_pos w)
      calc v % 2 ^ w * 2 ^ ws.sum + pack ws vs
        _ < v % 2 ^ w * 2 ^ ws.sum + 2 ^ ws.sum := Nat.add_lt_add_left (ih vs) _
        _ = (v % 2 ^ w + 1) * 2 ^ ws.sum := by ring
        _ ≤ 2 ^ w * 2 ^ ws.sum := Nat.mul_le_mul_right _ hv
        _ = 2 ^ (w :: ws).sum := by rw [List.sum_cons, pow_add]

/-- The fields of a word are those of its low bits. -/
theorem unpack_add_mul (ws : List Nat) (k x : Nat) : unpack ws (k * 2 ^ ws.sum + x) = unpack ws x := by
  induction ws generalizing k with
  | nil => rfl
  | cons w ws ih =>
    have hk : k * 2 ^ (w :: ws).sum = k * 2 ^ w * 2 ^ ws.sum := by rw [List.sum_cons, pow_add, mul_assoc]
    rw [hk, unpack, unpack, ih]
    congr 1
    rw [add_comm, Nat.add_mul_div_right _ _ (Nat.two_pow_pos _), Nat.add_mul_mod_self_right]

theorem unpack_pack {ws vs : List Nat} (h : Fits ws vs) : unpack ws (pack ws vs) = vs := by
  induction h with
  | nil => rfl
  | @cons w v ws vs hv _ ih =>
    have hdiv : (v * 2 ^ ws.sum + pack ws vs) / 2 ^ ws.sum = v := by
      rw [add_comm, Nat.add_mul_div_right _ _ (Nat.two_pow_pos _), Nat.div_eq_of_lt (pack_lt ws vs), zero_add]
    rw [pack, Nat.mod_eq_of_lt hv, unpack, hdiv, unpack_add_mul, ih, Nat.mod_eq_of_lt hv]

/-- The first field of a word, read without its upper bound. -/
theorem head_of_unpack {w v x : Nat} {ws vs : List Nat} (hx : x < 2 ^ (w :: ws).sum)
    (h : unpack (w :: ws) x = v :: vs) :
    x / 2 ^ ws.sum = v := by
  have hlt : x / 2 ^ ws.sum < 2 ^ w := Nat.div_lt_of_lt_mul (by rwa [List.sum_cons, add_comm, pow_add] at hx)
  rw [← Nat.mod_eq_of_lt hlt]
  exact (List.cons.inj h).1

/-- What a decoder answers to every word with the given fields, it answers to the word packed from them. -/
theorem apply_pack {α : Type} {f : Nat → α} {r : α} {ws vs : List Nat} (h : Fits ws vs)
    (hf : ∀ x, x < 2 ^ ws.sum → unpack ws x = vs → f x = r) : f (pack ws vs) = r :=
  hf _ (pack_lt ws vs) (unpack_pack h)

theorem bv_pack_toNat {n : Nat} {ws : List Nat} (h : ws.sum = n) (vs : List Nat) :
    (bv (pack ws vs) : BitVec n).toNat = pack ws vs := by
  rw [bv, BitVec.toNat_ofNat, Nat.mod_eq_of_lt (h ▸ pack_lt ws vs)]

/-! ## Operands -/

@[simp] theorem bv_toNat {n : Nat} (x : BitVec n) : bv x.toNat = x := by simp [bv]

@[simp] theorem flag_toNat (b : Bool) : flag b.toNat = b := by cases b <;> rfl

@[simp] theorem toNat_lt_of_pow_le {n m : Nat} (x : BitVec n) (h : 2 ^ n ≤ m) : x.toNat < m := x.isLt.trans_le h

@[simp] theorem Cond.ofCode_code (c : Cond) : Cond.ofCode c.code = c := by
  cases c with
  | is t | isNot t => cases t <;> rfl
  | notLce | always => rfl

@[simp] theorem Term.ofCode_code (c : Term) : Term.ofCode c.code = c := by
  cases c with
  | is t | isNot t => cases t <;> rfl
  | lce | forever => rfl

@[simp] theorem SReg.ofCode_code (x : SReg) : SReg.ofCode x.code = x := by cases x <;> rfl

theorem Test.code_lt (t : Test) : t.code < 15 := by cases t <;> decide

@[simp] theorem Cond.code_lt (c : Cond) : c.code < 32 := by
  cases c with
  | is t | isNot t => have := t.code_lt; simp only [Cond.code]; omega
  | notLce | always => decide

@[simp] theorem Term.code_lt (c : Term) : c.code < 32 := by
  cases c with
  | is t | isNot t => have := t.code_lt; simp only [Term.code]; omega
  | lce | forever => decide

@[simp] theorem SReg.code_lt (x : SReg) : x.code < 16 := by cases x <;> decide

@[simp] theorem UReg.ofCode_code (u : UReg) : UReg.ofCode u.code = some u := by
  cases u with
  | r n | i n | m n | l n | b n | s n => revert n; decide
  | sys x => cases x <;> rfl
  | _ => rfl

@[simp] theorem UReg.code_lt (u : UReg) : u.code < 128 := by
  cases u with
  | r n | i n | m n | l n | b n | s n => have := n.isLt; simp only [UReg.code]; omega
  | sys x => have := x.code_lt; simp only [UReg.code]; omega
  | _ => decide

@[simp] theorem UReg.code_high_lt (u : UReg) : u.code / 4 < 32 := Nat.div_lt_of_lt_mul u.code_lt

end Sys2Proof
end

section
/-! The compute and shift-immediate fields are read back: `decodeCompute` and `decodeShiftImm` invert the encoder, for
every operation with every operand. -/

namespace Sys2Proof

/-! ## The unit that reads a compute field (R311) -/

section
variable {x : Nat}

theorem decodeCompute_unit0 (h0 : x ≠ 0) (h : x / 2 ^ 20 = 0) : decodeCompute x = decodeAluField x := by
  simp only [decodeCompute, h0, h, if_false]

theorem decodeCompute_unit1 (h : x / 2 ^ 20 = 1) : decodeCompute x = decodeMulField x := by
  have h0 : x ≠ 0 := by omega
  simp only [decodeCompute, h0, h, if_false]

theorem decodeCompute_unit2 (h : x / 2 ^ 20 = 2) : decodeCompute x = decodeShifterField x := by
  have h0 : x ≠ 0 := by omega
  simp only [decodeCompute, h0, h, if_false]

theorem decodeCompute_unit4or5 (h : x / 2 ^ 20 = 4 ∨ x / 2 ^ 20 = 5) : decodeCompute x = decodeParField x := by
  have h0 : x ≠ 0 := by omega
  obtain h | h := h <;> simp only [decodeCompute, h0, h, if_false]

end

/-! ## ALU and shifter -/

/-- An opcode of eight bits of a single ALU operation: not the all-zero one, nor the start of a dual add/subtract. -/
def IsAluOpcode (op : Nat) : Prop := op < 256 ∧ op ≠ 0 ∧ op / 16 ≠ 7 ∧ op / 16 ≠ 15

theorem FixOp2.isAluOpcode (op : FixOp2) : IsAluOpcode op.code := by cases op <;> simp [IsAluOpcode, FixOp2.code]
theorem FixOp1.isAluOpcode (op : FixOp1) : IsAluOpcode op.code := by cases op <;> simp [IsAluOpcode, FixOp1.code]
theorem FltOp2.isAluOpcode (op : FltOp2) : IsAluOpcode op.code := by cases op <;> simp [IsAluOpcode, FltOp2.code]
theorem FltOp1.isAluOpcode (op : FltOp1) : IsAluOpcode op.code := by cases op <;> simp [IsAluOpcode, FltOp1.code]

theorem decodeAluField_single {x op n a b : Nat} (h : unpack computeLayout x = [0, op, n, a, b]) (hop : IsAluOpcode op) :
    decodeAluField x = decodeAlu op (bv n) (bv a) (bv b) := by
  obtain ⟨-, -, h7, h15⟩ := hop
  have hbits : x / 2 ^ 20 % 2 ^ 3 = 0 ∧ x / 2 ^ 12 % 2 ^ 8 = op := by
    simp only [computeLayout, unpack, List.cons.injEq] at h
    exact ⟨h.1, h.2.1⟩
  have hdual : x / 2 ^ 16 % 2 ^ 7 ≠ 7 ∧ x / 2 ^ 16 % 2 ^ 7 ≠ 15 := by omega
  unfold decodeAluField
  split
  · next hd => exact absurd (List.cons.inj hd).1 hdual.1
  · next hd => exact absurd (List.cons.inj hd).1 hdual.2
  · rw [h]

/-- The fields of a compute with an opcode and three registers fit. -/
theorem fits_computeLayout {u op : Nat} (hu : u < 8) (hop : op < 256) (n x y : RegNum) :
    Fits computeLayout [u, op, n.toNat, x.toNat, y.toNat] := by
  simp [computeLayout, hu, hop, toNat_lt_of_pow_le]

theorem decodeCompute_packAlu {op : Nat} (hop : IsAluOpcode op) (n x y : RegNum) :
    decodeCompute (pack computeLayout [0, op, n.toNat, x.toNat, y.toNat]) = decodeAlu op n x y := by
  refine apply_pack (fits_computeLayout (by decide) hop.1 n x y) fun w hw h => ?_
  have hne : w ≠ 0 := by
    rintro rfl
    exact hop.2.1 (List.cons.inj (List.cons.inj h).2).1.symm
  simp [decodeCompute_unit0 hne (head_of_unpack hw h), decodeAluField_single h hop]

theorem decodeCompute_packShifter {op : Nat} (hop : op < 256) (n x y : RegNum) :
    decodeCompute (pack computeLayout [2, op, n.toNat, x.toNat, y.toNat]) = decodeShifter op n x y := by
  refine apply_pack (fits_computeLayout (by decide) hop n x y) fun w hw h => ?_
  simp [decodeCompute_unit2 (head_of_unpack hw h), decodeShifterField, h]

theorem decodeAlu_fix2 (op : FixOp2) (n x y : RegNum) : decodeAlu op.code n x y = some (.fix2 op n x y) := by
  cases op <;> rfl

theorem decodeAlu_fix1 (op : FixOp1) (n x y : RegNum) : decodeAlu op.code n x y = some (.fix1 op n x) := by
  cases op <;> rfl

theorem decodeAlu_flt2 (op : FltOp2) (n x y : RegNum) : decodeAlu op.code n x y = some (.flt2 op n x y) := by
  cases op <;> rfl

theorem decodeAlu_flt1 (op : FltOp1) (n x y : RegNum) : decodeAlu op.code n x y = some (.flt1 op n x) := by
  cases op <;> rfl

theorem decodeShifter_shf (op : ShiftOp) (n x y : RegNum) : decodeShifter op.code n x y = some (.shf op n x y) := by
  cases op <;> rfl

theorem decodeShifter_fld (op : FieldOp) (n x y : RegNum) : decodeShifter op.code n x y = some (.fld op n x y) := by
  cases op <;> rfl

theorem decodeShifter_shf1 (op : ShiftOp1) (n x y : RegNum) : decodeShifter op.code n x y = some (.shf1 op n x) := by
  cases op <;> rfl

theorem ShiftOp.code_lt (op : ShiftOp) : op.code < 256 := by cases op <;> decide
theorem FieldOp.code_lt (op : FieldOp) : op.code < 256 := by cases op <;> decide
theorem ShiftOp1.code_lt (op : ShiftOp1) : op.code < 256 := by cases op <;> decide

/-! ## Multiplier -/

theorem MulMod.ofBits_bits (md : MulMod) :
    MulMod.ofBits md.bits.1 md.bits.2.1 md.bits.2.2.1 md.bits.2.2.2 = some md := by cases md <;> rfl

theorem SatMod.ofBits_bits (fmt : SatMod) : SatMod.ofBits fmt.bits.1 fmt.bits.2 = fmt := by cases fmt <;> rfl

/-- The operation bits of a multiplier field in the order of `mulLayout`: class, y, x, f, destination, r. -/
abbrev FitsMul (k y x f d r : Nat) : Prop := Fits [2, 1, 1, 1, 2, 1] [k, y, x, f, d, r]

theorem fitsMul_modifier {k d : Nat} (hk : k < 4) (hd : d < 4) (md : MulMod) :
    FitsMul k md.bits.1 md.bits.2.1 md.bits.2.2.1 d md.bits.2.2.2 := by
  cases md <;> simp [MulMod.bits, hk, hd]

theorem fitsMul_saturation {d : Nat} (hd : d < 4) (fmt : SatMod) : FitsMul 0 0 0 fmt.bits.1 d fmt.bits.2 := by
  cases fmt <;> simp [SatMod.bits, hd]

theorem decodeCompute_packMul {k y x f d r : Nat} (hfits : FitsMul k y x f d r) (n a b : RegNum) :
    decodeCompute (packMul (k, d) y x f r n.toNat a.toNat b.toNat) = decodeMul k y x f d r n a b := by
  have hfits : Fits mulLayout [1, k, y, x, f, d, r, n.toNat, a.toNat, b.toNat] := by
    simpa [mulLayout, toNat_lt_of_pow_le] using hfits
  refine apply_pack hfits fun w hw h => ?_
  simp [decodeCompute_unit1 (head_of_unpack hw h), decodeMulField, h]

theorem decodeCompute_mulReg (op : MulRegOp) (md : MulMod) (n a b : RegNum) :
    decodeCompute (Compute.mulReg op md n a b).encode = some (.mulReg op md n a b) := by
  have hop : op.bits.1 < 4 ∧ op.bits.2 < 4 := by cases op <;> decide
  refine (decodeCompute_packMul (fitsMul_modifier hop.1 hop.2 md) n a b).trans ?_
  cases op <;> simp [MulRegOp.bits, decodeMul, md.ofBits_bits]

theorem decodeCompute_mulAcc (op : MulAccOp) (md : MulMod) (a b : RegNum) :
    decodeCompute (Compute.mulAcc op md a b).encode = some (.mulAcc op md a b) := by
  have hop : op.bits.1 < 4 ∧ op.bits.2 < 4 := by cases op <;> decide
  refine (decodeCompute_packMul (fitsMul_modifier hop.1 hop.2 md) 0 a b).trans ?_
  cases op <;> simp [MulAccOp.bits, decodeMul, md.ofBits_bits]

theorem decodeCompute_satReg (bg : Bool) (fmt : SatMod) (n : RegNum) :
    decodeCompute (Compute.satReg bg fmt n).encode = some (.satReg bg fmt n) := by
  have hd : bg.toNat < 4 := by cases bg <;> decide
  refine (decodeCompute_packMul (fitsMul_saturation hd fmt) n 0 0).trans ?_
  cases bg <;> simp [decodeMul, fmt.ofBits_bits]

theorem decodeCompute_satAcc (bg : Bool) (fmt : SatMod) :
    decodeCompute (Compute.satAcc bg fmt).encode = some (.satAcc bg fmt) := by
  have hd : 2 + bg.toNat < 4 := by cases bg <;> decide
  refine (decodeCompute_packMul (fitsMul_saturation hd fmt) 0 0 0).trans ?_
  cases bg <;> simp [decodeMul, fmt.ofBits_bits]

theorem decodeCompute_rndReg (bg sgn : Bool) (n : RegNum) :
    decodeCompute (Compute.rndReg bg sgn n).encode = some (.rndReg bg sgn n) := by
  have hfits : FitsMul 0 0 1 1 bg.toNat sgn.toNat := by cases bg <;> simp [sgn.toNat_lt]
  refine (decodeCompute_packMul hfits n 0 0).trans ?_
  cases bg <;> simp [decodeMul]

theorem decodeCompute_rndAcc (bg sgn : Bool) : decodeCompute (Compute.rndAcc bg sgn).encode = some (.rndAcc bg sgn) := by
  cases bg <;> cases sgn <;> decide

theorem decodeCompute_clrAcc (bg : Bool) : decodeCompute (Compute.clrAcc bg).encode = some (.clrAcc bg) := by
  cases bg <;> decide

theorem decodeCompute_fmul (n a b : RegNum) : decodeCompute (Compute.fmul n a b).encode = some (.fmul n a b) :=
  decodeCompute_packMul (k := 0) (y := 1) (x := 1) (f := 0) (d := 0) (r := 0) (by simp) n a b

/-! ## Transfers of result registers (R316) -/

theorem MrPart.ofCode_code (sel : MrPart) : MrPart.ofCode sel.code = some sel := by cases sel <;> rfl

theorem MrPart.code_lt (sel : MrPart) : sel.code < 16 := by cases sel <;> decide

theorem decodeCompute_packMr (write : Bool) (sel : MrPart) (n : RegNum) :
    decodeCompute (pack mrLayout [32, write.toNat, sel.code, n.toNat, 0]) =
      some (if write then .mrSet sel n else .mrGet sel n) := by
  have hfits : Fits mrLayout [32, write.toNat, sel.code, n.toNat, 0] := by
    simp [mrLayout, write.toNat_lt, sel.code_lt, toNat_lt_of_pow_le]
  refine apply_pack hfits fun w hw h => ?_
  have hhead : w / 2 ^ 17 = 32 := head_of_unpack hw h
  have hunit : w / 2 ^ 20 = 4 := by omega
  rw [decodeCompute_unit4or5 (.inl hunit), decodeParField, h]
  cases write <;> simp [sel.ofCode_code]

/-! ## Multifunction operations (R319 to R321) -/

theorem decodeCompute_dual {head : Nat} (hhead : head = 7 ∨ head = 15) (ra rs x y : RegNum) :
    decodeCompute (pack dualLayout [head, ra.toNat, rs.toNat, x.toNat, y.toNat]) =
      some (if head = 7 then .dualFix ra rs x y else .dualFlt ra rs x y) := by
  have hfits : Fits dualLayout [head, ra.toNat, rs.toNat, x.toNat, y.toNat] := by
    simp [dualLayout, toNat_lt_of_pow_le, show head < 128 by omega]
  refine apply_pack hfits fun w hw h => ?_
  have hw' : w / 2 ^ 16 = head := head_of_unpack hw h
  rw [decodeCompute_unit0 (by omega) (by omega), decodeAluField, h]
  obtain rfl | rfl := hhead <;> simp

theorem decodeParField_multifunction {x op rm ra xm ym xa ya : Nat}
    (h : unpack parLayout x = [1, op, rm, ra, xm, ym, xa, ya]) (hop : 4 ≤ op) (hlt : op < 32) :
    decodeParField x = decodePar op (bv rm) (bv ra) (bv xm) (bv ym) (bv xa) (bv ya) := by
  have hbits : x / 2 ^ 22 % 2 ^ 1 = 1 ∧ x / 2 ^ 16 % 2 ^ 6 = op := by
    simp only [parLayout, unpack, List.cons.injEq] at h
    exact ⟨h.1, h.2.1⟩
  have hmr : x / 2 ^ 17 % 2 ^ 6 ≠ 32 := by omega
  unfold decodeParField
  split
  · next hd => exact absurd (List.cons.inj hd).1 hmr
  · next hd => exact absurd (List.cons.inj hd).1 hmr
  · rw [h]

theorem decodeCompute_packPar {op : Nat} (hop : 4 ≤ op) (hlt : op < 32) (rm ra : RegNum) (xm ym xa ya : BitVec 2) :
    decodeCompute (pack parLayout [1, op, rm.toNat, ra.toNat, xm.toNat, ym.toNat, xa.toNat, ya.toNat]) =
      decodePar op rm ra xm ym xa ya := by
  have hfits : Fits parLayout [1, op, rm.toNat, ra.toNat, xm.toNat, ym.toNat, xa.toNat, ya.toNat] := by
    simp [parLayout, toNat_lt_of_pow_le, show op < 64 by omega]
  refine apply_pack hfits fun w hw h => ?_
  have hunit : w / 2 ^ 20 = 4 ∨ w / 2 ^ 20 = 5 := by
    have hhead : w / 2 ^ 22 = 1 := head_of_unpack hw h
    have hbits : w / 2 ^ 16 % 2 ^ 6 = op := (List.cons.inj (List.cons.inj h).2).1
    omega
  simp [decodeCompute_unit4or5 hunit, decodeParField_multifunction h hop hlt]

theorem decodeCompute_mulAluReg (op : ParMul) (al : ParOp) (rm ra : RegNum) (xm ym xa ya : BitVec 2) :
    decodeCompute (Compute.mulAluReg op al rm ra xm ym xa ya).encode = some (.mulAluReg op al rm ra xm ym xa ya) := by
  have hop : 4 ≤ op.code + al.code ∧ op.code + al.code < 32 := by cases op <;> cases al <;> decide
  refine (decodeCompute_packPar hop.1 hop.2 rm ra xm ym xa ya).trans ?_
  cases op <;> cases al <;> rfl

theorem decodeCompute_mulAluAcc (sub : Bool) (al : ParOp) (ra : RegNum) (xm ym xa ya : BitVec 2) :
    decodeCompute (Compute.mulAluAcc sub al ra xm ym xa ya).encode = some (.mulAluAcc sub al ra xm ym xa ya) := by
  have hop : 4 ≤ (if sub then 16 else 8) + al.code ∧ (if sub then 16 else 8) + al.code < 32 := by
    cases sub <;> cases al <;> decide
  refine (decodeCompute_packPar hop.1 hop.2 0 ra xm ym xa ya).trans ?_
  cases sub <;> cases al <;> rfl

theorem decodeCompute_fmulAlu (al : FParOp) (rm ra : RegNum) (xm ym xa ya : BitVec 2) :
    decodeCompute (Compute.fmulAlu al rm ra xm ym xa ya).encode = some (.fmulAlu al rm ra xm ym xa ya) := by
  have hop : 4 ≤ al.code ∧ al.code < 32 := by cases al <;> decide
  refine (decodeCompute_packPar hop.1 hop.2 rm ra xm ym xa ya).trans ?_
  cases al <;> rfl

theorem decodeCompute_mulDual {head : Nat} (hhead : head = 6 ∨ head = 7) (rs rm ra : RegNum) (xm ym xa ya : BitVec 2) :
    decodeCompute (pack mulDualLayout
        [head, rs.toNat, rm.toNat, ra.toNat, xm.toNat, ym.toNat, xa.toNat, ya.toNat]) =
      some (if head = 6 then .mulDualFix rs rm ra xm ym xa ya else .mulDualFlt rs rm ra xm ym xa ya) := by
  have hfits : Fits mulDualLayout [head, rs.toNat, rm.toNat, ra.toNat, xm.toNat, ym.toNat, xa.toNat, ya.toNat] := by
    simp [mulDualLayout, toNat_lt_of_pow_le, show head < 8 by omega]
  refine apply_pack hfits fun w hw h => ?_
  have hunit : w / 2 ^ 20 = head := head_of_unpack hw h
  have hne : w ≠ 0 := by omega
  obtain rfl | rfl := hhead <;> simp only [decodeCompute, hne, hunit, h, if_false] <;> simp

/-! ## The fields as a whole -/

@[simp] theorem Compute.encode_lt (c : Compute) : c.encode < 0x800000 := by
  cases c with
  | none => decide
  | _ => exact pack_lt _ _

@[simp] theorem decodeCompute_encode (c : Compute) : decodeCompute c.encode = some c := by
  cases c with
  | none => rfl
  | fix2 op n x y => exact (decodeCompute_packAlu op.isAluOpcode n x y).trans (decodeAlu_fix2 op n x y)
  | fix1 op n x => exact (decodeCompute_packAlu op.isAluOpcode n x 0).trans (decodeAlu_fix1 op n x 0)
  | fixCmp u x y =>
    cases u with
    | false => exact decodeCompute_packAlu (op := 0x0A) (by simp [IsAluOpcode]) 0 x y
    | true => exact decodeCompute_packAlu (op := 0x0B) (by simp [IsAluOpcode]) 0 x y
  | flt2 op n x y => exact (decodeCompute_packAlu op.isAluOpcode n x y).trans (decodeAlu_flt2 op n x y)
  | flt1 op n x => exact (decodeCompute_packAlu op.isAluOpcode n x 0).trans (decodeAlu_flt1 op n x 0)
  | fltCmp x y => exact decodeCompute_packAlu (op := 0x8A) (by simp [IsAluOpcode]) 0 x y
  | mulReg op md n x y => exact decodeCompute_mulReg op md n x y
  | mulAcc op md x y => exact decodeCompute_mulAcc op md x y
  | satReg bg fmt n => exact decodeCompute_satReg bg fmt n
  | satAcc bg fmt => exact decodeCompute_satAcc bg fmt
  | rndReg bg sgn n => exact decodeCompute_rndReg bg sgn n
  | rndAcc bg sgn => exact decodeCompute_rndAcc bg sgn
  | clrAcc bg => exact decodeCompute_clrAcc bg
  | fmul n x y => exact decodeCompute_fmul n x y
  | mrGet sel n => exact decodeCompute_packMr false sel n
  | mrSet sel n => exact decodeCompute_packMr true sel n
  | shf op n x y => exact (decodeCompute_packShifter op.code_lt n x y).trans (decodeShifter_shf op n x y)
  | fld op n x y => exact (decodeCompute_packShifter op.code_lt n x y).trans (decodeShifter_fld op n x y)
  | btst x y => exact decodeCompute_packShifter (by decide : 0xCC < 256) 0 x y
  | shf1 op n x => exact (decodeCompute_packShifter op.code_lt n x 0).trans (decodeShifter_shf1 op n x 0)
  | bitdep x y => exact decodeCompute_packShifter (by decide : 0x74 < 256) 0 x y
  | bitext nu n x =>
    cases nu with
    | false => exact decodeCompute_packShifter (by decide : 0x50 < 256) n x 0
    | true => exact decodeCompute_packShifter (by decide : 0x58 < 256) n x 0
  | bffwrpSet n => exact decodeCompute_packShifter (by decide : 0x7C < 256) n 0 0
  | bffwrpGet n => exact decodeCompute_packShifter (by decide : 0x70 < 256) n 0 0
  | dualFix ra rs x y => exact decodeCompute_dual (.inl rfl) ra rs x y
  | dualFlt ra rs x y => exact decodeCompute_dual (.inr rfl) ra rs x y
  | mulAluReg op al rm ra xm ym xa ya => exact decodeCompute_mulAluReg op al rm ra xm ym xa ya
  | mulAluAcc sub al ra xm ym xa ya => exact decodeCompute_mulAluAcc sub al ra xm ym xa ya
  | fmulAlu al rm ra xm ym xa ya => exact decodeCompute_fmulAlu al rm ra xm ym xa ya
  | fmulAbs rm ra xm ym xa => exact decodeCompute_packPar (by decide : 4 ≤ 29) (by decide) rm ra xm ym xa 0
  | mulDualFix rs rm ra xm ym xa ya => exact decodeCompute_mulDual (.inl rfl) rs rm ra xm ym xa ya
  | mulDualFlt rs rm ra xm ym xa ya => exact decodeCompute_mulDual (.inr rfl) rs rm ra xm ym xa ya

/-! ## The shift-immediate field (R318) -/

@[simp] theorem ShiftImm.encode_lt (sh : ShiftImm) : sh.encode < 0x800000 := by cases sh <;> exact pack_lt _ _

@[simp] theorem ShiftImm.dataex_lt (sh : ShiftImm) : sh.dataex < 16 := by
  cases sh <;> simp only [ShiftImm.dataex] <;> omega

theorem decodeShiftImm_pack {ex op data : Nat} {sh : ShiftImm} (hop : op < 64) (hdata : data < 256) (n x : RegNum)
    (hsh : ∀ w, unpack shiftImmLayout w = [0, op, data, n.toNat, x.toNat] → decodeShiftImm ex w = some sh) :
    decodeShiftImm ex (pack shiftImmLayout [0, op, data, n.toNat, x.toNat]) = some sh := by
  have hfits : Fits shiftImmLayout [0, op, data, n.toNat, x.toNat] := by
    simp [shiftImmLayout, hop, hdata, toNat_lt_of_pow_le]
  exact apply_pack hfits fun w _ h => hsh w h

@[simp] theorem decodeShiftImm_encode (sh : ShiftImm) : decodeShiftImm sh.dataex sh.encode = some sh := by
  cases sh with
  | by8 op data n x =>
    have hop : op.code / 4 < 64 := by cases op <;> decide
    refine decodeShiftImm_pack hop data.isLt n x fun w h => ?_
    cases op <;> simp [decodeShiftImm, h, ShiftOp.code]
  | btst8 data x => exact decodeShiftImm_pack (by decide) data.isLt 0 x fun w h => by simp [decodeShiftImm, h]
  | field op imm n x =>
    have hop : op.code / 4 < 64 := by cases op <;> decide
    refine decodeShiftImm_pack hop (Nat.mod_lt _ (by decide)) n x fun w h => ?_
    cases op <;> simp [decodeShiftImm, h, ShiftImm.dataex, FieldOp.code, Nat.div_add_mod']
  | bitdep12 imm x =>
    exact decodeShiftImm_pack (by decide) (Nat.mod_lt _ (by decide)) 0 x fun w h => by
      simp [decodeShiftImm, h, ShiftImm.dataex, Nat.div_add_mod']
  | bitext12 nu imm n =>
    have hop : (if nu then 0x16 else 0x14) < 64 := by cases nu <;> decide
    refine decodeShiftImm_pack hop (Nat.mod_lt _ (by decide)) n 0 fun w h => ?_
    cases nu <;> simp [decodeShiftImm, h, ShiftImm.dataex, Nat.div_add_mod']
  | bffwrp7 data =>
    have hdata : data.toNat < 256 := toNat_lt_of_pow_le data (by decide)
    exact decodeShiftImm_pack (by decide) hdata 0 0 fun w h => by simp [decodeShiftImm, h]

end Sys2Proof
end

section
/-! Which decoder reads the words of each form, and that the high half of a 32-bit word is no instruction of 16 bits: the
rules by which an instruction is read back from its words. -/

namespace Sys2Proof

/-! ## Reading back -/

/-- What O2 says of one instruction. -/
def ReadBack (i : Instr) : Prop :=
  decode (encode i) = some i ∧
    (∀ (w : BitVec 32) (z : BitVec 16), encode i = .w32 w →
      decodeVisa (w.extractLsb' 16 16) (w.extractLsb' 0 16) z = some (i, 2)) ∧
    ∀ (w y z : BitVec 16), encode i = .w16 w → decodeVisa w y z = some (i, 1)

theorem readBack_w48 {i : Instr} {w : BitVec 48} (he : encode i = .w48 w) (hd : decode48 w = some i) : ReadBack i :=
  ⟨by rw [he]; exact hd, by simp [he], by simp [he]⟩

theorem readBack_w32 {i : Instr} {w : BitVec 32} (he : encode i = .w32 w) (hd : decode32 w = some i)
    (hshort : decode16 (w.extractLsb' 16 16) = none) : ReadBack i := by
  refine ⟨by rw [he]; exact hd, fun v z hv => ?_, by simp [he]⟩
  obtain rfl : w = v := by simpa [he] using hv
  have hw : w.extractLsb' 16 16 ++ w.extractLsb' 0 16 = w := by
    rw [BitVec.extractLsb'_append_extractLsb'_eq_extractLsb' (start₁ := 0) (len₁ := 16) rfl, BitVec.extractLsb'_eq_self]
  simp only [decodeVisa, hshort, hw, hd]

theorem readBack_w16 {i : Instr} {w : BitVec 16} (he : encode i = .w16 w) (hd : decode16 w = some i) : ReadBack i := by
  refine ⟨by rw [he]; exact hd, by simp [he], fun v y z hv => ?_⟩
  obtain rfl : w = v := by simpa [he] using hv
  simp only [decodeVisa, hd]

section
variable {i : Instr} {ws vs : List Nat} {v : Nat}

/-- What a decoder answers to every word with the given fields, by the first of them, it answers to their word. -/
theorem apply_bv_pack {n : Nat} {r : Option Instr} {f : Nat → Option Instr} (hws : ws.sum = n) (hfits : Fits ws (v :: vs))
    (hf : ∀ x, x / 2 ^ ws.tail.sum = v → unpack ws x = v :: vs → f x = r) :
    f (bv (pack ws (v :: vs)) : BitVec n).toNat = r := by
  rw [bv_pack_toNat hws]
  refine apply_pack hfits fun x hx h => ?_
  cases hfits with
  | cons => exact hf x (head_of_unpack hx h) h

/-- An instruction of a 48-bit form with layout `ws` and fields `v :: vs` is read back when its first field leads to the
decoder `f` of the form, and `f` answers the instruction to these fields. -/
theorem readBack_form48 {f : Nat → Option Instr} (he : encode i = .w48 (bv (pack ws (v :: vs))))
    (hfits : Fits ws (v :: vs)) (hsel : ∀ x, x / 2 ^ ws.tail.sum = v → decodeWord48 x = f x)
    (hf : ∀ x, unpack ws x = v :: vs → f x = some i) (hws : ws.sum = 48 := by rfl) : ReadBack i :=
  readBack_w48 he (apply_bv_pack hws hfits fun x hv h => (hsel x hv).trans (hf x h))

/-- An instruction of a 32-bit form is read back when the decoder of 32-bit words answers it to its fields, and the high
half of such a word is no instruction of 16 bits. -/
theorem readBack_form32 (he : encode i = .w32 (bv (pack ws (v :: vs)))) (hfits : Fits ws (v :: vs))
    (hf : ∀ x, x / 2 ^ ws.tail.sum = v → unpack ws x = v :: vs →
      decodeWord32 x = some i ∧ decodeWord16 (x / 2 ^ 16 % 2 ^ 16) = none)
    (hws : ws.sum = 32 := by rfl) : ReadBack i := by
  refine readBack_w32 he (apply_bv_pack hws hfits fun x hv h => (hf x hv h).1) ?_
  rw [decode16, BitVec.extractLsb'_toNat, Nat.shiftRight_eq_div_pow]
  exact apply_bv_pack (f := fun x => decodeWord16 (x / 2 ^ 16 % 2 ^ 16)) hws hfits fun x hv h => (hf x hv h).2

theorem readBack_form16 (he : encode i = .w16 (bv (pack ws (v :: vs)))) (hfits : Fits ws (v :: vs))
    (hf : ∀ x, x / 2 ^ ws.tail.sum = v → unpack ws x = v :: vs → decodeWord16 x = some i)
    (hws : ws.sum = 16 := by rfl) : ReadBack i :=
  readBack_w16 he (apply_bv_pack hws hfits hf)

end

/-! ## The decoder of each form (R256) -/

/-- The decoders of the forms of group 000, by the eight high bits of the word. -/
def group0Decoders : List (Nat × (Nat → Option Instr)) :=
  [(1, decode2a), (2, decode6a), (4, decode7a), (6, decode8aDirect), (7, decode8aRel), (8, decode9aInd), (9, decode9aRel),
    (10, decode11aRts), (11, decode11aRti), (12, decode12aImm), (13, decode12aUreg), (14, decode13a), (15, decode17a),
    (16, decode14a), (17, decode14a), (18, decode14a), (19, decode14a), (20, decode18a), (22, decode19a), (23, decode20a),
    (24, decode25a)]

/-- The decoders of the forms told by their three high bits. -/
def head3Decoders : List (Nat × (Nat → Option Instr)) :=
  [(1, decode1a), (2, decode3a), (5, decode15a), (6, decode10aInd), (7, decode10aRel)]

theorem decodeWord48_group0 {n x : Nat} (h : x / 2 ^ 40 = n) (hn : n < 32) :
    decodeWord48 x = decodeGroup0 x ∧ x / 2 ^ 40 % 32 = n := by
  have h0 : x / 2 ^ 45 = 0 := by omega
  exact ⟨by simp only [decodeWord48, h0], by omega⟩

theorem decodeWord48_group0Decoders :
    ∀ p ∈ group0Decoders, ∀ x, x / 2 ^ 40 = p.1 → decodeWord48 x = p.2 x := by
  intro p hp x h
  have hn : ∀ p ∈ group0Decoders, p.1 < 32 := by decide
  obtain ⟨hg, hop⟩ := decodeWord48_group0 h (hn p hp)
  rw [hg]
  fin_cases hp <;> simp only [decodeGroup0, hop]

theorem decodeWord48_head3Decoders : ∀ p ∈ head3Decoders, ∀ x, x / 2 ^ 45 = p.1 → decodeWord48 x = p.2 x := by
  intro p hp x h
  fin_cases hp <;> simp only [decodeWord48, h]

theorem decodeWord48_4a (x : Nat) (h : x / 2 ^ 44 = 6) : decodeWord48 x = decode4a x := by
  have hbits : x / 2 ^ 45 = 3 ∧ x / 2 ^ 44 % 2 = 0 := by omega
  simp only [decodeWord48, hbits, if_true]

theorem decodeWord48_5aMove (x : Nat) (h : x / 2 ^ 43 = 14) : decodeWord48 x = decode5aMove x := by
  have hbits : x / 2 ^ 45 = 3 ∧ ¬ x / 2 ^ 44 % 2 = 0 ∧ x / 2 ^ 43 % 2 = 0 := by omega
  simp only [decodeWord48, hbits, if_true, if_false]

theorem decodeWord48_5aSwap (x : Nat) (h : x / 2 ^ 43 = 15) : decodeWord48 x = decode5aSwap x := by
  have hbits : x / 2 ^ 45 = 3 ∧ ¬ x / 2 ^ 44 % 2 = 0 ∧ ¬ x / 2 ^ 43 % 2 = 0 := by omega
  simp only [decodeWord48, hbits, if_false]

theorem decodeWord48_6aMem (x : Nat) (h : x / 2 ^ 44 = 8) : decodeWord48 x = decode6aMem x := by
  have hbits : x / 2 ^ 45 = 4 ∧ x / 2 ^ 44 % 2 = 0 := by omega
  simp only [decodeWord48, hbits, if_true]

theorem decodeWord48_16a (x : Nat) (h : x / 2 ^ 44 = 9) : decodeWord48 x = decode16a x := by
  have hbits : x / 2 ^ 45 = 4 ∧ ¬ x / 2 ^ 44 % 2 = 0 := by omega
  simp only [decodeWord48, hbits, if_false]

/-- Type 14a has six high bits of its own; the two after them are its fields G and D (R273). -/
theorem decodeWord48_14a (x : Nat) (h : x / 2 ^ 42 = 4) : decodeWord48 x = decode14a x := by
  have hop : x / 2 ^ 40 = 16 ∨ x / 2 ^ 40 = 17 ∨ x / 2 ^ 40 = 18 ∨ x / 2 ^ 40 = 19 := by omega
  obtain hop | hop | hop | hop := hop <;>
    exact decodeWord48_group0Decoders (_, decode14a) (by simp [group0Decoders]) x hop

theorem decodeWord48_25a (x : Nat) (h : x / 2 ^ 24 = 0x180400 ∨ x / 2 ^ 24 = 0x184400) : decodeWord48 x = decode25a x :=
  decodeWord48_group0Decoders (24, decode25a) (by simp [group0Decoders]) x (by omega)

/-! ## Forms of 48 bits -/

section
variable {i : Instr} {ws vs : List Nat} {v : Nat} {f : Nat → Option Instr}

theorem readBack_group0 (he : encode i = .w48 (bv (pack ws (v :: vs)))) (hfits : Fits ws (v :: vs))
    (hf : ∀ x, unpack ws x = v :: vs → f x = some i) (hmem : (v, f) ∈ group0Decoders := by simp [group0Decoders])
    (hws : ws.sum = 48 := by rfl) (htail : ws.tail.sum = 40 := by rfl) : ReadBack i :=
  readBack_form48 he hfits (htail ▸ decodeWord48_group0Decoders (v, f) hmem) hf hws

theorem readBack_head3 (he : encode i = .w48 (bv (pack ws (v :: vs)))) (hfits : Fits ws (v :: vs))
    (hf : ∀ x, unpack ws x = v :: vs → f x = some i) (hmem : (v, f) ∈ head3Decoders := by simp [head3Decoders])
    (hws : ws.sum = 48 := by rfl) (htail : ws.tail.sum = 45 := by rfl) : ReadBack i :=
  readBack_form48 he hfits (htail ▸ decodeWord48_head3Decoders (v, f) hmem) hf hws

theorem readBack_2a {cond : Cond} {c : Compute} (he : encode i = .w48 (pack2a cond c)) (hi : instr2a cond c = i) :
    ReadBack i :=
  readBack_group0 (f := decode2a) he (by simp [layout2a]) fun x h => by simp [decode2a, h, hi]

theorem readBack_6a {cond : Cond} {sh : ShiftImm} (he : encode i = .w48 (pack6a cond sh)) (hi : instr6a cond sh = i) :
    ReadBack i :=
  readBack_group0 (f := decode6a) he (by simp [layout6a]) fun x h => by simp [decode6a, h, hi]

theorem readBack_20a {lpu lpo spu spo ppu ppo fc : Bool} (he : encode i = .w48 (pack20a lpu lpo spu spo ppu ppo fc))
    (hi : instr20a lpu lpo spu spo ppu ppo fc = i) : ReadBack i :=
  readBack_group0 (f := decode20a) he (by simp [layout20a, Bool.toNat_le]) fun x h => by simp [decode20a, h, hi]

theorem instr2a_of_ne {cond : Cond} (h : cond ≠ .always) (c : Compute) : instr2a cond c = .compute2a cond c := if_neg h

theorem instr6a_of_ne {cond : Cond} (h : cond ≠ .always) (sh : ShiftImm) : instr6a cond sh = .shift6a cond sh := if_neg h

/-- A well-formed type 2a instruction is not the row of its compute alone. -/
theorem instr2a_of_wellFormed {cond : Cond} {c : Compute} (h : (Instr.compute2a cond c).wellFormed = true) :
    instr2a cond c = .compute2a cond c := by
  have hrow : (cond ≠ .always ∨ c = .none) ∧ c.wellFormed = true := by simpa [Instr.wellFormed] using h
  obtain ⟨hcond | rfl, -⟩ := hrow
  · exact instr2a_of_ne hcond c
  · unfold instr2a
    split
    · next hc => rw [hc, Compute.instr]
    · rfl

/-- A type 20a word with none or several bits set is not the row of one stack operation. -/
theorem instr20a_of_countTrue {lpu lpo spu spo ppu ppo fc : Bool}
    (h : countTrue [lpu, lpo, spu, spo, ppu, ppo, fc] ≠ 1) :
    instr20a lpu lpo spu spo ppu ppo fc = .stackOps20a lpu lpo spu spo ppu ppo fc := by
  unfold instr20a
  split
  case h_8 => rfl
  all_goals simp [countTrue] at h

end

/-! ## Forms of 32 bits: the high half of the word is no instruction of 16 bits -/

section
variable {i : Instr} {x n : Nat}

theorem decodeWord16_high_none (h : 2 ≤ x / 2 ^ 28) (h8 : x / 2 ^ 28 < 8) : decodeWord16 (x / 2 ^ 16 % 2 ^ 16) = none := by
  have hhead : x / 2 ^ 16 % 2 ^ 16 / 2 ^ 12 = x / 2 ^ 28 := by omega
  unfold decodeWord16
  rw [hhead]
  generalize x / 2 ^ 28 = k at h h8
  interval_cases k <;> rfl

/-- The eight high bits of the 32-bit forms of group 000. -/
def group0Short : List Nat := [1, 4, 8, 9, 15]

theorem decodeWord16_group0_none (h : x / 2 ^ 24 = n) (hn : n ∈ group0Short) :
    decodeWord16 (x / 2 ^ 16 % 2 ^ 16) = none := by
  have hop : ∀ k ∈ group0Short, k < 16 ∧ k ≠ 0 ∧ k ≠ 10 ∧ k ≠ 11 := by decide
  obtain ⟨hlt, h0, h10, h11⟩ := hop n hn
  generalize hy : x / 2 ^ 16 % 2 ^ 16 = y
  have hbits : y / 2 ^ 12 = 0 ∧ y / 2 ^ 8 % 2 ^ 8 ≠ 10 ∧ y / 2 ^ 8 % 2 ^ 8 ≠ 11 ∧ 256 ≤ y := by omega
  obtain ⟨h0, h10, h11, hge⟩ := hbits
  have hconst : y ≠ 0 ∧ y ≠ 0x81 ∧ y ≠ 0xC1 := by omega
  simp only [decodeWord16, h0]
  split
  · next hd => exact absurd (List.cons.inj hd).1 h10
  · next hd => exact absurd (List.cons.inj hd).1 h11
  · simp [hconst]

/-- Types 15b and 16b have 010 and 001 where type 3c has its 1 (log 13). -/
theorem decodeWord16_1001_none (h : x / 2 ^ 28 = 9) (hbits : x / 2 ^ 18 % 2 ^ 3 < 4) :
    decodeWord16 (x / 2 ^ 16 % 2 ^ 16) = none := by
  have hhead : x / 2 ^ 16 % 2 ^ 16 / 2 ^ 12 = 9 := by omega
  have hbit : x / 2 ^ 16 % 2 ^ 16 / 2 ^ 4 % 2 ^ 1 ≠ 1 := by omega
  simp only [decodeWord16, hhead]
  split
  · next hd =>
      simp only [layout3c, unpack, List.cons.injEq] at hd
      obtain ⟨-, -, -, -, hone, -⟩ := hd
      exact absurd hone hbit
  · rfl

theorem decodeWord32_group0 (h : x / 2 ^ 24 = n) (hn : n < 32) :
    decodeWord32 x = decodeGroup0Short x ∧ x / 2 ^ 24 % 32 = n := by
  have h0 : x / 2 ^ 29 = 0 := by omega
  exact ⟨by simp only [decodeWord32, h0], by omega⟩

theorem readBack_group0Short {ws vs : List Nat} {v : Nat} (he : encode i = .w32 (bv (pack ws (v :: vs))))
    (hfits : Fits ws (v :: vs)) (hop : ∀ x, x / 2 ^ ws.tail.sum = v → x / 2 ^ 24 = n)
    (hf : ∀ x, x / 2 ^ 24 % 32 = n → unpack ws x = v :: vs → decodeGroup0Short x = some i)
    (hn : n ∈ group0Short := by decide) (hws : ws.sum = 32 := by rfl) : ReadBack i := by
  have hlt : ∀ k ∈ group0Short, k < 32 := by decide
  refine readBack_form32 he hfits (fun x hx h => ?_) hws
  obtain ⟨hdec, hbits⟩ := decodeWord32_group0 (hop x hx) (hlt n hn)
  exact ⟨hdec.trans (hf x hbits h), decodeWord16_group0_none (hop x hx) hn⟩

theorem decodeWord32_5b (h : x / 2 ^ 28 = 7) : decodeWord32 x = decode5b x := by
  have hbits : x / 2 ^ 29 = 3 ∧ ¬ x / 2 ^ 28 % 2 = 0 := by omega
  simp only [decodeWord32, hbits, if_false]

theorem readBack_dualMove1b (dmd : Bool) (dmi dmm : DagNum) (pmd : Bool) (dmdreg : RegNum) (pmi pmm : DagNum)
    (pmdreg : RegNum) : ReadBack (.dualMove1b dmd dmi dmm pmd dmdreg pmi pmm pmdreg) := by
  refine readBack_form32 rfl (by simp [layout1b, Bool.toNat_le]) fun x (hx : x / 2 ^ 29 = 1) h => ⟨?_, ?_⟩
  · simp only [decodeWord32, hx, h]
    simp
  · exact decodeWord16_high_none (by omega) (by omega)

theorem readBack_memUreg3b (u : Bool) (i m : DagNum) (cond : Cond) (g d l : Bool) (ureg : UReg) :
    ReadBack (.memUreg3b u i m cond g d l ureg) := by
  refine readBack_form32 rfl (by simp [layout3b, Bool.toNat_le]) fun x (hx : x / 2 ^ 29 = 2) h => ⟨?_, ?_⟩
  · simp only [decodeWord32, hx, h]
    simp
  · exact decodeWord16_high_none (by omega) (by omega)

theorem readBack_memDreg4b (i : DagNum) (g d u : Bool) (cond : Cond) (data : BitVec 6) (dreg : RegNum) :
    ReadBack (.memDreg4b i g d u cond data dreg) := by
  refine readBack_form32 rfl (by simp [layout4b, Bool.toNat_le]) fun x (hx : x / 2 ^ 28 = 6) h => ⟨?_, ?_⟩
  · have hbits : x / 2 ^ 29 = 3 ∧ x / 2 ^ 28 % 2 = 0 := by omega
    simp only [decodeWord32, hbits, if_true, h]
    simp
  · exact decodeWord16_high_none (by omega) (by omega)

theorem readBack_move5b (src : UReg) (cond : Cond) (dst : UReg) : ReadBack (.move5b src cond dst) := by
  refine readBack_form32 rfl (by simp [layout5bMove, Nat.mod_lt]) fun x (hx : x / 2 ^ 27 = 14) h => ⟨?_, ?_⟩
  · have hmove : x / 2 ^ 27 % 2 = 0 := by omega
    rw [decodeWord32_5b (by omega)]
    simp only [decode5b, hmove, if_true, h]
    simp [Nat.div_add_mod']
  · exact decodeWord16_high_none (by omega) (by omega)

theorem readBack_swap5b (cdreg : RegNum) (cond : Cond) (dreg : RegNum) : ReadBack (.swap5b cdreg cond dreg) := by
  refine readBack_form32 rfl (by simp [layout5bSwap]) fun x (hx : x / 2 ^ 27 = 15) h => ⟨?_, ?_⟩
  · have hswap : ¬ x / 2 ^ 27 % 2 = 0 := by omega
    rw [decodeWord32_5b (by omega)]
    simp only [decode5b, hswap, if_false, h]
    simp
  · exact decodeWord16_high_none (by omega) (by omega)

theorem readBack_memOffset15b (i : DagNum) (d l g : Bool) (ureg : UReg) (data : BitVec 7) :
    ReadBack (.memOffset15b i d l g ureg data) := by
  refine readBack_form32 rfl (by simp [layout15b, Bool.toNat_le]) fun x (hx : x / 2 ^ 28 = 9) h => ⟨?_, ?_⟩
  · have hhead : x / 2 ^ 29 = 4 := by omega
    simp only [decodeWord32, hhead, decode1001Short, h]
    simp
  · simp only [layout15b, unpack, List.cons.injEq] at h
    obtain ⟨-, -, -, -, -, -, hbits, -⟩ := h
    exact decodeWord16_1001_none hx (lt_of_eq_of_lt hbits (by decide))

theorem readBack_storeImm16b (i m : DagNum) (g : Bool) (data : BitVec 16) : ReadBack (.storeImm16b i m g data) := by
  refine readBack_form32 rfl (by simp [layout16b, Bool.toNat_le]) fun x (hx : x / 2 ^ 28 = 9) h => ?_
  have hbits : x / 2 ^ 18 % 2 ^ 3 = 1 := by
    simp only [layout16b, unpack, List.cons.injEq] at h
    obtain ⟨-, -, -, -, hbits, -⟩ := h
    exact hbits
  refine ⟨?_, decodeWord16_1001_none hx (by omega)⟩
  have hhead : x / 2 ^ 29 = 4 := by omega
  simp only [decodeWord32, hhead, decode1001Short]
  split
  · next hd =>
      simp only [layout15b, unpack, List.cons.injEq] at hd
      obtain ⟨-, -, -, -, -, -, htwo, -⟩ := hd
      exact absurd (htwo.symm.trans hbits) (by decide)
  · rw [h]
    simp

end

/-! ## Forms of 16 bits -/

theorem readBack_2c {i : Instr} {op : Nat} {n x : RegNum}
    (he : encode i = .w16 (bv (pack layout2c [12, op, n.toNat, x.toNat]))) (hop : op < 16) (hi : decode2c op n x = i) :
    ReadBack i := by
  refine readBack_form16 he (by simp [layout2c, hop]) fun w (hw : w / 2 ^ 12 = 12) h => ?_
  simp only [decodeWord16, hw, h]
  simp [hi]

end Sys2Proof
end

section
/-! Every well-formed instruction is read back from its words (O2), and the words of O1 are read. -/

namespace Sys2Proof

/-- By the form of its words: each constructor names its layout and its decoder; the rows of one compute are type 2a words,
those of one shift immediate type 6a words. -/
theorem readBack_of_wellFormed (i : Instr) (hwf : i.wellFormed = true) : ReadBack i := by
  cases i with
  | dualMove1a dmd dmi dmm pmd dmdreg pmi pmm pmdreg c =>
    exact readBack_head3 (f := decode1a) rfl (by simp [layout1a, Bool.toNat_le]) fun x h => by simp [decode1a, h]
  | compute2a cond c => exact readBack_2a rfl (instr2a_of_wellFormed hwf)
  | memUreg3a u i m cond g d l ureg c =>
    exact readBack_head3 (f := decode3a) rfl (by simp [layout3a, Bool.toNat_le]) fun x h => by simp [decode3a, h]
  | memDreg4a i g d u cond data dreg c =>
    exact readBack_form48 rfl (by simp [layout4a, Bool.toNat_le]) decodeWord48_4a fun x h => by simp [decode4a, h]
  | move5a src cond dst c =>
    exact readBack_form48 rfl (by simp [layout5aMove, Nat.mod_lt]) decodeWord48_5aMove fun x h => by
      simp [decode5aMove, h, Nat.div_add_mod']
  | swap5a cdreg cond dreg c =>
    exact readBack_form48 rfl (by simp [layout5aSwap]) decodeWord48_5aSwap fun x h => by simp [decode5aSwap, h]
  | shiftMem6a i m cond g d dreg sh =>
    exact readBack_form48 rfl (by simp [layout6aMem, Bool.toNat_le]) decodeWord48_6aMem fun x h => by simp [decode6aMem, h]
  | shift6a cond sh => exact readBack_6a rfl (instr6a_of_ne (bne_iff_ne.mp hwf) sh)
  | modify7a g cond is m idx c =>
    exact readBack_group0 (f := decode7a) rfl (by simp [layout7a, Bool.toNat_le]) fun x h => by simp [decode7a, h]
  | jumpDirect8a a cond j ci addr | callDirect8a a cond j ci addr =>
    exact readBack_group0 (f := decode8aDirect) rfl (by simp [layout8a, Bool.toNat_le]) fun x h => by
      simp [decode8aDirect, h]
  | jumpRel8a a cond j ci rel | callRel8a a cond j ci rel =>
    exact readBack_group0 (f := decode8aRel) rfl (by simp [layout8a, Bool.toNat_le]) fun x h => by
      simp [decode8aRel, h]
  | jumpInd9a a cond pmi pmm j e ci c | callInd9a a cond pmi pmm j e ci c =>
    exact readBack_group0 (f := decode9aInd) rfl (by simp [layout9aInd, Bool.toNat_le]) fun x h => by
      simp [decode9aInd, h]
  | jumpRel9a a cond rel j e ci c | callRel9a a cond rel j e ci c =>
    exact readBack_group0 (f := decode9aRel) rfl (by simp [layout9aRel, Bool.toNat_le]) fun x h => by
      simp [decode9aRel, h]
  | jumpInd10a d dmi dmm cond pmi pmm dreg c =>
    exact readBack_head3 (f := decode10aInd) rfl (by simp [layout10aInd, Bool.toNat_le]) fun x h => by
      simp [decode10aInd, h]
  | jumpRel10a d dmi dmm cond rel dreg c =>
    exact readBack_head3 (f := decode10aRel) rfl (by simp [layout10aRel, Bool.toNat_le]) fun x h => by
      simp [decode10aRel, h]
  | rts11a cond j e lr c =>
    exact readBack_group0 (f := decode11aRts) rfl (by simp [layout11a, Bool.toNat_le]) fun x h => by
      simp [decode11aRts, h]
  | rti11a cond j e c =>
    exact readBack_group0 (f := decode11aRti) rfl (by simp [layout11a, Bool.toNat_le]) fun x h => by
      simp [decode11aRti, h]
  | doImm12a data rel =>
    exact readBack_group0 (f := decode12aImm) rfl (by simp [layout12aImm]) fun x h => by simp [decode12aImm, h]
  | doUreg12a ureg rel =>
    exact readBack_group0 (f := decode12aUreg) rfl (by simp [layout12aUreg]) fun x h => by simp [decode12aUreg, h]
  | doUntil13a term rel =>
    exact readBack_group0 (f := decode13a) rfl (by simp [layout13a]) fun x h => by simp [decode13a, h]
  | memDirect14a g d l ureg addr =>
    exact readBack_form48 rfl (by simp [layout14a, Bool.toNat_le]) decodeWord48_14a fun x h => by simp [decode14a, h]
  | memOffset15a g i d l ureg data =>
    exact readBack_head3 (f := decode15a) rfl (by simp [layout15a, Bool.toNat_le]) fun x h => by simp [decode15a, h]
  | storeImm16a i m g data =>
    exact readBack_form48 rfl (by simp [layout16a, Bool.toNat_le]) decodeWord48_16a fun x h => by simp [decode16a, h]
  | loadImm17a ureg data =>
    exact readBack_group0 (f := decode17a) rfl (by simp [layout17a]) fun x h => by simp [decode17a, h]
  | bitSet18a sreg data | bitClr18a sreg data | bitTgl18a sreg data | bitTst18a sreg data | bitXor18a sreg data =>
    exact readBack_group0 (f := decode18a) rfl (by simp [layout18a]) fun x h => by simp [decode18a, h]
  | modifyImm19a g idx is data | bitrev19a g idx is data =>
    exact readBack_group0 (f := decode19a) rfl (by simp [layout19a, Bool.toNat_le]) fun x h => by simp [decode19a, h]
  | stackOps20a lpu lpo spu spo ppu ppo fc => exact readBack_20a rfl (instr20a_of_countTrue (bne_iff_ne.mp hwf))
  | pushLoop20a | popLoop20a | pushSts20a | popSts20a | pushPcstk20a | popPcstk20a | flushCache20a =>
    exact readBack_20a rfl rfl
  | nop21a | idle22a | emuidle22a | rframe25a => exact readBack_w48 rfl (by decide)
  | cjumpDirect25a addr =>
    exact readBack_form48 rfl (by simp [layout25a]) (fun x hx => decodeWord48_25a x (.inl hx)) fun x h => by
      simp [decode25a, h]
  | cjumpRel25a rel =>
    exact readBack_form48 rfl (by simp [layout25a]) (fun x hx => decodeWord48_25a x (.inr hx)) fun x h => by
      simp [decode25a, h]
  | dualMove1b dmd dmi dmm pmd dmdreg pmi pmm pmdreg => exact readBack_dualMove1b dmd dmi dmm pmd dmdreg pmi pmm pmdreg
  | compute2b c =>
    have hop (x : Nat) (hx : x / 2 ^ 23 = 3) : x / 2 ^ 24 = 1 := by omega
    exact readBack_group0Short rfl (by simp [layout2b]) hop fun x hx h => by
      simp only [decodeGroup0Short, hx, h]
      simp
  | memUreg3b u i m cond g d l ureg => exact readBack_memUreg3b u i m cond g d l ureg
  | memDreg4b i g d u cond data dreg => exact readBack_memDreg4b i g d u cond data dreg
  | move5b src cond dst => exact readBack_move5b src cond dst
  | swap5b cdreg cond dreg => exact readBack_swap5b cdreg cond dreg
  | modify7b g cond is m idx =>
    exact readBack_group0Short rfl (by simp [layout7b, Bool.toNat_le]) (fun _ hx => hx) fun x hx h => by
      simp only [decodeGroup0Short, hx, h]
      simp
  | jumpInd9b a cond pmi pmm j ci | callInd9b a cond pmi pmm j ci =>
    exact readBack_group0Short rfl (by simp [layout9bInd, Bool.toNat_le]) (fun _ hx => hx) fun x hx h => by
      simp only [decodeGroup0Short, hx, h]
      simp
  | jumpRel9b a cond rel j ci | callRel9b a cond rel j ci =>
    exact readBack_group0Short rfl (by simp [layout9bRel, Bool.toNat_le]) (fun _ hx => hx) fun x hx h => by
      simp only [decodeGroup0Short, hx, h]
      simp
  | memOffset15b i d l g ureg data => exact readBack_memOffset15b i d l g ureg data
  | storeImm16b i m g data => exact readBack_storeImm16b i m g data
  | loadImm17b ureg data =>
    have hop (x : Nat) (hx : x / 2 ^ 23 = 31) : x / 2 ^ 24 = 15 := by omega
    exact readBack_group0Short rfl (by simp [layout17b]) hop fun x hx h => by
      simp only [decodeGroup0Short, hx, h]
      simp
  | shortAdd2c rn rx | shortSub2c rn rx | shortPass2c rn rx | shortComp2c rn rx | shortNot2c rn rx
  | shortInc2c rn rx | shortDec2c rn rx | shortMul2c rn rx | shortFAdd2c rn rx | shortFSub2c rn rx
  | shortFloat2c rn rx | shortFComp2c rn rx | shortAnd2c rn rx | shortOr2c rn rx | shortXor2c rn rx
  | shortFMul2c rn rx => exact readBack_2c rfl (by decide) rfl
  | memDreg3c i m d dreg =>
    exact readBack_form16 rfl (by simp [layout3c, Bool.toNat_le]) fun x (hx : x / 2 ^ 12 = 9) h => by
      simp only [decodeWord16, hx, h]
      simp
  | rts11c cond j lr =>
    exact readBack_form16 rfl (by simp [layout11c, Bool.toNat_le]) fun x (hx : x / 2 ^ 8 = 10) h => by
      have hhead : x / 2 ^ 12 = 0 := by omega
      simp only [decodeWord16, hhead, h]
      simp
  | rti11c cond j =>
    exact readBack_form16 rfl (by simp [layout11c, Bool.toNat_le]) fun x (hx : x / 2 ^ 8 = 11) h => by
      have hhead : x / 2 ^ 12 = 0 := by omega
      simp only [decodeWord16, hhead, h]
      simp
  | nop21c | rframe25c => exact readBack_w16 rfl (by decide)
  | idle22c emu =>
    cases emu with
    | false | true => exact readBack_w16 rfl (by decide)
  | lshiftImm data rn rx | orLshiftImm data rn rx | ashiftImm data rn rx | orAshiftImm data rn rx
  | rotImm data rn rx | bclrImm data rn rx | bsetImm data rn rx | btglImm data rn rx | btstImm data rx
  | fdepImm imm rn rx | orFdepImm imm rn rx | fdepSeImm imm rn rx | orFdepSeImm imm rn rx | fextImm imm rn rx
  | fextSeImm imm rn rx | bitdepImm imm rx | bitextImm imm rn | bitextNuImm imm rn | bffwrpImm data =>
    exact readBack_6a rfl rfl
  | _ => exact readBack_2a rfl rfl

/-- Settles O2, by the reading back of each instruction. -/
theorem decodeEncode : Obligations.DecodeEncode := readBack_of_wellFormed

/-- Settles O1: the decoder run on each word. -/
theorem decodeWords : Obligations.DecodeWords := by
  unfold Obligations.DecodeWords
  decide

end Sys2Proof
end

section
/-! A step that runs an instruction: the loop tests, the fetch, the meaning of what is fetched, the next address and the end
of the step, one after the other. -/

namespace Sys2Proof.Machine

open Sys2Proof.Safety

variable {s u : State} {i : Instr} {len : Nat}

/-! ## The parts of the step -/

/-- Without reset, interrupt entry or idle state, a step is one instruction and the end of the step. -/
theorem step_of_running (h : running s) :
    step s = (runInstr s.takeInput).map (endStep s.takeInput s.input (some s.seq.pc)) := by
  obtain ⟨hreset, hsoft, hirq, hidle⟩ := h
  have hidle : s.takeInput.seq.idle = false := hidle
  unfold step stepWith
  rw [State.takeInput_sysctl, hreset, hsoft, if_neg (by decide), hirq]
  simp only [hidle, Bool.false_eq_true, if_false]
  rfl

/-- Outside loops no loop test is due. -/
theorem loopTests_outside (k : Nat) (h : s.seq.ld = 0) : Res.bind (loopTest k s) arithTest = .next s := by
  have ht : loopTest k s = .next s := by
    cases k with
    | zero => rfl
    | succ k =>
      unfold loopTest
      rw [if_neg (by simp [loopTestDue, h])]
  rw [ht, Res.bind_next]
  unfold arithTest
  rw [if_neg (by simp [h])]

/-- What is fetched after the loop tests, and whether it may be executed, goes by the state before them; what follows is the
meaning of the instruction and the choice of the next address. -/
theorem runInstr_of_tests (hu : Res.bind (loopTest 7 s) arithTest = .next u) (hf : fetch s.mem s.seq.pc = .next (i, len))
    (hm : modifiedAt s.stale s.seq.pc len = false) (hp : s.cacheHold = true → usesPm i = false) :
    runInstr s = Res.bind (exec i u) fun t => advance u s.curlcntr len t := by
  have hsame := loopTests_same hu
  have hmem : u.mem = s.mem := by rw [hsame]
  have hpc : u.seq.pc = s.seq.pc := by rw [hsame]
  have hstale : u.stale = s.stale := by rw [hsame]
  have hhold : u.cacheHold = s.cacheHold := by rw [hsame]
  have hpm : (s.cacheHold && usesPm i) = false := by cases h : s.cacheHold <;> simp_all
  unfold runInstr
  rw [hu, Res.bind_next, hmem, hpc, hf, Res.bind_next]
  dsimp only
  rw [hstale, hhold, hm, hpm]
  rfl

/-- A step that runs `i` after loop tests that leave `u`. -/
theorem step_of_tests (h : running s) (hu : Res.bind (loopTest 7 s.takeInput) arithTest = .next u)
    (hf : fetch s.takeInput.mem s.seq.pc = .next (i, len)) (he : executable s i len) :
    step s = (Res.bind (exec i u) fun t => advance u s.takeInput.curlcntr len t).map
      (endStep s.takeInput s.input (some s.seq.pc)) := by
  rw [step_of_running h, runInstr_of_tests hu hf he.1 he.2]

/-! ## What is fetched -/

/-- The part has every instruction. -/
theorem supported_eq_true (i : Instr) : supported i = true := rfl

/-- In normal-word space the decoder reads the three cells of the word. -/
theorem fetch_normalWord {m : List Host.Cell} {pc : Addr24} {c : Nat} (hpc : pc.toNat < 0x100000)
    (hc : cell48 pc.toNat = some c) (hd : decode48 (read48 m c) = some i) : fetch m pc = .next (i, 1) := by
  have h0 : 0x80000 ≤ pc.toNat := by
    unfold cell48 at hc
    dsimp only at hc
    split at hc
    · next h => exact h.1
    · cases hc
  unfold fetch
  rw [if_neg (by omega), if_pos hpc]
  unfold fetchIsa
  rw [hc]
  dsimp only
  rw [hd]
  rfl

/-- In short-word space it reads three short words, the first one the most significant. -/
theorem fetch_visa {m : List Host.Cell} {pc : Addr24} (h0 : 0x100000 ≤ pc.toNat) (h1 : pc.toNat < 0x200000)
    (hfirst : cellMapped pc.toNat = true) (hlast : cellMapped (pc.toNat + len - 1) = true)
    (hd : decodeVisa (readCell m pc.toNat) (readCell m (pc.toNat + 1)) (readCell m (pc.toNat + 2)) = some (i, len)) :
    fetch m pc = .next (i, len) := by
  have hv : Config.hasVisa = true := rfl
  unfold fetch
  rw [if_neg (by omega), if_neg (by omega), if_pos h1]
  unfold fetchVisa
  simp only [hv, hfirst, hd, hlast, supported_eq_true, Bool.true_eq_false, if_false, if_true]

/-- Settles O47: the parts of the step, in order, and the two decoders. -/
theorem stepRunsDecoded : Obligations.StepRunsDecoded := by
  unfold Obligations.StepRunsDecoded
  intro s i len s' runs hr
  refine ⟨fun hld hf he => ?_, fun u hu hf he => step_of_tests hr hu hf he, fun m pc hpc c hc hd => ?_,
    fun m pc h0 h1 hfirst hlast hd => fetch_visa h0 h1 hfirst hlast hd⟩
  · exact step_of_tests hr (loopTests_outside 7 hld) hf he
  · exact fetch_normalWord hpc hc hd

end Sys2Proof.Machine
end

section
/-! The end of a step that runs an instruction: the next address, the delayed branch left pending, and what is moved on by its
latency. -/

namespace Sys2Proof.Machine

open Sys2Proof.Safety

variable {s t u w : State} {i : Instr} {len : Nat}

/-! ## The next address and the delayed branch -/

@[simp] theorem nextPc_none (next : Addr24) (t : State) : nextPc none next t = t.scratch.br.getD next := rfl

/-- With a slot to go behind this one the flow goes on. -/
@[simp] theorem nextPc_first (x next : Addr24) (t : State) : nextPc (some ⟨x, 2⟩) next t = next := by
  simp [nextPc]

@[simp] theorem nextPc_last (x next : Addr24) (t : State) :
    nextPc (some ⟨x, 1⟩) next t = if t.seq.idle then next else x := by
  cases h : t.seq.idle <;> simp [nextPc, h]

@[simp] theorem nextDelayed_none (t : State) : nextDelayed none t = t.scratch.dbReq.map fun x => ⟨x, 2⟩ := by
  cases h : t.scratch.dbReq <;> simp [nextDelayed, h]

/-- A delayed branch in the first slot takes the place of the pending one, with its slot to go. -/
@[simp] theorem nextDelayed_first (x : Addr24) (t : State) :
    nextDelayed (some ⟨x, 2⟩) t = some ⟨t.scratch.dbReq.getD x, 1⟩ := by
  cases h : t.scratch.dbReq <;> simp [nextDelayed, h]

theorem nextDelayed_last (x : Addr24) (h : t.scratch.dbReq = none) :
    nextDelayed (some ⟨x, 1⟩) t = if t.seq.idle then some ⟨x, 1⟩ else none := by
  simp [nextDelayed, h]

theorem branchAllowed_of_fits (h : branchFits s t) : branchAllowed s.seq.db t = true := by
  rcases h with h | ⟨hbr, hreq | ⟨x, hx⟩⟩
  · rw [h]; rfl
  · cases hd : s.seq.db <;> simp [branchAllowed, hbr, hreq]
  · simp [branchAllowed, hx, hbr]

/-- In the second slot of a delayed branch a branch that fits is none at all. -/
theorem branchFits_last {x : Addr24} (h : branchFits s t) (hdb : s.seq.db = some ⟨x, 1⟩) : t.scratch.dbReq = none := by
  rcases h with h | ⟨-, h | ⟨y, hy⟩⟩
  · rw [hdb] at h; cases h
  · exact h
  · rw [hdb] at hy; cases hy

/-! ## The step -/

/-- What the choice of the next address leaves of `t` in a step from `s`: where control goes without a branch, the record of a
loop on its way out, the bits `tested`, and the two copies of CURLCNTR. -/
def moved (s t : State) (next : Addr24) (x : Option Exiting) (v : Vector Bool 6) (c1 c2 : Word) : State :=
  t.setSeq { t.seq with
    pc := nextPc s.seq.db next t
    db := nextDelayed s.seq.db t
    irqHold := false
    exiting := x
    tested := v
    clc1 := c1
    clc2 := c2 }

/-- The choice of the next address after an instruction whose branch fits, at the end of a loop that can go back. -/
theorem advance_next (count : Word) (len : Nat) (hb : branchFits s t) (hl : canLoopBack t s.seq.pc) :
    ∃ next x v c1 c2, advance s count len t = .next (moved s t next x v c1 c2) ∧
      flowsTo t s.seq.pc (s.seq.pc + .ofNat 24 len) next ∧ Flowed t s.seq.pc x v := by
  obtain ⟨next, x, v, hf, hto, hfl⟩ := flowOn_next (on := s.seq.pc + .ofNat 24 len) hl
  unfold advance
  rw [if_pos (branchAllowed_of_fits hb), hf, Res.map_next]
  exact ⟨next, x, v, _, _, rfl, hto, hfl⟩

/-- A step that runs an instruction is the end of what the choice of the next address leaves. -/
theorem step_of_executesFrom (h : executesFrom s i len u t) (hb : branchFits s t) (hl : canLoopBack t s.seq.pc) :
    ∃ next x v c1 c2,
      step s = .next (endStep s.takeInput s.input (some s.seq.pc) (moved s t next x v c1 c2)) ∧
      flowsTo t s.seq.pc (s.seq.pc + .ofNat 24 len) next ∧ Flowed t s.seq.pc x v := by
  obtain ⟨hr, hu, hf, he, ht⟩ := h
  have hsame := loopTests_same hu
  have hpc : u.seq.pc = s.seq.pc := by rw [hsame]; rfl
  have hdb : u.seq.db = s.seq.db := by rw [hsame]; rfl
  have hbu : branchFits u t := by unfold branchFits; rw [hdb]; exact hb
  obtain ⟨next, x, v, c1, c2, ha, hto, hfl⟩ := advance_next s.takeInput.curlcntr len hbu (hpc ▸ hl)
  rw [hpc] at hto hfl
  refine ⟨next, x, v, c1, c2, ?_, hto, hfl⟩
  rw [step_of_tests hr hu hf he, ht, Res.bind_next, ha, Res.map_next]
  unfold moved
  rw [hdb]

/-- Settles O48: the next address and the pending branch by `nextPc` and `nextDelayed`, all else by `Ended`. -/
theorem endOfStep : Obligations.EndOfStep := by
  unfold Obligations.EndOfStep
  intro s u t i len h hb hl
  obtain ⟨next, x, v, c1, c2, hw, hto, -⟩ := step_of_executesFrom h hb hl
  have he := endStep_ended s.takeInput s.input (some s.seq.pc) (moved s t next x v c1 c2)
  generalize endStep s.takeInput s.input (some s.seq.pc) (moved s t next x v c1 c2) = w at hw he
  have hpc : w.seq.pc = nextPc s.seq.db next t := by rw [he.seq]; rfl
  have hdb : w.seq.db = nextDelayed s.seq.db t := by rw [he.seq]; rfl
  refine ⟨w, hw, next, hto, ?_, ?_, ?_, ?_, ?_, ?_, ?_, he.pex, he.pey, he.dag, he.dagAlt, he.px, he.mem, ?_⟩
  · intro h0 hbr
    rw [hpc, h0, nextPc_none, hbr]
    rfl
  · intro y h0 hbr
    rw [hpc, h0, nextPc_none, hbr]
    rfl
  · intro y h0 hreq
    rw [hdb, h0, nextDelayed_none, hreq]
    rfl
  · intro h0 hreq
    rw [hdb, h0, nextDelayed_none, hreq]
    rfl
  · intro y h2
    rw [hpc, hdb, h2, nextPc_first, nextDelayed_first]
    exact ⟨rfl, rfl⟩
  · intro y h1 hidle
    rw [hpc, hdb, h1, nextPc_last, nextDelayed_last y (branchFits_last hb h1), hidle]
    exact ⟨rfl, rfl⟩
  · intro y h1 hidle
    rw [hpc, hdb, h1, nextPc_last, nextDelayed_last y (branchFits_last hb h1), hidle]
    exact ⟨rfl, rfl⟩
  · have hseq := he.seq
    have hsys := he.sys
    refine ⟨?_, ?_, ?_, ?_, ?_, ?_, ?_, he.tperiod, he.scratch, ?_, ?_, ?_⟩
    iterate 9 rw [hseq]; rfl
    simp only [List.forall_mem_append, List.forall_mem_cons, List.forall_mem_map, List.not_mem_nil, IsEmpty.forall_iff,
      implies_true, and_true]
    refine ⟨⟨?_, ?_, ?_, ?_, ?_, ?_, ?_, ?_, ?_, ?_, ?_, ?_⟩, fun k _ => ?_⟩
    iterate 10 rw [hsys]; exact ⟨rfl, rfl, rfl⟩
    · rw [he.sysctl]
      exact ⟨rfl, rfl, rfl⟩
    · rw [he.brkctl]
      exact ⟨rfl, rfl, rfl⟩
    · rw [he.brk, Fin.getElem_fin, Vector.getElem_map]
      exact ⟨rfl, rfl, rfl⟩

end Sys2Proof.Machine
end

section
/-! The loop tests before an instruction: when one is due, and what it leaves of a counter loop and of an arithmetic loop
(41_group2_program_flow.md R431 to R433). -/

namespace Sys2Proof.Machine

open Sys2Proof.Safety

variable {s t u : State}

/-! ## Pops that complete -/

theorem popLoop_next (h0 : 0 < s.seq.ld) (hl : loopLost s = false) :
    popLoop s = .next (s.setSeq { s.seq with ld := s.seq.ld - 1 }) :=
  popLoop_eq_next.mpr ⟨hl, by omega, rfl⟩

theorem popPc_of_has {d : Nat} (h : pcHas s d) (hd : 0 < d) : popPc s = .next (pcEntryAt s d, s.setDepth (d - 1)) := by
  have h30 : 0 < d ∧ d ≤ 30 := ⟨hd, h.2.2⟩
  refine popPc_eq_next.mpr ⟨d, h30, pcDepth_of_has h, ?_, rfl⟩
  unfold pcEntryAt
  rw [dif_pos h30]

/-- The state with the innermost loop popped, with its entry of a PC stack of `d` entries. -/
def loopPopped (s : State) (d : Nat) : State :=
  s.setSeq { s.seq with ld := s.seq.ld - 1, pcstkp := s.seq.pcstkp.now (.ofNat 5 (d - 1)) }

/-- A loop pop and a PC stack pop, one after the other. -/
theorem popBoth_next {α : Type} {d : Nat} (f : BitVec 26 × State → Res α) (h0 : 0 < s.seq.ld) (hl : loopLost s = false)
    (hp : pcHas s d) (hd : 0 < d) :
    (Res.bind (popLoop s) fun t => Res.bind (popPc t) f) = f (pcEntryAt s d, loopPopped s d) := by
  have hp : pcHas (s.setSeq { s.seq with ld := s.seq.ld - 1 }) d := hp
  rw [popLoop_next h0 hl, Res.bind_next, popPc_of_has hp hd]
  rfl

/-! ## Instructions near the end of a loop -/

/-- The length of an instruction of a loop at `n`, in address units: in VISA space those near the end of a loop have 48 bits
(41_group2_program_flow.md R437). -/
def loopUnit (n : Addr24) : Nat := if isVisa n then 3 else 1

/-- The window of a loop test holds the instruction at the end address and the three before it. -/
theorem inWindow_iff {n e : Addr24} (he : 3 * loopUnit n ≤ e.toNat) :
    inWindow n e = true ↔
      n.toNat ∈ [e.toNat, e.toNat - loopUnit n, e.toNat - 2 * loopUnit n, e.toNat - 3 * loopUnit n] := by
  have hn := n.isLt
  have he2 := e.isLt
  unfold inWindow loopUnit at *
  simp only [List.mem_cons, List.not_mem_nil, or_false, BitVec.toNat_sub]
  cases hv : isVisa n
  · simp only [hv, Bool.false_eq_true, if_false, decide_eq_true_eq] at he ⊢
    omega
  · simp only [hv, if_true, Bool.or_eq_true, beq_iff_eq] at he ⊢
    omega

/-- The instruction before which an arithmetic loop is tested, by its address. -/
theorem eq_testPoint_iff {n top e : Addr24} (he : 3 * loopUnit n ≤ e.toNat) (ht : top.toNat ≤ e.toNat)
    (htop : isVisa top = isVisa n) (hend : isVisa e = isVisa n) :
    n = testPoint top e ↔
      n.toNat = if top.toNat + 2 * loopUnit n ≤ e.toNat then e.toNat - 2 * loopUnit n else e.toNat := by
  have hlen : (e - top).toNat = e.toNat - top.toNat := BitVec.toNat_sub_of_le ht
  unfold testPoint bodyLength loopUnit at *
  rw [htop, hend, hlen]
  cases hv : isVisa n
  · simp only [hv, Bool.false_eq_true, if_false] at he ⊢
    split_ifs <;> bv_omega
  · simp only [hv, if_true] at he ⊢
    split_ifs <;> bv_omega

/-- The test of an arithmetic loop falls into the window of its end. -/
theorem inWindow_of_point {n top e : Addr24} (he : 3 * loopUnit n ≤ e.toNat)
    (h : n.toNat = if top.toNat + 2 * loopUnit n ≤ e.toNat then e.toNat - 2 * loopUnit n else e.toNat) :
    inWindow n e = true := by
  refine (inWindow_iff he).mpr ?_
  split at h <;> simp [h]

/-! ## The test of a counter loop -/

theorem loopTestDue_iff :
    loopTestDue s = true ↔
      0 < s.seq.ld ∧ s.loopTerm = .lce ∧ inWindow s.seq.pc s.loopEnd = true ∧ s.loopTested = false := by
  simp [loopTestDue, and_assoc]

theorem loopTest_notDue (k : Nat) (h : ¬ loopTestDue s = true) : loopTest k s = .next s := by
  cases k with
  | zero => rfl
  | succ k =>
    unfold loopTest
    rw [if_neg h]

/-- The state in which one pass more of the counter loop is counted. -/
def loopCounted (s : State) : State := (s.setCurlcntr (s.curlcntr - 1)).setTested true

theorem loopTest_count (k : Nat) (h : loopTestDue s = true) (hl : loopLost s = false) (h1 : s.curlcntr ≠ 1) :
    loopTest (k + 1) s = .next (loopCounted s) := by
  unfold loopTest
  rw [if_pos h, hl, if_neg Bool.false_ne_true, if_neg h1]
  rfl

/-- The state in which a counter loop was found expired. -/
def loopExpired (s : State) (d : Nat) : State := (loopPopped s d).setScratch { s.scratch with loopEnded := true }

theorem loopTest_last {d : Nat} (k : Nat) (h : loopTestDue s = true) (hl : loopLost s = false) (h1 : s.curlcntr = 1)
    (hp : pcHas s d) (hd : 0 < d) : loopTest (k + 1) s = loopTest k (loopExpired s d) := by
  rw [loopTest]
  rw [if_pos h, hl, if_neg Bool.false_ne_true, if_pos h1, popBoth_next _ (loopTestDue_iff.mp h).1 hl hp hd]
  rfl

/-- Counting leaves the stack of loop addresses. -/
theorem loopCounted_laddr (s : State) : (loopCounted s).laddr = s.laddr := by
  unfold loopCounted State.setCurlcntr State.setTested
  split_ifs <;> rfl

/-! ## The test of an arithmetic loop -/

theorem arithTest_skip (h : s.seq.ld = 0 ∨ s.loopTerm = .lce ∨ leavingAt s s.seq.pc ≠ none ∨
    inWindow s.seq.pc s.loopEnd = false) : arithTest s = .next s := by
  unfold arithTest
  rw [if_neg ?_]
  rintro ⟨h0, h1, h2, h3⟩
  rcases h with h | h | h | h
  · omega
  · exact h1 h
  · exact h h2
  · rw [h] at h3; cases h3

theorem loopCounted_arithTest (h : s.loopTerm = .lce) : arithTest (loopCounted s) = .next (loopCounted s) := by
  refine arithTest_skip (.inr (.inl ?_))
  unfold State.loopTerm
  rw [loopCounted_laddr]
  exact h

/-- The top of the innermost loop, of a PC stack of `d` entries. -/
def loopTop (s : State) (d : Nat) : Addr24 := (pcEntryAt s d).extractLsb' 0 24

/-- The condition of the innermost loop holds in every executing element. -/
def loopTermHolds (s : State) : Prop :=
  termHolds s .x s.loopTerm = true ∧ (s.simd = true → termHolds s .y s.loopTerm = true)

/-- At the point of its test an arithmetic loop whose condition holds is popped, and is then on its way out. -/
theorem arithTest_leave {d : Nat} (h0 : 0 < s.seq.ld) (ht : s.loopTerm ≠ .lce) (hx : leavingAt s s.seq.pc = none)
    (hw : inWindow s.seq.pc s.loopEnd = true) (hl : loopLost s = false) (hp : pcHas s d) (hd : 0 < d)
    (hpoint : s.seq.pc = testPoint (loopTop s d) s.loopEnd) (hholds : loopTermHolds s) :
    arithTest s = .next ((loopPopped s d).setSeq
      { (loopPopped s d).seq with exiting := some ⟨loopTop s d, s.loopEnd, 3⟩ }) := by
  unfold arithTest
  rw [if_pos ⟨h0, ht, hx, hw⟩, hl, if_neg Bool.false_ne_true, readPcstk_of_has hp hd, Res.bind_next]
  dsimp only
  rw [if_pos ⟨hpoint, hholds⟩]
  rw [popBoth_next _ h0 hl hp hd]
  rfl

/-- Away from that point, or where its condition fails, an arithmetic loop goes on. -/
theorem arithTest_stay {d : Nat} (hl : loopLost s = false) (hp : pcHas s d) (hd : 0 < d)
    (h : ¬ (s.seq.pc = testPoint (loopTop s d) s.loopEnd ∧ loopTermHolds s)) : arithTest s = .next s := by
  unfold arithTest
  split
  · rw [hl, if_neg Bool.false_ne_true, readPcstk_of_has hp hd, Res.bind_next]
    dsimp only
    exact if_neg h
  · rfl

end Sys2Proof.Machine
end

section
/-! The steps of a loop (O58): its tests, the way control goes at its end, and the conditions of an arithmetic loop. -/

namespace Sys2Proof.Machine

open Sys2Proof.Safety

variable {s t u : State}

/-! ## The loop tests together -/

/-- A counter loop that is not due its test goes on as it is. -/
theorem loopTests_idle (k : Nat) (h : s.loopTerm = .lce) (hd : ¬ loopTestDue s = true) :
    Res.bind (loopTest k s) arithTest = .next s := by
  rw [loopTest_notDue k hd, Res.bind_next]
  exact arithTest_skip (.inr (.inl h))

/-- An arithmetic loop has its own test only. -/
theorem loopTests_arith (k : Nat) (h : s.loopTerm ≠ .lce) : Res.bind (loopTest k s) arithTest = arithTest s := by
  rw [loopTest_notDue k fun hd => h (loopTestDue_iff.mp hd).2.1, Res.bind_next]

theorem loopTests_count (k : Nat) (hd : loopTestDue s = true) (hl : loopLost s = false) (h1 : s.curlcntr ≠ 1) :
    Res.bind (loopTest (k + 1) s) arithTest = .next (loopCounted s) := by
  rw [loopTest_count k hd hl h1, Res.bind_next]
  exact loopCounted_arithTest (loopTestDue_iff.mp hd).2.1

/-- Behind the innermost loop, or away from the end of the loop around it, nothing more is tested. -/
theorem loopTests_last {d : Nat} (k : Nat) (hd : loopTestDue s = true) (hl : loopLost s = false) (h1 : s.curlcntr = 1)
    (hp : pcHas s d) (h0 : 0 < d) (ho : s.seq.ld = 1 ∨ inWindow s.seq.pc (loopPopped s d).loopEnd = false) :
    Res.bind (loopTest (k + 1) s) arithTest = .next (loopExpired s d) := by
  have hout : (loopExpired s d).seq.ld = 0 ∨ inWindow (loopExpired s d).seq.pc (loopExpired s d).loopEnd = false :=
    ho.imp (fun h => by simp [loopExpired, loopPopped, h]) id
  have hnot : ¬ loopTestDue (loopExpired s d) = true := by
    rw [loopTestDue_iff]
    rintro ⟨hld, -, hw, -⟩
    rcases hout with h | h
    · omega
    · rw [h] at hw; cases hw
  rw [loopTest_last k hd hl h1 hp h0, loopTest_notDue k hnot, Res.bind_next]
  exact arithTest_skip (hout.imp id fun h => .inr (.inr h))

theorem leavingAt_eq_none {n : Addr24} :
    leavingAt s n = none ↔ ¬ ∃ x ∈ s.seq.exiting, x.top.toNat ≤ n.toNat ∧ n.toNat ≤ x.last.toNat := by
  rw [Option.eq_none_iff_forall_not_mem, not_exists]
  exact forall_congr' fun x => not_congr leavingAt_eq_some

/-! ## The conditions of an arithmetic loop -/

/-- A test of flags that are no multiplier flags is the condition of an instruction. -/
theorem termHolds_is {e : Elem} {k : Test} (hv : k ≠ .mv) (hs : k ≠ .ms) :
    termHolds s e (.is k) = condHolds s e false (.is k) ∧ termHolds s e (.isNot k) = condHolds s e false (.isNot k) := by
  cases k
  case mv => exact absurd rfl hv
  case ms => exact absurd rfl hs
  all_goals exact ⟨rfl, rfl⟩

/-- Settles O58: the tests by `loopTests_idle`, `loopTests_count`, `loopTests_last`, `arithTest_leave` and `arithTest_stay`,
the flow by `step_of_executesFrom`. -/
theorem loopSteps : Obligations.LoopSteps := by
  unfold Obligations.LoopSteps
  refine ⟨?_, ?_, ?_⟩
  · intro s d more h0 h6 hl hp hd n e top unit near tests popped expired inBody he
    have hnear : near ↔ inWindow n e = true := (inWindow_iff he).symm
    have hdue : loopTestDue s = true ↔ s.loopTerm = .lce ∧ near ∧ s.loopTested = false := by
      rw [loopTestDue_iff, hnear]
      exact and_iff_right h0
    refine ⟨fun hc => ⟨fun hn ht h1 => ?_, fun hn ht h1 ho => ?_, fun hn ht h1 u hu => ?_, fun hn => ?_⟩,
      fun hc htop hvt hve => ⟨fun hpt hh hb => ?_, fun hno => ?_⟩⟩
    · exact loopTests_count more (hdue.mpr ⟨hc, hn, ht⟩) hl h1
    · exact loopTests_last more (hdue.mpr ⟨hc, hn, ht⟩) hl h1 hp hd ho
    · exact (congrArg (Res.bind · arithTest) (loopTest_last more (hdue.mpr ⟨hc, hn, ht⟩) hl h1 hp hd)).trans hu
    · refine loopTests_idle (more + 1) hc fun h => ?_
      obtain ⟨-, hw, ht⟩ := hdue.mp h
      rcases hn with hn | hn
      · exact hn hw
      · rw [ht] at hn; cases hn
    · refine (loopTests_arith (more + 1) hc).trans ?_
      exact arithTest_leave h0 hc (leavingAt_eq_none.mpr hb) (inWindow_of_point he hpt) hl hp hd
        ((eq_testPoint_iff he htop hvt hve).mpr hpt) hh
    · refine (loopTests_arith (more + 1) hc).trans ?_
      by_cases hb : inBody
      · exact arithTest_skip (.inr (.inr (.inl fun h => leavingAt_eq_none.mp h hb)))
      · refine arithTest_stay hl hp hd fun ⟨hpt, hh⟩ => ?_
        rcases hno with hno | hno | hno
        · exact hno ((eq_testPoint_iff he htop hvt hve).mp hpt)
        · exact hno hh
        · exact hb hno
  · intro s u t i len h hb hl n
    obtain ⟨next, x, v, c1, c2, hw, hto, hfl⟩ := step_of_executesFrom h hb hl
    have hseq := (endStep_ended s.takeInput s.input (some s.seq.pc) (moved s t next x v c1 c2)).seq
    generalize endStep s.takeInput s.input (some s.seq.pc) (moved s t next x v c1 c2) = w at hw hseq
    have hex : w.seq.exiting = x := by rw [hseq]; rfl
    have htested : w.seq.tested = v := by rw [hseq]; rfl
    refine ⟨w, hw, fun hdb hbr => ?_, ?_, ?_, ?_⟩
    · have hpc : w.seq.pc = next := by rw [hseq]; show nextPc _ _ _ = _; rw [hdb, nextPc_none, hbr]; rfl
      rw [hpc]
      exact hto
    · rw [hex, htested]
      exact hfl.leaving
    · rw [hex, htested]
      exact hfl.other
    · rw [hseq]
      exact ⟨rfl, rfl, rfl, rfl, rfl⟩
  · intro s e k old
    exact ⟨termHolds_is, by cases e <;> rfl, by cases e <;> rfl, by cases e <;> rfl, by cases e <;> rfl, rfl⟩

end Sys2Proof.Machine
end

section
/-! A counter loop with a NOP as its body runs its count (O59): each step but the last keeps the state of the loop with one
pass less to go, and the last leaves the loop. -/

namespace Sys2Proof.Machine

open Sys2Proof.Safety

variable {s t u w : State}

/-! ## What a step in a quiet environment leaves -/

/-- With interrupts off none is taken. -/
theorem interruptNow_of_off (h : s.mode1 12 = false) : interruptNow s = none := by
  have hall (p : Nat) : allowed s p = false := by simp [allowed, h]
  have hnext : nextIrq s = none := by simp [nextIrq, hall]
  unfold interruptNow
  rw [hnext, ite_self]

/-- The end of a step leaves the inputs to come, and of the stored cells those that were there or were stored to. -/
theorem endStep_rest (s : State) (inp : EnvInput) (ran : Option Addr24) (t : State) :
    (endStep s inp ran t).env = t.env ∧ ∃ refetched flush,
      (endStep s inp ran t).stale = addStale t.scratch.stored
        ((t.stale.map (StaleCell.aged ran.isSome refetched flush)).filter fun x => !x.fresh) := by
  obtain ⟨c, e, v, ht⟩ := tickTimer_eq (inp.moreTicks + 1) t
  unfold endStep
  dsimp only
  rw [ht]
  cases ran with
  | none => exact ⟨rfl, _, _, rfl⟩
  | some n =>
    dsimp only
    obtain ⟨a, b, y, hb⟩ := breakpoints_eq n (tickEmuclk (inp.moreTicks + 1)
      { t with tcount := c, tmrexp := e, scratch := { t.scratch with events := v } })
    rw [hb]
    exact ⟨rfl, _, _, rfl⟩

/-- Nothing stored, nothing to be shut out. -/
theorem addStale_nil (l : List StaleCell) : addStale [] l = l := by simp [addStale]

theorem takeInput_of_quiet (h : s.env = []) :
    s.takeInput = { s with platform := { answer := s.free .platform, access := none } } := by
  have hi : s.input = quietInput s := by unfold State.input; rw [h]; rfl
  unfold State.takeInput
  rw [hi, h]
  simp [quietInput, addStale_nil, emulatorSide]

/-- A step that stores nothing makes no code modified code. -/
theorem modifiedAt_aged {l : List StaleCell} {a : Addr24} {len : Nat} (ran refetched flush : Bool)
    (h : modifiedAt l a len = false) :
    modifiedAt ((l.map (StaleCell.aged ran refetched flush)).filter fun x => !x.fresh) a len = false := by
  unfold modifiedAt at *
  rw [List.any_eq_false] at *
  intro x hx
  obtain ⟨y, hy, rfl⟩ := List.mem_map.mp (List.mem_filter.mp hx).1
  exact h y hy

/-! ## Views of the loop stacks -/

theorem laddr_congr (hd : t.seq.ld = s.seq.ld) (ha : t.seq.loopaddr = s.seq.loopaddr) : t.laddr = s.laddr := by
  unfold State.laddr
  simp only [hd, ha]

theorem curlcntr_congr (hd : t.seq.ld = s.seq.ld) (hc : t.seq.loopcnt = s.seq.loopcnt) : t.curlcntr = s.curlcntr := by
  unfold State.curlcntr
  simp only [hd, hc]

theorem pcEntryAt_congr (h : t.seq.pcstack = s.seq.pcstack) (d : Nat) : pcEntryAt t d = pcEntryAt s d := by
  unfold pcEntryAt
  rw [h]

/-- A pass counted changes the count and the bit `tested` of the innermost loop. -/
theorem loopCounted_eq (h : 0 < s.seq.ld ∧ s.seq.ld ≤ 6) :
    loopCounted s = s.setSeq { s.seq with
      loopcnt := s.seq.loopcnt.set (s.seq.ld - 1) (s.curlcntr - 1)
      tested := s.seq.tested.set (s.seq.ld - 1) true } := by
  simp [loopCounted, State.setCurlcntr, State.setTested, h]
  rfl

theorem loopCounted_curlcntr (h : 0 < s.seq.ld ∧ s.seq.ld ≤ 6) : (loopCounted s).curlcntr = s.curlcntr - 1 := by
  rw [loopCounted_eq h]
  simp [State.curlcntr, h]

theorem loopCounted_tested (h : 0 < s.seq.ld ∧ s.seq.ld ≤ 6) : (loopCounted s).loopTested = true := by
  rw [loopCounted_eq h]
  simp [State.loopTested, h]

theorem takeInput_loopTests (h : s.env = []) :
    loopTestDue s.takeInput = loopTestDue s ∧ s.takeInput.curlcntr = s.curlcntr ∧ loopLost s.takeInput = loopLost s ∧
      ∀ d, pcHas s.takeInput d ↔ pcHas s d := by
  rw [takeInput_of_quiet h]
  exact ⟨rfl, rfl, rfl, fun _ => Iff.rfl⟩

/-! ## One step of a NOP -/

/-- Between steps: no interrupt, reset or other input will come, and the instruction at `a` is a NOP that may be executed. -/
structure Undisturbed (s : State) (a : Addr24) : Prop where
  inv : Inv s
  env : s.env = []
  awake : s.seq.idle = false
  direct : s.seq.db = none
  irqOff : s.sys.mode1.val.getLsbD 12 = false ∧ s.sys.mode1.eff.getLsbD 12 = false
  noReset : s.iop.sysctl.val.getLsbD 0 = false ∧ s.iop.sysctl.eff.getLsbD 0 = false
  kept : loopLost s = false
  code : fetch s.mem a = .next (.nop21a, 1)
  unmodified : modifiedAt s.stale a 1 = false

/-- What a NOP at `a` makes of a state from which the loop tests made `u`. -/
structure NopStep (s u w : State) (a next : Addr24) (x : Option Exiting) (v : Vector Bool 6) : Prop where
  undisturbed : Undisturbed w a
  pc : w.seq.pc = next
  exiting : w.seq.exiting = x
  tested : w.seq.tested = v
  ld : w.seq.ld = u.seq.ld
  loopaddr : w.seq.loopaddr = u.seq.loopaddr
  loopcnt : w.seq.loopcnt = u.seq.loopcnt
  pcstack : w.seq.pcstack = u.seq.pcstack
  pcstkp : w.seq.pcstkp = u.seq.pcstkp.commit
  frame : w.pex = s.pex ∧ w.pey = s.pey ∧ w.dag = s.dag ∧ w.mem = s.mem

variable {a : Addr24} {n : Nat}

theorem Undisturbed.executesFrom (h : Undisturbed s a) (hpc : s.seq.pc = a)
    (hu : Res.bind (loopTest 7 s.takeInput) arithTest = .next u) : executesFrom s .nop21a 1 u u := by
  have hq := takeInput_of_quiet h.env
  have hi : s.input.reset = false := by unfold State.input; rw [h.env]; rfl
  refine ⟨⟨hi, h.noReset.2, interruptNow_of_off h.irqOff.2, h.awake⟩, hu, ?_, ⟨?_, fun _ => rfl⟩, rfl⟩
  · rw [hq, hpc]
    exact h.code
  · rw [hq, hpc]
    exact h.unmodified

/-- The end of a step after a NOP leaves what it ran in undisturbed, and moves on what the loop tests (`u`) and the next
address make of the sequencer. -/
theorem Undisturbed.after (h : Undisturbed s a) (hu : loopSame s.takeInput u) {next : Addr24} {x : Option Exiting}
    {v : Vector Bool 6} {c1 c2 : Word} (hinv : Inv w)
    (hw : w = endStep s.takeInput s.input (some s.seq.pc) (moved s u next x v c1 c2)) : NopStep s u w a next x v := by
  have he := endStep_ended s.takeInput s.input (some s.seq.pc) (moved s u next x v c1 c2)
  obtain ⟨henv, r, f, hstale⟩ := endStep_rest s.takeInput s.input (some s.seq.pc) (moved s u next x v c1 c2)
  rw [← hw] at he henv hstale
  rw [takeInput_of_quiet h.env] at hu
  have hseq := he.seq
  have hscratch : u.scratch.br = none ∧ u.scratch.dbReq = none ∧ u.scratch.stored = [] := by
    rw [hu]
    show s.scratch.br = none ∧ s.scratch.dbReq = none ∧ s.scratch.stored = []
    rw [h.inv.quiet]
    exact ⟨rfl, rfl, rfl⟩
  have hmem : w.mem = s.mem := he.mem.trans (show u.mem = s.mem by rw [hu])
  have hold : modifiedAt u.stale a 1 = false := by rw [hu]; exact h.unmodified
  have hmode : w.sys.mode1 = s.sys.mode1.commit := by rw [he.sys]; show u.sys.mode1.commit = _; rw [hu]
  have hstky : w.sys.stkyx = s.sys.stkyx.commit := by rw [he.sys]; show u.sys.stkyx.commit = _; rw [hu]
  have hsys : w.iop.sysctl = s.iop.sysctl.commit := he.sysctl.trans (show u.iop.sysctl.commit = _ by rw [hu])
  obtain ⟨hmw, -, -, -, -, -, hsw, -, -, -, -, -, -, hyw, -⟩ := h.inv.settled
  exact
    { undisturbed :=
        { inv := hinv
          env := henv.trans (show u.env = [] by rw [hu]; exact h.env)
          awake := by rw [hseq]; show u.seq.idle = false; rw [hu]; exact h.awake
          direct := by rw [hseq]; show nextDelayed s.seq.db u = none; rw [h.direct, nextDelayed_none, hscratch.2.1]; rfl
          irqOff := by
            rw [hmode, Latent.commit_val, Latent.commit_eff, hmw]
            exact ⟨h.irqOff.1, h.irqOff.1⟩
          noReset := by
            rw [hsys, Latent.commit_val, Latent.commit_eff, hyw]
            exact ⟨h.noReset.1, h.noReset.1⟩
          kept := by
            unfold loopLost
            rw [hstky, Latent.commit_val, hsw]
            exact h.kept
          code := by rw [hmem]; exact h.code
          unmodified := by
            rw [hstale, show (moved s u next x v c1 c2).scratch.stored = [] from hscratch.2.2, addStale_nil]
            exact modifiedAt_aged _ _ _ hold }
      pc := by rw [hseq]; show nextPc s.seq.db next u = next; rw [h.direct, nextPc_none, hscratch.1]; rfl
      exiting := by rw [hseq]; rfl
      tested := by rw [hseq]; rfl
      ld := by rw [hseq]; rfl
      loopaddr := by rw [hseq]; rfl
      loopcnt := by rw [hseq]; rfl
      pcstack := by rw [hseq]; rfl
      pcstkp := by rw [hseq]; rfl
      frame := ⟨he.pex.trans (show u.pex = _ by rw [hu]), he.pey.trans (show u.pey = _ by rw [hu]),
        he.dag.trans (show u.dag = _ by rw [hu]), hmem⟩ }

/-- The step of a NOP. -/
theorem Undisturbed.step (h : Undisturbed s a) (hpc : s.seq.pc = a)
    (hu : Res.bind (loopTest 7 s.takeInput) arithTest = .next u) (hb : canLoopBack u a) :
    ∃ next x v w, step s = .next w ∧ flowsTo u a (a + 1) next ∧ Flowed u a x v ∧ NopStep s u w a next x v := by
  obtain ⟨next, x, v, c1, c2, hw, hto, hfl⟩ :=
    step_of_executesFrom (h.executesFrom hpc hu) (.inl h.direct) (hpc ▸ hb)
  rw [hpc] at hto hfl
  exact ⟨next, x, v, _, hw, hto, hfl, h.after (loopTests_same hu) (stepKeepsInv s _ h.inv hw) (by rw [hpc])⟩

/-! ## The loop -/

/-- The NOP at `a` is the next instruction and the body of the one loop there is, which has `n` passes to go. -/
structure NopLoop (s : State) (a : Addr24) (n : Nat) : Prop extends Undisturbed s a where
  inside : s.seq.exiting = none
  depth : pcHas s 1
  top : (pcEntryAt s 1).extractLsb' 0 24 = a
  pc : s.seq.pc = a
  loops : s.seq.ld = 1
  term : s.loopTerm = .lce
  last : s.loopEnd = a
  untested : s.loopTested = false
  count : s.curlcntr.toNat = n

/-- A run of one step more, from where the first step leads. -/
theorem run_of_step {M : Host.Core} {s w : M.State} (k : Nat) (h : M.step s = .next w) : M.run (k + 1) s = M.run k w := by
  rw [Host.Core.run, h]

namespace NopLoop

theorem due (h : NopLoop s a n) : loopTestDue s = true := by
  rw [loopTestDue_iff, h.pc, h.last, h.loops]
  refine ⟨Nat.one_pos, h.term, ?_, h.untested⟩
  unfold inWindow
  cases isVisa a <;> simp

/-- A pass that is not the last counts, and the NOP goes back to itself. -/
theorem pass (h : NopLoop s a (n + 2)) : ∃ w, step s = .next w ∧ NopLoop w a (n + 1) ∧ w.pex = s.pex ∧ w.pey = s.pey ∧
    w.dag = s.dag ∧ w.mem = s.mem := by
  obtain ⟨hdue, hcount, hlost, hpc⟩ := takeInput_loopTests h.env
  have hld : s.takeInput.seq.ld = 1 := h.loops
  have hd : 0 < s.takeInput.seq.ld ∧ s.takeInput.seq.ld ≤ 6 := by omega
  have hn := h.count
  have hc1 : s.takeInput.curlcntr ≠ 1 := fun hc => by
    rw [← hcount, hc] at hn
    change 1 = n + 2 at hn
    omega
  have hu := loopTests_count 6 (hdue.trans h.due) (hlost.trans h.kept) hc1
  have huc := (loopCounted_curlcntr hd).trans (congrArg (· - 1) hcount)
  have hut := loopCounted_tested hd
  have hue := loopCounted_eq hd
  generalize loopCounted s.takeInput = u at hu huc hut hue
  have hdepth : pcHas u 1 := by rw [hue]; exact h.depth
  have hback : loopsBack u a := ⟨by rw [hue]; exact hd.1, by rw [hue]; exact h.last, fun _ => hut⟩
  have hstay : ∀ y, ¬ leaves u a y := fun y hy => by
    have hx : s.seq.exiting = some y := by rw [← hy.1, hue]; rfl
    rw [h.inside] at hx
    cases hx
  obtain ⟨next, x, v, w, hw, hto, hfl, hs⟩ := h.step h.pc hu
    fun _ _ => ⟨by rw [hue]; exact hlost.trans h.kept, 1, Nat.one_pos, hdepth⟩
  obtain ⟨hx, htested, -⟩ := hfl.other hstay
  have hone : u.seq.ld = 1 := by rw [hue]; exact h.loops
  have hladdr : w.laddr = s.laddr :=
    laddr_congr (by rw [hs.ld, hone, h.loops]) (by rw [hs.loopaddr, hue]; rfl)
  have hwr : u.seq.pcstkp.wr = none := by
    obtain ⟨-, -, -, -, -, -, -, -, -, -, -, -, hwr, -⟩ := h.inv.settled
    rw [hue]; exact hwr
  refine ⟨w, hw, ?_, hs.frame⟩
  exact
    { hs.undisturbed with
      inside := by rw [hs.exiting, hx, hue]; exact h.inside
      depth := by
        obtain ⟨-, hval, hle⟩ := hdepth
        unfold pcHas
        rw [hs.pcstkp, Latent.commit_val, Latent.commit_eff, hwr]
        exact ⟨rfl, hval, hle⟩
      top := by rw [pcEntryAt_congr (s := s) (by rw [hs.pcstack, hue]; rfl)]; exact h.top
      pc := by
        rw [hs.pc, (hto.2 hstay).1 hback, hdepth.2.1, hue]
        exact h.top
      loops := hs.ld.trans hone
      term := by unfold State.loopTerm; rw [hladdr]; exact h.term
      last := by unfold State.loopEnd; rw [hladdr]; exact h.last
      untested := by
        have h0 := htested hback 0
        unfold State.loopTested
        simp only [hs.ld, hone, hs.tested]
        simpa [hone] using h0
      count := by
        rw [curlcntr_congr (s := u) hs.ld hs.loopcnt, huc, BitVec.toNat_sub_of_le (by bv_omega), hn]
        rfl }

/-- The last pass pops the loop, and the NOP goes on behind it. -/
theorem lastPass (h : NopLoop s a 1) : ∃ w, step s = .next w ∧ w.seq.pc = a + 1 ∧ w.seq.ld = 0 ∧ pcHas w 0 ∧
    w.pex = s.pex ∧ w.pey = s.pey ∧ w.dag = s.dag ∧ w.mem = s.mem := by
  obtain ⟨hdue, hcount, hlost, hpc⟩ := takeInput_loopTests h.env
  have hc1 : s.takeInput.curlcntr = 1 := hcount.trans (BitVec.eq_of_toNat_eq h.count)
  have hu := loopTests_last 6 (hdue.trans h.due) (hlost.trans h.kept) hc1 ((hpc 1).mpr h.depth) Nat.one_pos (.inl h.loops)
  have hld : (loopExpired s.takeInput 1).seq.ld = 0 := congrArg (· - 1) h.loops
  have hwr : (loopExpired s.takeInput 1).seq.pcstkp.wr = none := by
    obtain ⟨-, -, -, -, -, -, -, -, -, -, -, -, hwr, -⟩ := h.inv.settled
    exact hwr
  have hno : ¬ loopsBack (loopExpired s.takeInput 1) a := fun hb => by
    have := hb.1
    omega
  have hstay : ∀ y, ¬ leaves (loopExpired s.takeInput 1) a y := fun y hy => by
    have hx : s.seq.exiting = some y := hy.1
    rw [h.inside] at hx
    cases hx
  obtain ⟨next, x, v, w, hw, hto, -, hs⟩ := h.step h.pc hu fun hb => absurd hb hno
  refine ⟨w, hw, hs.pc.trans ((hto.2 hstay).2 hno), hs.ld.trans hld, ?_, hs.frame⟩
  unfold pcHas
  rw [hs.pcstkp, Latent.commit_val, Latent.commit_eff, hwr]
  exact ⟨rfl, rfl, Nat.zero_le 30⟩

/-- All passes, one after the other. -/
theorem run (h : NopLoop s a (n + 1)) : ∃ t, Host.Core.run core (n + 1) s = .next t ∧ t.seq.pc = a + 1 ∧ t.seq.ld = 0 ∧
    pcHas t 0 ∧ t.pex = s.pex ∧ t.pey = s.pey ∧ t.dag = s.dag ∧ t.mem = s.mem := by
  induction n generalizing s with
  | zero =>
    obtain ⟨t, ht, hrest⟩ := h.lastPass
    exact ⟨t, run_of_step (M := core) 0 ht, hrest⟩
  | succ n ih =>
    obtain ⟨w, hw, hloop, hpex, hpey, hdag, hmem⟩ := h.pass
    obtain ⟨t, ht, hpc, hld, hp, hpex2, hpey2, hdag2, hmem2⟩ := ih hloop
    exact ⟨t, (run_of_step (M := core) (n + 1) hw).trans ht, hpc, hld, hp, hpex2.trans hpex, hpey2.trans hpey, hdag2.trans hdag,
      hmem2.trans hmem⟩

end NopLoop

/-- Settles O59, by induction on the passes to go. -/
theorem counterLoopRuns : Obligations.CounterLoopRuns := by
  unfold Obligations.CounterLoopRuns
  intro s n hinv henv hidle hdb hx hi hie hr hre hlost hpc htop hvisa hld hterm hend ht hn h0 hf hm
  obtain ⟨n, rfl⟩ := Nat.exists_eq_succ_of_ne_zero h0.ne'
  exact NopLoop.run
    { inv := hinv, env := henv, awake := hidle, direct := hdb, irqOff := ⟨hi, hie⟩, noReset := ⟨hr, hre⟩, kept := hlost
      code := hf, unmodified := hm, inside := hx, depth := hpc, top := htop, pc := rfl, loops := hld, term := hterm
      last := hend, untested := ht, count := hn }

end Sys2Proof.Machine
end

section
/-! A compute sets none of the bits of STKYx from 10 up, those of the stacks among them (10_state.md R63): a rule for each
operation that writes flags, as for `onlyUnits`. -/

namespace Sys2Proof.Machine

open Sys2Proof.Safety

/-! ## The sticky bits of the units -/

/-- Sticky bits of the computation units: those below 10. -/
def UnitSticky (bits : Word) : Prop := ∀ k, 10 ≤ k → bits.getLsbD k = false

theorem UnitSticky.bitIf (b : Bool) {n : Nat} (h : n < 10) : UnitSticky (bitIf b n) := fun k hk => by
  rw [bitIf_getLsbD b (by omega), decide_eq_false (by omega), Bool.and_false]

theorem UnitSticky.or {x y : Word} (hx : UnitSticky x) (hy : UnitSticky y) : UnitSticky (x ||| y) := fun k hk => by
  rw [BitVec.getLsbD_or, hx k hk, hy k hk, Bool.or_false]

theorem fixFlags_sticky (r : Word) (av ac as : Bool) : UnitSticky (fixFlags r av ac as).sticky := .bitIf av (by decide)

theorem fltFlags_sticky (az an av as ai au : Bool) : UnitSticky (fltFlags az an av as ai au).sticky :=
  ((UnitSticky.bitIf au (by decide)).or (.bitIf av (by decide))).or (.bitIf ai (by decide))

theorem compareFlags_sticky (eq lt ai af : Bool) : UnitSticky (compareFlags eq lt ai af).sticky :=
  .bitIf ai (by decide)

theorem mulFixFlags_sticky (r : Acc) (signed frac mv : Bool) : UnitSticky (mulFixFlags r signed frac mv).sticky :=
  .bitIf _ (by decide)

theorem mulFltFlags_sticky (v : Ext) (mv mu mi : Bool) : UnitSticky (mulFltFlags v mv mu mi).sticky :=
  ((UnitSticky.bitIf mv (by decide)).or (.bitIf mu (by decide))).or (.bitIf mi (by decide))

theorem fix2_sticky (m : AluMode) (op : FixOp2) (a b : Word) : UnitSticky (fix2 m op a b).f.sticky := by
  cases op <;> exact fixFlags_sticky _ _ _ _

theorem fix1_sticky (m : AluMode) (op : FixOp1) (a : Word) : UnitSticky (fix1 m op a).f.sticky := by
  cases op with
  | abs =>
    unfold fix1 fixAbs
    dsimp only
    split <;> exact fixFlags_sticky _ _ _ _
  | _ => exact fixFlags_sticky _ _ _ _

theorem FpOut.out_sticky (o : FpOut) : UnitSticky o.out.f.sticky := fltFlags_sticky _ _ _ _ _ _

theorem fpSelect_sticky (m : AluMode) (x y v : Ext) : UnitSticky (fpSelect m x y v).f.sticky := by
  unfold fpSelect
  split <;> exact FpOut.out_sticky _

theorem flt2_sticky (m : AluMode) (op : FltOp2) (x y : Ext) : UnitSticky (flt2 m op x y).f.sticky := by
  cases op with
  | copysign | min | max | clip => exact fpSelect_sticky _ _ _ _
  | _ => exact fltFlags_sticky _ _ _ _ _ _

theorem flt1_sticky (m : AluMode) (op : FltOp1) (x : Ext) : UnitSticky (flt1 m op x).f.sticky := by
  cases op with
  | neg | pass => exact fpSelect_sticky _ _ _ _
  | abs =>
    unfold flt1 fpAbs
    dsimp only
    split <;> exact fltFlags_sticky _ _ _ _ _ _
  | recips =>
    unfold flt1 fpRecips
    dsimp only
    split_ifs <;> exact fltFlags_sticky _ _ _ _ _ _
  | rsqrts =>
    unfold flt1 fpRsqrts
    dsimp only
    split_ifs <;> exact fltFlags_sticky _ _ _ _ _ _
  | _ => exact fltFlags_sticky _ _ _ _ _ _

/-! ## The operations that write the state -/

/-- The bits of STKYx from 10 up are those of `s`. -/
def StackFlags (s t : State) : Prop := ∀ k, 10 ≤ k → t.sys.stkyx.val.getLsbD k = s.sys.stkyx.val.getLsbD k

namespace StackFlags

variable {s t u : State}

theorem refl (s : State) : StackFlags s s := fun _ _ => rfl

theorem congr (h : StackFlags s t) (hu : u.sys.stkyx = t.sys.stkyx) : StackFlags s u := fun k hk => by
  rw [hu, h k hk]

theorem setReg (h : StackFlags s t) (e : Elem) (n : RegNum) (v : Ext) : StackFlags s (t.setReg e n v) :=
  h.congr (by rw [State.setReg_sys])

theorem setReg32 (h : StackFlags s t) (e : Elem) (n : RegNum) (v : Word) : StackFlags s (t.setReg32 e n v) :=
  h.setReg e n _

theorem setMr (h : StackFlags s t) (e : Elem) (bg : Bool) (v : Acc) : StackFlags s (t.setMr e bg v) :=
  h.congr (by rw [State.setMr_sys])

theorem setFifo (h : StackFlags s t) (e : Elem) (b : Long) (p : BitVec 7) : StackFlags s (t.setFifo e b p) :=
  h.congr (by rw [State.setFifo, State.setPe_sys])

theorem setAstat (h : StackFlags s t) (e : Elem) (v : Word) : StackFlags s (t.setAstat e v) :=
  h.congr (by cases e <;> rfl)

theorem stick (h : StackFlags s t) (e : Elem) {bits : Word} (hb : UnitSticky bits) : StackFlags s (t.stick e bits) := by
  cases e with
  | y => exact h
  | x =>
    intro k hk
    show (t.sys.stkyx.val ||| bits).getLsbD k = _
    rw [BitVec.getLsbD_or, hb k hk, Bool.or_false, h k hk]

theorem aluFlags (h : StackFlags s t) (e : Elem) {f : AluFlags} (hf : UnitSticky f.sticky) :
    StackFlags s (writeAluFlags e f t) := (h.setAstat _ _).stick e hf

theorem mulFlags (h : StackFlags s t) (e : Elem) {f : MulFlags} (hf : UnitSticky f.sticky) :
    StackFlags s (writeMulFlags e f t) := (h.setAstat _ _).stick e hf

theorem shfFlags (h : StackFlags s t) (e : Elem) (sz sv ss : Bool) : StackFlags s (writeShfFlags e sz sv ss t) :=
  h.setAstat _ _

/-! ## The operations of the units -/

theorem putAlu (h : StackFlags s t) (e : Elem) (n : RegNum) {o : AluOut} (ho : UnitSticky o.f.sticky) :
    StackFlags s (putAlu e n o t) := (h.setReg _ _ _).aluFlags e ho

theorem putCompare (h : StackFlags s t) (v : State) (e : Elem) (eq lt gt ai af : Bool) :
    StackFlags s (putCompare v e eq lt gt ai af t) := (h.aluFlags e (compareFlags_sticky _ _ _ _)).setAstat _ _

theorem putMulReg (h : StackFlags s t) (e : Elem) (n : RegNum) (r : Acc) (signed frac mv : Bool) :
    StackFlags s (putMulReg e n r signed frac mv t) := (h.setReg32 _ _ _).mulFlags e (mulFixFlags_sticky _ _ _ _)

theorem putMulAcc (h : StackFlags s t) (e : Elem) (bg : Bool) (r : Acc) (signed frac mv : Bool) :
    StackFlags s (putMulAcc e bg r signed frac mv t) := (h.setMr _ _ _).mulFlags e (mulFixFlags_sticky _ _ _ _)

theorem mulToReg (h : StackFlags s t) (v : State) (e : Elem) (op : MulRegOp) (md : MulMod) (n x y : RegNum) :
    StackFlags s (mulToReg v e op md n x y t) := h.putMulReg _ _ _ _ _ _

theorem mulToAcc (h : StackFlags s t) (v : State) (e : Elem) (op : MulAccOp) (md : MulMod) (x y : RegNum) :
    StackFlags s (mulToAcc v e op md x y t) := by
  cases op <;> exact h.putMulAcc _ _ _ _ _ _

theorem fmulToReg (h : StackFlags s t) (v : State) (e : Elem) (n x y : RegNum) :
    StackFlags s (fmulToReg v e n x y t) := (h.setReg _ _ _).mulFlags e (mulFltFlags_sticky _ _ _ _)

theorem putShf (h : StackFlags s t) (e : Elem) (n : RegNum) (o : ShfOut) : StackFlags s (putShf e n o t) :=
  (h.setReg32 _ _ _).shfFlags _ _ _ _

theorem bitDeposit (h : StackFlags s t) (v : State) (e : Elem) (x : Word) (n : Nat) :
    StackFlags s (bitDeposit v e x n t) := by
  unfold Machine.bitDeposit
  dsimp only
  split <;> exact (h.setFifo _ _ _).shfFlags _ _ _ _

theorem bitExtract (h : StackFlags s t) (v : State) (e : Elem) (nu : Bool) (rn : RegNum) (n : Nat) :
    StackFlags s (bitExtract v e nu rn n t) := by
  unfold Machine.bitExtract
  refine StackFlags.shfFlags ?_ _ _ _ _
  split
  · exact h.setReg32 _ _ _
  · split <;> exact (h.setReg32 _ _ _).setFifo _ _ _

theorem putDual (h : StackFlags s t) (e : Elem) (ra rs : RegNum) {a d : AluOut} (ha : UnitSticky a.f.sticky)
    (hd : UnitSticky d.f.sticky) : StackFlags s (putDual e ra rs a d t) :=
  ((h.setReg _ _ _).setReg _ _ _).aluFlags e (ha.or hd)

theorem dualFix (h : StackFlags s t) (v : State) (e : Elem) (ra rs x y : RegNum) :
    StackFlags s (dualFix v e ra rs x y t) := h.putDual _ _ _ (fix2_sticky _ _ _ _) (fix2_sticky _ _ _ _)

theorem dualFlt (h : StackFlags s t) (v : State) (e : Elem) (ra rs x y : RegNum) :
    StackFlags s (dualFlt v e ra rs x y t) := h.putDual _ _ _ (flt2_sticky _ _ _ _) (flt2_sticky _ _ _ _)

/-! ## Computes -/

theorem computeElem (h : StackFlags s t) (v : State) (e : Elem) (c : Compute) : StackFlags s (computeElem v e c t) := by
  cases c with
  | none => exact h
  | fix2 => exact h.putAlu _ _ (fix2_sticky _ _ _ _)
  | fix1 => exact h.putAlu _ _ (fix1_sticky _ _ _)
  | fixCmp => exact h.putCompare _ _ _ _ _ _ _
  | flt2 => exact h.putAlu _ _ (flt2_sticky _ _ _ _)
  | flt1 => exact h.putAlu _ _ (flt1_sticky _ _ _)
  | fltCmp => exact h.putCompare _ _ _ _ _ _ _
  | mulReg => exact h.mulToReg _ _ _ _ _ _ _
  | mulAcc => exact h.mulToAcc _ _ _ _ _ _
  | satReg => exact h.putMulReg _ _ _ _ _ _
  | satAcc => exact h.putMulAcc _ _ _ _ _ _
  | rndReg => exact h.putMulReg _ _ _ _ _ _
  | rndAcc => exact h.putMulAcc _ _ _ _ _ _
  | clrAcc => exact h.setMr _ _ _
  | fmul => exact h.fmulToReg _ _ _ _ _
  | mrGet => exact h.setReg32 _ _ _
  | mrSet => exact h.setMr _ _ _
  | shf => exact h.putShf _ _ _
  | fld => exact h.putShf _ _ _
  | btst => exact h.shfFlags _ _ _ _
  | shf1 => exact h.putShf _ _ _
  | bitdep => exact h.bitDeposit _ _ _ _
  | bitext => exact h.bitExtract _ _ _ _ _
  | bffwrpSet => exact (h.setFifo _ _ _).shfFlags _ _ _ _
  | bffwrpGet => exact (h.setReg32 _ _ _).shfFlags _ _ _ _
  | dualFix => exact h.dualFix _ _ _ _ _ _
  | dualFlt => exact h.dualFlt _ _ _ _ _ _
  | mulAluReg => exact (h.mulToReg _ _ _ _ _ _ _).putAlu _ _ (fix2_sticky _ _ _ _)
  | mulAluAcc => exact (h.mulToAcc _ _ _ _ _ _).putAlu _ _ (fix2_sticky _ _ _ _)
  | fmulAlu => exact (h.fmulToReg _ _ _ _ _).putAlu _ _ (flt2_sticky _ _ _ _)
  | fmulAbs => exact (h.fmulToReg _ _ _ _ _).putAlu _ _ (flt1_sticky _ _ _)
  | mulDualFix => exact (h.mulToReg _ _ _ _ _ _ _).dualFix _ _ _ _ _ _
  | mulDualFlt => exact (h.fmulToReg _ _ _ _ _).dualFlt _ _ _ _ _ _

theorem onElems {f : Elem → State → State} (hf : ∀ e w, StackFlags s w → StackFlags s (f e w)) (h : StackFlags s t)
    (v : State) (g : Gates) : StackFlags s (onElems v g f t) := by
  have hx : StackFlags s (if g.cx then f .x t else t) := by
    split
    · exact hf _ _ h
    · exact h
  unfold Machine.onElems
  dsimp only
  split
  · exact hf _ _ hx
  · exact hx

end StackFlags

theorem doCompute_stackFlags (v : State) (g : Gates) (c : Compute) (t : State) :
    Res.Yields (StackFlags t) (doCompute v g c t) := fun u h => by
  obtain ⟨-, rfl⟩ | ⟨-, -, rfl⟩ := doCompute_eq_next.mp h
  · exact StackFlags.onElems (fun e _ hw => hw.computeElem v e c) (StackFlags.refl t) v g
  · exact StackFlags.refl u

end Sys2Proof.Machine
end

section
/-! The end of an interrupt's service (60_exceptions.md R764): it completes where the status stack can give back what was pushed,
and clears the latch and the mask pointer of that interrupt alone. -/

namespace Sys2Proof.Machine

open Sys2Proof.Safety

variable {p q : Nat} {s t v : State}

/-! ## The bits of an interrupt -/

theorem putBit_false_getLsbD (w : Word) (n k : Nat) : (putBit w n false).getLsbD k = (w.getLsbD k && k != n) := by
  by_cases hk : k < 32
  · have h1 : (1#32 <<< n).getLsbD k = decide (k = n) := by
      by_cases hn : k < n
      · simp [hn]; omega
      · by_cases he : k = n
        · subst he; simp [hk]
        · have : k - n ≠ 0 := by omega
          simp [hk, he, this]
    simp only [putBit, Bool.false_eq_true, if_false, BitVec.getLsbD_and, BitVec.getLsbD_not, h1, hk, decide_true,
      Bool.true_and, bne, beq_eq_decide]
  · rw [BitVec.getLsbD_of_ge _ k (by omega), BitVec.getLsbD_of_ge w k (by omega), Bool.false_and]

/-- Two interrupts of one register have different bits. -/
theorem latchBit_eq_iff (hp : p < 42) (hq : q < 42) (h : inLirptl q = inLirptl p) : latchBit q = latchBit p ↔ q = p := by
  refine ⟨fun he => ?_, fun he => by rw [he]⟩
  cases hl : inLirptl p <;> rw [hl] at h <;>
    simp only [inLirptl, Bool.or_eq_true, Bool.or_eq_false_iff, Bool.and_eq_true, Bool.and_eq_false_iff, decide_eq_true_eq,
      decide_eq_false_iff_not, beq_iff_eq, beq_eq_false_iff_ne] at h hl <;>
    unfold latchBit at he <;> split_ifs at he <;> omega

theorem latchBit_bne (hp : p < 42) (hq : q < 42) (h : inLirptl q = inLirptl p) :
    (latchBit q != latchBit p) = (q != p) := by
  rw [Bool.eq_iff_iff, bne_iff_ne, bne_iff_ne, Ne, latchBit_eq_iff hp hq h]

/-- The latch bits of LIRPTL are its ten lowest; the masks and the mask pointers follow in tens. -/
theorem latchBit_lt_ten (h : inLirptl p = true) : latchBit p < 10 := by
  simp only [inLirptl, Bool.or_eq_true, Bool.and_eq_true, decide_eq_true_eq, beq_iff_eq] at h
  unfold latchBit
  split_ifs <;> omega

/-- IRPTL or IMASKP with the bit of interrupt `p` cleared, where it has one there. -/
def clearedBit (w : Word) (p : Nat) : Word := if inLirptl p then w else putBit w (latchBit p) false

/-- LIRPTL with the latch and the mask pointer of interrupt `p` cleared, where it has them there. -/
def clearedPair (w : Word) (p : Nat) : Word :=
  if inLirptl p then putBit (putBit w (latchBit p) false) (latchBit p + 20) false else w

theorem clearedBit_getLsbD (hp : p < 42) (hq : q < 42) (hl : inLirptl q = false) (w : Word) :
    (clearedBit w p).getLsbD (latchBit q) = (w.getLsbD (latchBit q) && q != p) := by
  unfold clearedBit
  cases hlp : inLirptl p
  · rw [if_neg Bool.false_ne_true, putBit_false_getLsbD, latchBit_bne hp hq (hl.trans hlp.symm)]
  · have : q ≠ p := fun h => by rw [h, hlp] at hl; cases hl
    simp [this]

/-- Of the three bits of an interrupt in LIRPTL the latch and the mask pointer are cleared, the mask is not. -/
theorem clearedPair_getLsbD (hp : p < 42) (hq : q < 42) (hl : inLirptl q = true) (w : Word) :
    (clearedPair w p).getLsbD (latchBit q) = (w.getLsbD (latchBit q) && q != p) ∧
      (clearedPair w p).getLsbD (latchBit q + 10) = w.getLsbD (latchBit q + 10) ∧
      (clearedPair w p).getLsbD (latchBit q + 20) = (w.getLsbD (latchBit q + 20) && q != p) := by
  have hq10 := latchBit_lt_ten hl
  unfold clearedPair
  cases hlp : inLirptl p
  · have : q ≠ p := fun h => by rw [h, hlp] at hl; cases hl
    simp [this]
  · have hp10 := latchBit_lt_ten hlp
    have hne {a b : Nat} (h : a ≠ b) : (a != b) = true := by simpa using h
    have heq := latchBit_bne hp hq (hl.trans hlp.symm)
    have heq20 : (latchBit q + 20 != latchBit p + 20) = (q != p) := by
      rw [← heq, Bool.eq_iff_iff, bne_iff_ne, bne_iff_ne, Ne, Nat.add_right_cancel_iff]
    simp only [if_true, putBit_false_getLsbD, heq, heq20, hne (show latchBit q ≠ latchBit p + 20 by omega),
      hne (show latchBit q + 10 ≠ latchBit p by omega), hne (show latchBit q + 10 ≠ latchBit p + 20 by omega),
      hne (show latchBit q + 20 ≠ latchBit p by omega), Bool.and_true, and_self]

theorem latchOf_cleared (hp : p < 42) (hq : q < 42) (i l : Word) :
    latchOf (clearedBit i p) (clearedPair l p) q = (latchOf i l q && q != p) := by
  unfold latchOf
  cases hl : inLirptl q
  · simp only [clearedBit_getLsbD hp hq hl, Bool.false_eq_true, if_false, Bool.and_assoc]
  · simp only [(clearedPair_getLsbD hp hq hl l).1, if_true, Bool.and_assoc]

theorem maskpOf_cleared (hp : p < 42) (hq : q < 42) (i l : Word) :
    maskpOf (clearedBit i p) (clearedPair l p) q = (maskpOf i l q && q != p) := by
  unfold maskpOf
  cases hl : inLirptl q
  · simp only [clearedBit_getLsbD hp hq hl, Bool.false_eq_true, if_false, Bool.and_assoc]
  · simp only [(clearedPair_getLsbD hp hq hl l).2.2, if_true, Bool.and_assoc]

theorem maskOf_cleared (hp : p < 42) (hq : q < 42) (i l : Word) : maskOf i (clearedPair l p) q = maskOf i l q := by
  unfold maskOf
  cases hl : inLirptl q
  · simp only [Bool.false_eq_true, if_false]
  · simp only [(clearedPair_getLsbD hp hq hl l).2.1, if_true]

/-! ## The end of the service -/

/-- The state with the latch and the mask pointer of interrupt `p` cleared, and the breakpoint status bits where it is
BKPI. -/
def State.unserve (s : State) (p : Nat) : State :=
  { s with
    sys := { s.sys with
      irptl := s.sys.irptl.hw (clearedBit s.sys.irptl.val p)
      imaskp := s.sys.imaskp.hw (clearedBit s.sys.imaskp.val p)
      lirptl := s.sys.lirptl.hw (clearedPair s.sys.lirptl.val p) }
    iop := { s.iop with eemustat := if p = 6 then s.iop.eemustat &&& ~~~breakStatusBits else s.iop.eemustat } }

theorem unserve_eq (s : State) (p : Nat) :
    let w := (s.setLatch p false).setMaskp p false
    (if p = 6 then w.setIop { w.iop with eemustat := w.iop.eemustat &&& ~~~breakStatusBits } else w) = s.unserve p := by
  unfold State.setLatch State.setMaskp State.unserve clearedBit clearedPair
  by_cases h6 : p = 6
  · simp only [if_pos h6]
    cases inLirptl p <;> rfl
  · simp only [if_neg h6]
    cases inLirptl p <;> rfl

/-- Nothing differs but the status stack, what it gives back, the latches and mask pointers, and EEMUSTAT. -/
def serviceSame (s t : State) : Prop :=
  t = { s with
    seq := { s.seq with sts := t.seq.sts }
    sys := { s.sys with
      mode1 := t.sys.mode1
      astatx := t.sys.astatx
      astaty := t.sys.astaty
      irptl := t.sys.irptl
      imaskp := t.sys.imaskp
      lirptl := t.sys.lirptl }
    iop := { s.iop with eemustat := t.iop.eemustat } }

theorem serviceSame.trans {u : State} (h : serviceSame s t) (k : serviceSame t u) : serviceSame s u := by
  unfold serviceSame at *
  rw [k, h]

/-- An interrupt in service is one of the 42. -/
theorem inService_lt (h : inService s = some p) : p < 42 := List.mem_range.mp (List.mem_of_find?_eq_some h)

/-- The end of the service of an interrupt that had pushed nothing. -/
theorem unserve_ends (h : inService s = some p) (hpush : pushesStatus p = false) : endsService s (s.unserve p) := by
  have hp := inService_lt h
  unfold endsService
  rw [h]
  exact ⟨rfl, fun q hq _ => ⟨latchOf_cleared hp hq _ _, maskpOf_cleared hp hq _ _, maskOf_cleared hp hq _ _⟩,
    fun _ => ⟨rfl, rfl, rfl, rfl⟩, fun hc => absurd (hpush.symm.trans hc) (by decide)⟩

/-- The state with the status stack popped into MODE1, ASTATx and ASTATy. -/
def State.restored (s : State) (e : StatusEntry) (rest : List StatusEntry) : State :=
  (s.setSeq { s.seq with sts := rest }).setSys { s.sys with
    astatx := s.sys.astatx.hw e.astatx
    astaty := s.sys.astaty.hw e.astaty
    mode1 := s.sys.mode1.hw e.mode1 }

/-- The end of the service of an interrupt that had pushed the status. -/
theorem restored_ends {e : StatusEntry} {rest : List StatusEntry} (h : inService s = some p)
    (hpush : pushesStatus p = true) (hsts : s.seq.sts = e :: rest) : endsService s ((s.restored e rest).unserve p) := by
  have hp := inService_lt h
  unfold endsService
  rw [h]
  exact ⟨rfl, fun q hq _ => ⟨latchOf_cleared hp hq _ _, maskpOf_cleared hp hq _ _, maskOf_cleared hp hq _ _⟩,
    fun hc => absurd (hpush.symm.trans hc) (by decide), fun _ => ⟨e, hsts, rfl, rfl, rfl, rfl⟩⟩

/-- Where the status stack can give back what was pushed, the service of the current interrupt ends. -/
theorem clearInterrupt_of_can (h : canEndService s) :
    ∃ t, clearInterrupt s = .next t ∧ endsService s t ∧ serviceSame s t := by
  cases hs : inService s with
  | none => exact ⟨s, clearInterrupt_none hs, by unfold endsService; rw [hs]; exact ⟨rfl, rfl, rfl⟩, rfl⟩
  | some p =>
    cases hpush : pushesStatus p with
    | false =>
      have hpop : (if pushesStatus p then popStatus s else .next s) = .next s := by rw [hpush]; rfl
      exact ⟨s.unserve p, (clearInterrupt_eq_next hs).mpr ⟨s, hpop, (unserve_eq s p).symm⟩, unserve_ends hs hpush, rfl⟩
    | true =>
      obtain ⟨hne, hlost⟩ := h p hs hpush
      obtain ⟨e, rest, hsts⟩ := List.exists_cons_of_ne_nil hne
      have hpop : (if pushesStatus p then popStatus s else .next s) = .next (s.restored e rest) := by
        rw [hpush]
        exact popStatus_eq_next.mpr ⟨hlost, e, rest, hsts, rfl⟩
      have hsame : serviceSame s (s.restored e rest) := rfl
      exact ⟨(s.restored e rest).unserve p, (clearInterrupt_eq_next hs).mpr ⟨_, hpop, (unserve_eq _ p).symm⟩,
        restored_ends hs hpush hsts, hsame.trans rfl⟩

end Sys2Proof.Machine
end

section
/-! Jumps, calls, returns and DO UNTIL (O43 to O46): what a branch instruction does beside its compute, which leaves the stacks
and what of STKYx tells of their overflow. -/

namespace Sys2Proof.Machine

open Sys2Proof.Safety

variable {s t v : State}

/-! ## What a compute leaves for the branch -/

/-- `v` is `s` after a compute: the units differ, and of the flags of the stacks none. -/
structure Computed (s v : State) : Prop where
  units : onlyUnits s v
  flags : StackFlags s v

theorem doCompute_computed {c : Compute} (h : c.wellFormed = true) (s : State) (g : Gates) :
    ∃ v, doCompute s g c s = .next v ∧ Computed s v :=
  ⟨_, doCompute_wellFormed h s g s,
    ⟨doCompute_units s g c s _ (doCompute_wellFormed h s g s), doCompute_stackFlags s g c s _ (doCompute_wellFormed h s g s)⟩⟩

namespace Computed

theorem seq (h : Computed s v) : v.seq = s.seq := by rw [h.units]

theorem loopLost (h : Computed s v) : loopLost v = loopLost s := h.flags 25 (by decide)

theorem pcHas {d : Nat} (h : Computed s v) (hp : pcHas s d) : pcHas v d := by
  unfold Safety.pcHas
  rw [h.seq]
  exact hp

theorem pcEntryAt (h : Computed s v) (d : Nat) : pcEntryAt v d = pcEntryAt s d := pcEntryAt_congr (by rw [h.seq]) d

theorem inService (h : Computed s v) : inService v = inService s := by rw [h.units]; rfl

/-- What the status stack can give back before the compute it can give back after it. -/
theorem canEndService (h : Computed s v) (hc : canEndService s) : canEndService v := by
  intro p hp hpush
  rw [h.inService] at hp
  rw [h.seq, h.flags 23 (by decide)]
  exact hc p hp hpush

end Computed

/-! ## Targets and return addresses -/

theorem relTarget_addr24 (s : State) (rel : Addr24) : relTarget s rel = s.seq.pc + rel := by
  unfold relTarget
  rw [BitVec.signExtend_eq]

theorem indTarget_eq (s : State) (pmi pmm : DagNum) :
    indTarget s pmi pmm = .ofNat 24 (s.ireg (dagReg true pmi) + s.mreg (dagReg true pmm)).toNat := by
  unfold indTarget
  rw [BitVec.ofNat_toNat]

theorem returnAddress_of_isReturn {j : Bool} {k : Nat} {ret : Addr24} (h : isReturn s j k ret) :
    returnAddress s j k = .next ret := by
  obtain ⟨hnext, hisa, hvisa⟩ := h
  unfold returnAddress
  cases j with
  | false => rw [hnext rfl]; rfl
  | true =>
    rw [if_pos rfl]
    unfold afterSlots
    dsimp only
    cases hv : isVisa s.seq.pc with
    | false => rw [hisa rfl hv]; rfl
    | true =>
      obtain ⟨i1, l1, i2, l2, h1, h2, rfl⟩ := hvisa rfl hv
      rw [if_pos rfl, h1, Res.bind_next]
      dsimp only
      rw [h2, Res.bind_next]

/-! ## Stacks pushed and popped -/

/-- The state with `entry` pushed above the `d` entries of the PC stack. -/
def pcPushed (s : State) (d : Nat) (h : d < 30) (entry : BitVec 26) : State :=
  (s.setSeq { s.seq with pcstack := s.seq.pcstack.set d entry, pcstkp := s.seq.pcstkp.now (.ofNat 5 (d + 1)) }).setScratch
    { s.scratch with events := s.scratch.events ||| if 29 ≤ d + 1 then 8 else 0 }

theorem pushPc_of_has {d : Nat} (entry : BitVec 26) (hp : pcHas s d) (h : d < 30) :
    pushPc entry s = .next (pcPushed s d h entry) := by
  refine pushPc_eq_next.mpr ⟨d, pcDepth_of_has hp, ?_⟩
  rw [dif_pos h, bumpPc_eq]
  unfold pcPushed
  by_cases h29 : 29 ≤ d + 1
  · rw [if_pos h29, if_pos h29]; rfl
  · have hnone : s.scratch.events ||| (0 : BitVec 42) = s.scratch.events := BitVec.or_zero
    rw [if_neg h29, if_neg h29, hnone]; rfl

theorem pcHas_ofNat {l : Latent 5} {d : Nat} (hd : d ≤ 30) (h : t.seq.pcstkp = l.now (.ofNat 5 d)) : pcHas t d := by
  unfold pcHas
  rw [h, Latent.now_val, Latent.now_eff, BitVec.toNat_ofNat]
  exact ⟨rfl, Nat.mod_eq_of_lt (by omega), hd⟩

theorem pushedPc_of {l : Latent 5} {d : Nat} {entry : BitVec 26} (h : d < 30)
    (hstack : t.seq.pcstack = s.seq.pcstack.set d entry) (hptr : t.seq.pcstkp = l.now (.ofNat 5 (d + 1))) :
    pushedPc s t d entry := by
  refine ⟨pcHas_ofNat h hptr, ?_, fun k hk => ?_⟩
  · unfold pcEntryAt
    rw [dif_pos ⟨Nat.succ_pos d, h⟩]
    simp [hstack]
  · unfold pcEntryAt
    split
    · next hk30 => simp [hstack, Vector.getElem_set_ne, show d ≠ k - 1 by omega]
    · rfl

theorem poppedPc_of {l : Latent 5} {d : Nat} (h : pcHas s d) (hstack : t.seq.pcstack = s.seq.pcstack)
    (hptr : t.seq.pcstkp = l.now (.ofNat 5 (d - 1))) : poppedPc s t d :=
  ⟨pcHas_ofNat (Nat.le_trans (Nat.sub_le d 1) h.2.2) hptr, hstack⟩

/-- A loop aborted: the loop stacks and the PC stack popped, and NOT LCE brought up to date. -/
theorem abortLoop_of {d : Nat} (h0 : 0 < s.seq.ld) (hl : loopLost s = false) (hp : pcHas s d) (hd : 0 < d) :
    abortLoop s = .next (loopPopped s d).syncLce := popBoth_next _ h0 hl hp hd

/-! ## Branch instructions -/

section Branch

variable {cond : Cond} {e : Bool} {c : Compute} {f : Bool → State → Res State}

/-- A branch that is not taken leaves what its compute left, and may count as aborted. -/
theorem branchWith_skip (hv : doCompute s (elseGates (gates s true cond) e) c s = .next v)
    (hboth : (gates s true cond).both = false) (hf : f false v = .next v) :
    branchWith cond e c f s =
      .next (v.setScratch { v.scratch with aborted := e || !(gates s true cond).any || c == .none }) := by
  unfold branchWith
  dsimp only
  rw [hv, Res.bind_next, hboth, hf, Res.map_next]
  unfold noteBranch
  have hnot : (!false && !(!e && (gates s true cond).any && c != .none)) =
      (e || !(gates s true cond).any || c == .none) := by
    cases e <;> simp [bne]
  rw [hnot]

/-- A branch that is taken asks for its target, in the state that its stack operations left. -/
theorem branchWith_take {u : State} {j : Bool} {target : Addr24}
    (hv : doCompute s (elseGates (gates s true cond) e) c s = .next v) (hboth : (gates s true cond).both = true)
    (hf : f true v = .next (goTo j target u)) : ∃ t, branchWith cond e c f s = .next t ∧ asks u t j target := by
  refine ⟨_, ?_, (rfl : asks u _ j target)⟩
  unfold branchWith
  dsimp only
  rw [hv, Res.bind_next, hboth, hf, Res.map_next]
  cases j <;> rfl

end Branch

end Sys2Proof.Machine
end

section
/-! Jumps (O43): a jump not taken, a plain one, a loop abort, and the end of an interrupt's service. -/

namespace Sys2Proof.Machine

open Sys2Proof.Safety

variable {s v : State}

/-- A jump with neither (LA) nor (CI). -/
theorem jump_plain (j : Bool) (target : Addr24) (v : State) :
    jump true false j false target v = .next (goTo j target v) := rfl

/-- The state that the stack pops of (LA), where it stands, leave to the rest of the jump. -/
def afterAbort (a : Bool) (v : State) (k : Nat) : State := if a then (loopPopped v k).syncLce else v

/-- What (LA) asks for, where it stands. -/
def canAbort (a : Bool) (s : State) (k : Nat) : Prop :=
  a = true → pcHas s k ∧ 0 < k ∧ 0 < s.seq.ld ∧ loopLost s = false

theorem Computed.canAbort {a : Bool} {k : Nat} (h : Computed s v) (hc : canAbort a s k) : canAbort a v k := fun ha => by
  obtain ⟨hp, hk, hld, hl⟩ := hc ha
  exact ⟨h.pcHas hp, hk, by rw [h.seq]; exact hld, h.loopLost.trans hl⟩

theorem abort_of_can {a : Bool} {k : Nat} (h : canAbort a v k) :
    (if a then abortLoop v else .next v) = .next (afterAbort a v k) := by
  cases a with
  | false => rfl
  | true =>
    obtain ⟨hp, hk, hld, hl⟩ := h rfl
    exact abortLoop_of hld hl hp hk

/-- A jump without (CI). -/
theorem jump_abort {a : Bool} {k : Nat} (j : Bool) (target : Addr24) (h : canAbort a v k) :
    jump true a j false target v = .next (goTo j target (afterAbort a v k)) := by
  unfold jump
  rw [if_pos rfl, abort_of_can h]
  rfl

/-- A jump with (CI), the service it ends by `clearInterrupt_of_can`. -/
theorem jump_service {a : Bool} {k : Nat} {u : State} (j : Bool) (target : Addr24) (h : canAbort a v k)
    (hu : clearInterrupt (afterAbort a v k) = .next u) : jump true a j true target v = .next (goTo j target u) := by
  unfold jump
  rw [if_pos rfl, abort_of_can h, Res.bind_next, if_pos rfl, hu]
  rfl

/-! ## Type 10 -/

/-- With both gates closed an access of a data register is not made. -/
theorem access_closed {g : Gates} (hx : g.cx = false) (hy : g.cy = false) (s : State) (x : Transfer) (write : Bool)
    (n : RegNum) (t : State) : access s g x write (.r n) t = .next t := by
  cases write with
  | true =>
    show storeUReg s g x (.r n) t = _
    simp [storeUReg, UReg.complement, storeData, accessStore, implicitly, Gates.any, hx, hy]
  | false =>
    show loadTransfer s g x (.r n) t = _
    simp [loadTransfer, UReg.complement, implicitly, hx, hy]

/-- A jump of type 10 that is taken does nothing beside it. -/
theorem jumpElseMove_take {cond : Cond} {c : Compute} (hc : c.wellFormed = true)
    (hboth : (gates s true cond).both = true) (d : Bool) (dmi dmm : DagNum) (target : Addr24) (n : RegNum) :
    ∃ t, jumpElseMove d dmi dmm cond target n c s = .next t ∧ asks s t false target := by
  have hg : (gates s true cond).cx = true ∧ (gates s true cond).cy = true := by
    simpa [Gates.both] using hboth
  have hx : (gates s true cond).negate.cx = false := by simp [Gates.negate, hg.1]
  have hy : (gates s true cond).negate.cy = false := by simp [Gates.negate, hg.2]
  have hany : (gates s true cond).negate.any = false := by simp [Gates.any, hx, hy]
  refine ⟨_, ?_, (rfl : asks s _ false target)⟩
  unfold jumpElseMove
  dsimp only
  rw [doCompute_wellFormed hc, onElems_closed hany, Res.bind_next, access_closed hx hy, Res.bind_next, hboth, hany]
  rfl

/-- One that is not taken counts as aborted, whatever its compute and its move do. -/
theorem jumpElseMove_aborted {cond : Cond} {c : Compute} {t : State} {d : Bool} {dmi dmm : DagNum} {target : Addr24}
    {n : RegNum} (hboth : (gates s true cond).both = false)
    (h : jumpElseMove d dmi dmm cond target n c s = .next t) : t.scratch.aborted = true := by
  unfold jumpElseMove at h
  dsimp only at h
  obtain ⟨_, -, h⟩ := Res.bind_eq_next.mp h
  obtain ⟨_, -, h⟩ := Res.bind_eq_next.mp h
  obtain ⟨w, -, rfl⟩ := Res.map_eq_next.mp h
  rw [hboth]
  rfl

/-- Settles O43: each form is `branchWith` of a `jump`, or `jumpElseMove`; the four outcomes of a jump by the lemmas
above. -/
theorem jumps : Obligations.Jumps := by
  unfold Obligations.Jumps
  intro s a j e ci cond c addr rel pmi pmm dmi dmm d n hc g near ind
  constructor
  · have hforms : ∀ p ∈ ([(Instr.jumpDirect8a a cond j ci addr, false, .none, addr),
        (.jumpRel8a a cond j ci addr, false, .none, s.seq.pc + addr), (.jumpInd9a a cond pmi pmm j e ci c, e, c, ind),
        (.jumpRel9a a cond rel j e ci c, e, c, near), (.jumpInd9b a cond pmi pmm j ci, false, .none, ind),
        (.jumpRel9b a cond rel j ci, false, .none, near)] : List (Instr × Bool × Compute × Addr24)),
        exec p.1 s = branchWith cond p.2.1 p.2.2.1 (fun take => jump take a j ci p.2.2.2) s ∧
          p.2.2.1.wellFormed = true := by
      simp only [List.forall_mem_cons, List.not_mem_nil, IsEmpty.forall_iff, implies_true, and_true]
      refine ⟨⟨rfl, rfl⟩, ⟨?_, rfl⟩, ⟨?_, hc⟩, ⟨rfl, hc⟩, ⟨?_, rfl⟩, rfl, rfl⟩
      · rw [← relTarget_addr24]; rfl
      · show exec _ s = branchWith cond e c (fun take => jump take a j ci (.ofNat 24 _)) s
        rw [← indTarget_eq]; rfl
      · show exec _ s = branchWith cond false .none (fun take => jump take a j ci (.ofNat 24 _)) s
        rw [← indTarget_eq]; rfl
    intro p hp
    obtain ⟨hexec, hcp⟩ := hforms p hp
    obtain ⟨v, hv, hcomp⟩ := doCompute_computed hcp s (if p.2.1 then g.negate else g)
    have hseq := hcomp.seq
    unfold gives
    rw [hexec]
    refine ⟨v, hv, fun hno => ?_, fun hyes ha hci => ?_, fun hyes ha hci k hk h0 hld hl => ?_,
      fun hyes hci hcan hla => ?_⟩
    · exact ⟨_, branchWith_skip hv hno rfl, rfl⟩
    · subst ha hci
      exact branchWith_take hv hyes (jump_plain j p.2.2.2 v)
    · subst ha hci
      have hjump := jump_abort j p.2.2.2 (hcomp.canAbort (a := true) fun _ => ⟨hk, h0, hld, hl⟩)
      obtain ⟨t, ht, hasks⟩ := branchWith_take (f := fun take => jump take true j false p.2.2.2) hv hyes hjump
      have hptr : t.seq.pcstkp = v.seq.pcstkp.now (.ofNat 5 (k - 1)) := by rw [hasks]; rfl
      have hstack : t.seq.pcstack = s.seq.pcstack := by rw [← hseq, hasks]; rfl
      refine ⟨t, ht, poppedPc_of hk hstack hptr, ?_⟩
      rw [hptr, ← hseq]
      exact hasks
    · subst hci
      have hk : ∃ k, canAbort a s k := by
        cases a with
        | false => exact ⟨0, fun h => absurd h (by decide)⟩
        | true =>
          obtain ⟨k, hk⟩ := hla rfl
          exact ⟨k, fun _ => hk⟩
      obtain ⟨k, hk⟩ := hk
      have hcanv : canEndService (afterAbort a v k) := by
        cases a <;> exact hcomp.canEndService hcan
      obtain ⟨u, hu, hends, hsame⟩ := clearInterrupt_of_can hcanv
      have hjump := jump_service j p.2.2.2 (hcomp.canAbort hk) hu
      obtain ⟨t, ht, hasks⟩ := branchWith_take (f := fun take => jump take a j true p.2.2.2) hv hyes hjump
      refine ⟨t, ht, ?_, fun k' ha hk' => ?_, ?_⟩
      · rw [hasks]
        cases a <;> exact hends
      · subst ha
        have hkk : k' = k := hk'.2.1.symm.trans (hk rfl).1.2.1
        have hptr : t.seq.pcstkp = v.seq.pcstkp.now (.ofNat 5 (k - 1)) := by rw [hasks, hsame]; rfl
        have hstack : t.seq.pcstack = s.seq.pcstack := by rw [← hseq, hasks, hsame]; rfl
        rw [hkk]
        exact poppedPc_of (hk rfl).1 hstack hptr
      · rw [← hseq, hasks, hsame]
        cases a <;> rfl
  · have hforms : ∀ p ∈ ([(Instr.jumpInd10a d dmi dmm cond pmi pmm n c, ind), (.jumpRel10a d dmi dmm cond rel n c, near)] :
        List (Instr × Addr24)), exec p.1 s = jumpElseMove d dmi dmm cond p.2 n c s := by
      simp only [List.forall_mem_cons, List.not_mem_nil, IsEmpty.forall_iff, implies_true, and_true]
      refine ⟨?_, rfl⟩
      show exec _ s = jumpElseMove d dmi dmm cond (.ofNat 24 _) n c s
      rw [← indTarget_eq]; rfl
    intro p hp
    unfold gives
    rw [hforms p hp]
    exact ⟨fun hyes => jumpElseMove_take hc hyes d dmi dmm p.2 n, fun hno t ht => jumpElseMove_aborted hno ht⟩

end Sys2Proof.Machine
end

section
/-! Calls, returns and DO UNTIL (O44 to O46). -/

namespace Sys2Proof.Machine

open Sys2Proof.Safety

variable {s t v : State}

/-! ## Calls -/

/-- Bit 25 of the entry tells of a loop found to end in this step or in the one before. -/
theorem loopEnding_eq (s : State) : loopEnding s = (s.scratch.loopEnded ||
    (match s.seq.exiting with
    | some x => decide (x.top.toNat ≤ s.seq.pc.toNat ∧ s.seq.pc.toNat ≤ x.last.toNat ∧ x.left = 2)
    | none => false)) := by
  unfold loopEnding leavingAt
  cases s.seq.exiting with
  | none => rfl
  | some x =>
    by_cases h : x.top.toNat ≤ s.seq.pc.toNat ∧ s.seq.pc.toNat ≤ x.last.toNat
    · by_cases h2 : x.left = 2 <;> simp [h, h2]
    · have hno : ¬ (x.top.toNat ≤ s.seq.pc.toNat ∧ s.seq.pc.toNat ≤ x.last.toNat ∧ x.left = 2) :=
        fun hc => h ⟨hc.1, hc.2.1⟩
      simp only [if_neg h, decide_eq_false hno]

/-- A call that is taken pushes its return address under the call bit and asks for its target. -/
theorem call_take {d k : Nat} {j : Bool} {ret target : Addr24} (hp : pcHas v d) (hd : d < 30) (hr : isReturn s j k ret) :
    call s true j k target v = .next (goTo j target (pcPushed v d hd (pcEntry ret true (loopEnding s)))) := by
  unfold call
  rw [if_pos rfl, returnAddress_of_isReturn hr, Res.bind_next, pushPc_of_has _ hp hd, Res.map_next]

/-- Settles O44: each form is `branchWith` of a `call` of three or of two short words. -/
theorem calls : Obligations.Calls := by
  unfold Obligations.Calls
  intro s a j e ci cond c addr rel pmi pmm d ret ret2 hc g near ind ending hp hd hret hret2
  have hforms : ∀ p ∈ ([(Instr.callDirect8a a cond j ci addr, false, .none, addr, ret),
      (.callRel8a a cond j ci addr, false, .none, s.seq.pc + addr, ret),
      (.callInd9a a cond pmi pmm j e ci c, e, c, ind, ret), (.callRel9a a cond rel j e ci c, e, c, near, ret),
      (.callInd9b a cond pmi pmm j ci, false, .none, ind, ret2),
      (.callRel9b a cond rel j ci, false, .none, near, ret2)] : List (Instr × Bool × Compute × Addr24 × Addr24)),
      ∃ k, exec p.1 s = branchWith cond p.2.1 p.2.2.1 (fun take => call s take j k p.2.2.2.1) s ∧
        p.2.2.1.wellFormed = true ∧ isReturn s j k p.2.2.2.2 := by
    simp only [List.forall_mem_cons, List.not_mem_nil, IsEmpty.forall_iff, implies_true, and_true]
    refine ⟨⟨3, rfl, rfl, hret⟩, ⟨3, ?_, rfl, hret⟩, ⟨3, ?_, hc, hret⟩, ⟨3, rfl, hc, hret⟩, ⟨2, ?_, rfl, hret2⟩,
      2, rfl, rfl, hret2⟩
    · rw [← relTarget_addr24]; rfl
    · show exec _ s = branchWith cond e c (fun take => call s take j 3 (.ofNat 24 _)) s
      rw [← indTarget_eq]; rfl
    · show exec _ s = branchWith cond false .none (fun take => call s take j 2 (.ofNat 24 _)) s
      rw [← indTarget_eq]; rfl
  intro p hmem
  obtain ⟨k, hexec, hcp, hr⟩ := hforms p hmem
  obtain ⟨v, hv, hcomp⟩ := doCompute_computed hcp s (if p.2.1 then g.negate else g)
  have hseq := hcomp.seq
  unfold gives
  rw [hexec]
  refine ⟨v, hv, fun hno => ⟨_, branchWith_skip hv hno rfl, rfl⟩, fun hyes => ?_⟩
  have hcall := call_take (target := p.2.2.2.1) (hcomp.pcHas hp) hd hr
  obtain ⟨t, ht, hasks⟩ := branchWith_take (f := fun take => call s take j k p.2.2.2.1) hv hyes hcall
  have hentry : pcEntry p.2.2.2.2 true (loopEnding s) = BitVec.ofBool ending ++ 1#1 ++ p.2.2.2.2 := by
    rw [loopEnding_eq]; rfl
  have hstack : t.seq.pcstack = s.seq.pcstack.set d (BitVec.ofBool ending ++ 1#1 ++ p.2.2.2.2) := by
    rw [← hseq, ← hentry, hasks]; rfl
  have hptr : t.seq.pcstkp = v.seq.pcstkp.now (.ofNat 5 (d + 1)) := by rw [hasks]; rfl
  refine ⟨t, ht, pushedPc_of hd hstack hptr, ?_⟩
  rw [hstack, hptr, ← hentry, ← hseq]
  exact hasks

/-! ## Returns -/

theorem doRts_take {d : Nat} {j : Bool} (hp : pcHas v d) (hd : 0 < d) :
    doRts true j v = .next (goTo j ((pcEntryAt v d).setWidth 24) (v.setDepth (d - 1))) := by
  unfold doRts
  rw [if_pos rfl, popPc_of_has hp hd, Res.map_next]

theorem doRti_take {d : Nat} {j : Bool} {u : State} (hu : clearInterrupt v = .next u) (hp : pcHas u d) (hd : 0 < d) :
    doRti true j v = .next (goTo j ((pcEntryAt u d).setWidth 24) (u.setDepth (d - 1))) := by
  have hret := returnFromInterrupt_eq_next.mpr ⟨u, _, hu, popPc_of_has hp hd, rfl⟩
  unfold doRti
  rw [if_pos rfl, hret, Res.map_next]

/-- Settles O45: RTS by the pop of the PC stack, RTI by the end of the service (`clearInterrupt_of_can`) before it. -/
theorem returns : Obligations.Returns := by
  unfold Obligations.Returns
  intro s j e lr cond c d hc g back hp hd
  constructor
  · have hforms : ∀ p ∈ ([(Instr.rts11a cond j e lr c, e, c), (.rts11c cond j lr, false, .none)] :
        List (Instr × Bool × Compute)),
        exec p.1 s = branchWith cond p.2.1 p.2.2 (fun take => doRts take j) s ∧ p.2.2.wellFormed = true := by
      simp only [List.forall_mem_cons, List.not_mem_nil, IsEmpty.forall_iff, implies_true, and_true]
      exact ⟨⟨rfl, hc⟩, rfl, rfl⟩
    intro p hmem
    obtain ⟨hexec, hcp⟩ := hforms p hmem
    obtain ⟨v, hv, hcomp⟩ := doCompute_computed hcp s (if p.2.1 then g.negate else g)
    have hseq := hcomp.seq
    unfold gives
    rw [hexec]
    refine ⟨v, hv, fun hno => ⟨_, branchWith_skip hv hno rfl, rfl⟩, fun hyes => ?_⟩
    obtain ⟨t, ht, hasks⟩ := branchWith_take (f := fun take => doRts take j) hv hyes (doRts_take (hcomp.pcHas hp) hd)
    have hptr : t.seq.pcstkp = v.seq.pcstkp.now (.ofNat 5 (d - 1)) := by rw [hasks]; rfl
    have hstack : t.seq.pcstack = s.seq.pcstack := by rw [← hseq, hasks]; rfl
    refine ⟨t, ht, poppedPc_of hp hstack hptr, ?_⟩
    rw [hcomp.pcEntryAt] at hasks
    rw [hptr, ← hseq]
    exact hasks
  · have hforms : ∀ p ∈ ([(Instr.rti11a cond j e c, e, c), (.rti11c cond j, false, .none)] :
        List (Instr × Bool × Compute)),
        exec p.1 s = branchWith cond p.2.1 p.2.2 (fun take => doRti take j) s ∧ p.2.2.wellFormed = true := by
      simp only [List.forall_mem_cons, List.not_mem_nil, IsEmpty.forall_iff, implies_true, and_true]
      exact ⟨⟨rfl, hc⟩, rfl, rfl⟩
    intro p hmem
    obtain ⟨hexec, hcp⟩ := hforms p hmem
    obtain ⟨v, hv, hcomp⟩ := doCompute_computed hcp s (if p.2.1 then g.negate else g)
    have hseq := hcomp.seq
    unfold gives
    rw [hexec]
    refine ⟨v, hv, fun hno => ⟨_, branchWith_skip hv hno rfl, rfl⟩, fun hyes hcan => ?_⟩
    obtain ⟨u, hu, hends, hsame⟩ := clearInterrupt_of_can (hcomp.canEndService hcan)
    have hpu : pcHas u d := by rw [hsame]; exact hcomp.pcHas hp
    have hback : (pcEntryAt u d).setWidth 24 = back := by
      rw [pcEntryAt_congr (s := v) (by rw [hsame]), hcomp.pcEntryAt]; rfl
    obtain ⟨t, ht, hasks⟩ := branchWith_take (f := fun take => doRti take j) hv hyes (doRti_take hu hpu hd)
    rw [hback] at hasks
    have hptr : t.seq.pcstkp = v.seq.pcstkp.now (.ofNat 5 (d - 1)) := by rw [hasks, hsame]; rfl
    have hstack : t.seq.pcstack = s.seq.pcstack := by rw [← hseq, hasks, hsame]; rfl
    refine ⟨t, ht, poppedPc_of hp hstack hptr, ?_, ?_⟩
    · rw [hasks]
      exact hends
    · rw [hasks, hsame]
      rfl

/-! ## DO UNTIL -/

/-- The state with an entry pushed on the loop stacks. -/
def loopPushed (s : State) (h : s.seq.ld < 6) (laddr count : Word) : State :=
  s.setSeq { s.seq with
    ld := s.seq.ld + 1
    tested := s.seq.tested.set s.seq.ld false
    loopaddr := s.seq.loopaddr.set s.seq.ld laddr
    loopcnt := s.seq.loopcnt.set s.seq.ld count }

theorem pushLoop_of (laddr count : Word) (hl : loopLost s = false) (h : s.seq.ld < 6) :
    pushLoop laddr count s = .next (loopPushed s h laddr count) := by
  refine pushLoop_eq_next.mpr ⟨hl, ?_⟩
  rw [if_pos h]
  have hle : s.seq.ld + 1 ≤ 6 := h
  simp [State.setTested, State.setLaddr, State.setCurlcntr, hle, loopPushed]
  rfl

/-- The number of instructions of a loop body, from its first and its last address. -/
theorem bodyLength_eq {top last : Addr24} (h : top.toNat ≤ last.toNat) :
    bodyLength top last = (last.toNat - top.toNat) / (if isVisa top then 3 else 1) + 1 := by
  have hsub : (last - top).toNat = last.toNat - top.toNat := BitVec.toNat_sub_of_le h
  unfold bodyLength
  rw [hsub]
  cases isVisa top <;> simp

/-- The entry of the loop address stack that DO UNTIL pushes at the PC. -/
def doEntry (s : State) (rel : Addr24) (term : Term) : Word :=
  loopType (term == .lce) (bodyLength (s.seq.pc + lengthAt s.seq.pc 3) (s.seq.pc + rel)) ++
    BitVec.ofNat 5 term.code ++ (s.seq.pc + rel)

theorem doLoop_of {d : Nat} {rel : Addr24} (term : Term) (count : Word) (hp : pcHas s d) (hd : d < 30)
    (hl : loopLost s = false) (h : s.seq.ld < 6)
    (htop : (s.seq.pc + lengthAt s.seq.pc 3).toNat ≤ (s.seq.pc + rel).toNat) :
    doLoop rel term count s = .next
      (loopPushed (pcPushed s d hd (0#2 ++ (s.seq.pc + lengthAt s.seq.pc 3))) h (doEntry s rel term) count).syncLce := by
  have hentry : pcEntry (s.seq.pc + lengthAt s.seq.pc 3) false false = 0#2 ++ (s.seq.pc + lengthAt s.seq.pc 3) := rfl
  unfold doLoop
  dsimp only
  rw [if_neg (by omega), hentry, pushPc_of_has _ hp hd, Res.bind_next]
  have hpush := pushLoop_of (s := pcPushed s d hd (0#2 ++ (s.seq.pc + lengthAt s.seq.pc 3))) (doEntry s rel term) count hl h
  unfold doEntry at hpush ⊢
  rw [hpush, Res.map_next]

/-! ### The entry of the loop stacks -/

theorem loopEntry_term (ty : BitVec 3) (code : BitVec 5) (last : Addr24) :
    (ty ++ code ++ last).extractLsb' 24 5 = code :=
  (BitVec.extractLsb'_append_eq_of_le (by decide)).trans BitVec.extractLsb'_append_eq_right

theorem loopEntry_type (ty : BitVec 3) (code : BitVec 5) (last : Addr24) :
    (ty ++ code ++ last).extractLsb' 29 3 = ty :=
  (BitVec.extractLsb'_append_eq_of_le (by decide)).trans BitVec.extractLsb'_append_eq_left

section Pushed

variable {h : s.seq.ld < 6} {laddr count : Word}

theorem loopPushed_laddr : (loopPushed s h laddr count).syncLce.laddr = laddr := by
  have hle : s.seq.ld + 1 ≤ 6 := h
  simp [State.laddr, State.syncLce, loopPushed, hle]

theorem loopPushed_curlcntr : (loopPushed s h laddr count).syncLce.curlcntr = count := by
  have hle : s.seq.ld + 1 ≤ 6 := h
  simp [State.curlcntr, State.syncLce, loopPushed, hle]

theorem loopPushed_tested : (loopPushed s h laddr count).syncLce.loopTested = false := by
  have hle : s.seq.ld + 1 ≤ 6 := h
  simp [State.loopTested, State.syncLce, loopPushed, hle]

/-- The entries below stay. -/
theorem loopPushed_below (k : Fin 6) (hk : k.val < s.seq.ld) :
    (loopPushed s h laddr count).seq.loopaddr[k] = s.seq.loopaddr[k] ∧
      (loopPushed s h laddr count).seq.loopcnt[k] = s.seq.loopcnt[k] := by
  have hne : s.seq.ld ≠ k.val := by omega
  simp [loopPushed, Vector.getElem_set_ne, hne]

end Pushed

/-- The type of a loop by the number of instructions of its body (10_state.md R48). -/
theorem loopType_eq (term : Term) (k : Nat) :
    loopType (term == .lce) k =
      (if term = .lce then (if k = 1 then 2 else if k = 2 then 4 else if k = 3 then 6 else 7)
        else if k = 1 then 1 else 0) := by
  by_cases h : term = .lce <;> simp [loopType, h]

/-- Settles O46: each form loads LCNTR, or leaves it, and then pushes the three stacks (`doLoop_of`). -/
theorem doUntil : Obligations.DoUntil := by
  unfold Obligations.DoUntil
  intro s rel data u v term d last top k hp hd hl hld htop hu
  have hforms : ∀ p ∈ ([(Instr.doImm12a data rel, .lce, data.setWidth 32, data.setWidth 32), (.doUreg12a u rel, .lce, v, v),
      (.doUntil13a term rel, term, s.seq.lcntr, s.seq.lcntr)] : List (Instr × Term × Word × Word)),
      exec p.1 s = doLoop rel p.2.1 p.2.2.1 (s.setSeq { s.seq with lcntr := p.2.2.2 }) := by
    have hload (w : Word) : writeUReg .lcntr w s = .next (s.setSeq { s.seq with lcntr := w }) := by
      show Host.Outcome.next (if s.seq.ld = 6 then s else _) = _
      rw [if_neg (by omega)]
    simp only [List.forall_mem_cons, List.not_mem_nil, IsEmpty.forall_iff, implies_true, and_true]
    refine ⟨?_, ?_, rfl⟩
    · show execDoImm12a data rel s = _
      unfold execDoImm12a
      rw [hload, Res.bind_next]
    · show execDoUreg12a u rel s = _
      unfold execDoUreg12a
      rw [hu, Res.bind_next, hload, Res.bind_next]
  intro p hmem
  unfold gives
  rw [hforms p hmem]
  have hdo := doLoop_of (s := s.setSeq { s.seq with lcntr := p.2.2.2 }) p.2.1 p.2.2.1 hp hd hl hld htop
  have hladdr := loopPushed_laddr (s := pcPushed (s.setSeq { s.seq with lcntr := p.2.2.2 }) d hd (0#2 ++ top)) (h := hld)
    (laddr := doEntry s rel p.2.1) (count := p.2.2.1)
  refine ⟨_, hdo, pushedPc_of hd rfl rfl, rfl, rfl, loopPushed_curlcntr, ?_, ?_, ?_, loopPushed_tested,
    fun k hk => loopPushed_below k hk, rfl⟩
  · exact (congrArg (BitVec.extractLsb' 0 24) hladdr).trans BitVec.extractLsb'_append_eq_right
  · have hterm := (congrArg (BitVec.extractLsb' 24 5) hladdr).trans (loopEntry_term _ _ _)
    refine (congrArg (fun x : BitVec 5 => Term.ofCode x.toNat) hterm).trans ?_
    rw [BitVec.toNat_ofNat, Nat.mod_eq_of_lt (Term.code_lt _), Term.ofCode_code]
  · refine ((congrArg (BitVec.extractLsb' 29 3) hladdr).trans (loopEntry_type _ _ _)).trans ?_
    rw [bodyLength_eq htop, loopType_eq]

end Sys2Proof.Machine
end

section
/-! Index registers: what a write of one leaves, and the post-modify with its wrap in a circular buffer (20_memory.md R182 to
R185). -/

namespace Sys2Proof.Machine

/-! ## DAG registers -/

/-- Of a file of registers a write of one changes that one. -/
theorem RegNum.getElem_set (x : Vector Word 16) (n k : RegNum) (v : Word) :
    (x.set n.toNat v n.isLt)[k.toNat]'k.isLt = if k = n then v else x[k.toNat] := by
  split
  · next h => subst h; simp
  · next h =>
    have hne : n.toNat ≠ k.toNat := fun c => h (BitVec.eq_of_toNat_eq c).symm
    simp [Vector.getElem_set_ne, hne]

/-- A write of the selected set leaves all else. -/
theorem State.setDagOf_eq (s : State) (n : RegNum) (d : Dag) :
    s.setDagOf n d = { s with dag := (s.setDagOf n d).dag, dagAlt := (s.setDagOf n d).dagAlt } := by
  unfold State.setDagOf
  split <;> rfl

@[simp] theorem State.setDagOf_altDag (s : State) (n k : RegNum) (d : Dag) : (s.setDagOf n d).altDag k = s.altDag k := by
  rw [State.setDagOf_eq]
  rfl

@[simp] theorem State.setDagOf_dagOf (s : State) (n : RegNum) (d : Dag) : (s.setDagOf n d).dagOf n = d := by
  unfold State.dagOf
  rw [State.setDagOf_altDag]
  unfold State.setDagOf
  split <;> rfl

theorem State.setI_eq (s : State) (n : RegNum) (v : Word) :
    s.setI n v = { s with dag := (s.setI n v).dag, dagAlt := (s.setI n v).dagAlt } := State.setDagOf_eq _ _ _

@[simp] theorem State.setI_scratch (s : State) (n : RegNum) (v : Word) : (s.setI n v).scratch = s.scratch := by
  rw [State.setI_eq]

@[simp] theorem State.setI_sys (s : State) (n : RegNum) (v : Word) : (s.setI n v).sys = s.sys := by rw [State.setI_eq]

@[simp] theorem State.setI_ireg (s : State) (n : RegNum) (v : Word) : (s.setI n v).ireg n = v := by
  simp [State.setI, State.ireg]

end Sys2Proof.Machine

namespace Sys2Proof.Safety

open Sys2Proof.Machine

variable {s t u : State} {regs : List RegNum}

theorem DagFrame.refl (s : State) (regs : List RegNum) : DagFrame s s regs where
  primary _ := .inr rfl
  alternate _ := .inr rfl
  others := ⟨rfl, rfl, rfl, rfl, rfl, rfl⟩

/-- The frame is about the two sets of DAG registers. -/
theorem DagFrame.congr (h : DagFrame s t regs) (hd : u.dag = t.dag) (ha : u.dagAlt = t.dagAlt) : DagFrame s u regs where
  primary := by simpa only [hd] using h.primary
  alternate := by simpa only [ha] using h.alternate
  others := by simpa only [hd, ha] using h.others

/-- An index register of the frame may be written. -/
theorem DagFrame.setI (h : DagFrame s t regs) {n : RegNum} (hn : n ∈ regs) (ha : t.altDag n = s.altDag n) (v : Word) :
    DagFrame s (t.setI n v) regs := by
  unfold State.setI State.setDagOf State.dagOf
  cases hs : t.altDag n with
  | false =>
    refine ⟨fun k => ?_, h.alternate, h.others⟩
    by_cases hk : k = n
    · exact .inl ⟨hk ▸ hn, by rw [hk, ← ha, hs]⟩
    · simpa [RegNum.getElem_set, hk] using h.primary k
  | true =>
    refine ⟨h.primary, fun k => ?_, h.others⟩
    by_cases hk : k = n
    · exact .inl ⟨hk ▸ hn, by rw [hk, ← ha, hs]⟩
    · simpa [RegNum.getElem_set, hk] using h.alternate k

end Sys2Proof.Safety

namespace Sys2Proof.Machine

open Sys2Proof.Safety

variable {s t : State}

/-! ## Post-modify -/

/-- A wrap is what `circ` says it is, where circular buffers are enabled. -/
theorem wraps_eq (s : State) (a : RegNum) (k : Word) : wraps s a k = (s.mode1 24 && (circReg s a k).2) := by
  unfold wraps circReg circ
  dsimp only
  congr 1
  by_cases h0 : 0 ≤ k.toInt
  · have hneg : ¬ k.toInt < 0 := Int.not_lt.mpr h0
    simp only [h0, hneg, true_and, false_and, if_true, if_false]
    split <;> simp [*]
  · have hneg : k.toInt < 0 := Int.not_le.mp h0
    simp only [h0, hneg, true_and, false_and, if_false]
    split <;> simp [*]

/-- What a wrap notes: the sticky bit of buffer 7 or 15, and the event of its interrupt. -/
theorem noteWrap_eq (a : RegNum) (wrapped : Bool) (t : State) :
    noteWrap a wrapped t =
      (t.stick .x (if wrapped then (if a = 7 then 0x00020000 else if a = 15 then 0x00040000 else 0) else 0)).setScratch
        { t.scratch with events := t.scratch.events |||
            if wrapped then (if a = 7 then 0x40000000 else if a = 15 then 0x80000000 else 0) else 0 } := by
  have nothing : t = (t.stick .x 0).setScratch { t.scratch with events := t.scratch.events ||| 0 } := by
    simp [State.stick, State.setSys, State.setScratch, Latent.hw]
  unfold noteWrap
  cases wrapped
  · exact nothing
  · by_cases h7 : a = 7
    · simp only [h7, and_self, if_true]
      rfl
    · by_cases h15 : a = 15
      · simp only [h15, and_self, if_true]
        rfl
      · simp only [h7, h15, and_false, if_false, if_true]
        exact nothing

/-- A post-modify moves its index register, in a circular buffer where these are enabled, and notes a wrap. -/
theorem postMod_eq (s : State) (a : RegNum) (k : Word) (t : State) :
    postMod s true a k t = ((t.setI a (stepped s a k)).stick .x (wrapSticky s a k)).setScratch
      { t.scratch with events := t.scratch.events ||| wrapEvent s a k } := by
  have hnote : postMod s true a k t = noteWrap a (wraps s a k) (t.setI a (stepped s a k)) := by
    rw [wraps_eq]
    unfold postMod stepped
    cases s.mode1 24 <;> simp [noteWrap]
  rw [hnote, noteWrap_eq, State.setI_scratch]
  rfl

@[simp] theorem postMod_ireg (s : State) (a : RegNum) (k : Word) (t : State) :
    (postMod s true a k t).ireg a = stepped s a k := by
  rw [postMod_eq]
  exact State.setI_ireg t a _

theorem postMod_dagFrame (hd : t.dag = s.dag) (ha : t.dagAlt = s.dagAlt) (hs : t.sys = s.sys) (a : RegNum) (k : Word) :
    DagFrame s (postMod s true a k t) [a] := by
  have halt : t.altDag a = s.altDag a := by unfold State.altDag State.mode1; rw [hs]
  have hset : DagFrame s (t.setI a (stepped s a k)) [a] :=
    ((DagFrame.refl s [a]).congr hd ha).setI (List.mem_singleton.mpr rfl) halt _
  rw [postMod_eq]
  exact hset.congr rfl rfl

end Sys2Proof.Machine
end

section
/-! Stores of immediate data (O34): to one word of memory, in SIMD mode to the next one too, and a post-modify. -/

namespace Sys2Proof.Machine

open Sys2Proof.Safety

variable {s t : State} {addr : Word} {x : Transfer}

/-! ## Words of memory -/

/-- A normal word is accessed by 32 bits. -/
theorem classify_normalWord {k : RegClass} (h : normalWord s addr) (hk : k ≠ .px) (dual : Bool) :
    classify s addr k false dual = .next (.w32 (2 * addr.toNat)) := by
  obtain ⟨hlow, hhigh, hspan, hwidth⟩ := h
  unfold classify
  dsimp only
  rw [if_neg (by omega), if_neg (by omega), if_pos hhigh, if_neg (by decide), if_neg hk, hwidth,
    if_neg (by decide), if_pos hspan]

theorem normalWord_succ (h : normalWord s addr) : (addr + 1).toNat = addr.toNat + 1 := by
  obtain ⟨-, hhigh, -⟩ := h
  rw [BitVec.toNat_add]
  exact Nat.mod_eq_of_lt (Nat.lt_of_le_of_lt (Nat.succ_le_of_lt hhigh) (by decide))

/-- The implicit access beside it is the next word. -/
theorem implicitAccess_normalWord {k : RegClass} (h : normalWord s addr) (h' : normalWord s (addr + 1)) (hk : k ≠ .px) :
    implicitAccess s addr k false = .next (some (.w32 (2 * (addr + 1).toNat))) := by
  have hnext := normalWord_succ h
  obtain ⟨hlow, hhigh, -, hwidth⟩ := h
  obtain ⟨-, -, hspan, -⟩ := h'
  rw [hnext, Nat.mul_succ] at hspan ⊢
  unfold implicitAccess
  dsimp only
  rw [if_neg (by simp [hk]; omega), if_pos hhigh, hwidth, if_neg (by decide), if_pos hspan]

/-- An access of a normal word is legal, and noted for the breakpoint unit and the cache. -/
theorem noteAccess_normalWord (h : normalWord s addr) (pm write : Bool) (t : State) :
    noteAccess s pm write false addr t = t.setScratch { t.scratch with
      accesses := t.scratch.accesses ++ [⟨pm, write, addr⟩]
      pmUsed := t.scratch.pmUsed || pm } := by
  obtain ⟨hlow, -⟩ := h
  unfold noteAccess noteIllegal noteBus
  dsimp only
  rw [if_neg (by omega), if_neg (by simp), if_neg (by omega)]
  rfl

/-! ## The store -/

/-- Memory with the word at `addr`, in SIMD mode the next one too, written with `v`. -/
def wordStored (s : State) (addr v : Word) : List Host.Cell :=
  let m := storeWord (2 * addr.toNat) v s.mem
  if s.simd then storeWord (2 * (addr + 1).toNat) v m else m

theorem State.setScratch_setScratch (s : State) (y z : Scratch) : (s.setScratch y).setScratch z = s.setScratch z := rfl

theorem State.setScratch_setMem (s : State) (y : Scratch) (m : List Host.Cell) :
    (s.setScratch y).setMem m = (s.setMem m).setScratch y := rfl

theorem State.setMem_setMem (s : State) (m m' : List Host.Cell) : (s.setMem m).setMem m' = s.setMem m' := rfl

theorem performStore_word (addr : Word) (c : Nat) (d : StoreData) (t : State) :
    performStore addr (.w32 c) d t = (t.setMem (storeWord c d.low t.mem)).setScratch
      { t.scratch with stored := t.scratch.stored ++ [c, c + 1].filter cellRam } := rfl

/-- An unconditional store of one value to a normal word and, in SIMD mode, the next one: memory, and notes. -/
theorem accessStore_immediate (h : normalWord s x.addr) (hy : s.simd = true → normalWord s (x.addr + 1))
    (hl : x.lw = false) (hc : x.conditional = false) (v : Word) :
    ∃ used cells, accessStore s .open x .dreg (immediateData v) (some (immediateData v)) s =
      .next ((s.setMem (wordStored s x.addr v)).setScratch { s.scratch with
        accesses := s.scratch.accesses ++ [⟨x.pm, true, x.addr⟩]
        pmUsed := used
        stored := cells }) := by
  have hk : RegClass.dreg ≠ .px := by decide
  unfold accessStore wordStored implicitly
  simp only [pairToIop, hc, hl, Bool.and_false, Bool.false_and, Bool.false_eq_true, if_false, Gates.open, if_true,
    classify_normalWord h hk, noteAccess_normalWord h, Res.map_next, Res.bind_next, Bool.and_true]
  cases hs : s.simd with
  | false => exact ⟨_, _, rfl⟩
  | true =>
    rw [if_pos rfl, implicitAccess_normalWord h (hy hs) hk, Res.bind_next]
    simp only [performStore_word, State.setScratch_mem, State.setMem_mem, State.setScratch_scratch, immediateData, if_true,
      notePm, State.setScratch_setScratch, State.setScratch_setMem, State.setMem_setMem]
    exact ⟨_, _, rfl⟩

/-! ## What memory holds -/

theorem wordStored_first (hm : Memory.wf s.mem = true) (hr : ramWord s addr) (v : Word) :
    read32 (wordStored s addr v) (2 * addr.toNat) = v := by
  obtain ⟨hn, h0, h1⟩ := hr
  have hnext := normalWord_succ hn
  have hfirst := read32_storeWord_same v hm h0 h1
  unfold wordStored
  dsimp only
  split
  · rw [read32_storeWord_ne _ (.inl (by omega)), hfirst]
  · exact hfirst

theorem wordStored_second (hm : Memory.wf s.mem = true) (hr : ramWord s (addr + 1)) (hs : s.simd = true) (v : Word) :
    read32 (wordStored s addr v) (2 * (addr + 1).toNat) = v := by
  obtain ⟨-, h0, h1⟩ := hr
  unfold wordStored
  dsimp only
  rw [if_pos hs, read32_storeWord_same v (storeWord_wf _ _ hm) h0 h1]

theorem readByte_wordStored {b : Nat} (hx : ¬ inWord addr b) (hy : ¬ (s.simd = true ∧ inWord (addr + 1) b)) (v : Word) :
    readByte (wordStored s addr v) b = readByte s.mem b := by
  have outside (m : List Host.Cell) {a : Word} (ha : ¬ inWord a b) :
      readByte (storeWord (2 * a.toNat) v m) b = readByte m b := by
    unfold inWord at ha
    exact readByte_storeWord v (.inl (by omega))
  unfold wordStored
  dsimp only
  split
  · next hs => rw [outside _ fun h => hy ⟨hs, h⟩, outside _ hx]
  · exact outside _ hx

/-! ## Type 16 -/

/-- The move of a store of an immediate by instruction `j`. -/
def immediateMove (s : State) (pm : Bool) (i m : DagNum) (j : Instr) : Move :=
  { instr := j, reg := .r 0, write := true, pm := pm, lw := false, gates := .open, after := .next s
    addr := postAddr s (dagReg pm i), index := some (dagReg pm i), step := some (s.mreg (dagReg pm m)) }

/-- What a store of an immediate leaves, of `used` and `cells` as notes for the cache and on modified code. -/
def immediateStored (s : State) (pm : Bool) (i m : DagNum) (v : Word) (used : Bool) (cells : List Nat) : State :=
  postMod s true (dagReg pm i) (s.mreg (dagReg pm m))
    ((s.setMem (wordStored s (postAddr s (dagReg pm i)) v)).setScratch { s.scratch with
      accesses := s.scratch.accesses ++ [⟨pm, true, postAddr s (dagReg pm i)⟩]
      pmUsed := used
      stored := cells })

theorem immediateStored_beside (s : State) (pm : Bool) (i m : DagNum) (v : Word) (used : Bool) (cells : List Nat)
    (j : Instr) : Beside s s (immediateStored s pm i m v used cells) (immediateMove s pm i m j) := by
  have hframe : DagFrame s (immediateStored s pm i m v used cells) [dagReg pm i] := by
    unfold immediateStored
    refine postMod_dagFrame ?_ ?_ ?_ _ _ <;> rfl
  have hreg : (immediateStored s pm i m v used cells).ireg (dagReg pm i) =
      stepped s (dagReg pm i) (s.mreg (dagReg pm m)) := postMod_ireg ..
  unfold immediateStored at hframe hreg ⊢
  rw [postMod_eq, State.setI_eq] at hframe hreg ⊢
  exact
    { rest := rfl
      sticky := rfl
      events := rfl
      accesses := rfl
      notes := ⟨rfl, rfl, rfl, rfl, rfl, rfl⟩
      index := ⟨hframe, hreg⟩ }

/-- A store of an immediate, by the instruction that means it. -/
theorem storeImmediate_gives {i m : DagNum} {pm : Bool} {v : Word} {j : Instr}
    (hj : exec j s = storeImmediate i m pm v s) (hm : Memory.wf s.mem = true) (hx : ramWord s (postAddr s (dagReg pm i)))
    (hy : s.simd = true → ramWord s (postAddr s (dagReg pm i) + 1)) :
    gives j s fun t =>
      Beside s s t (immediateMove s pm i m j) ∧ wordAt t (postAddr s (dagReg pm i)) = v ∧
        (s.simd = true → wordAt t (postAddr s (dagReg pm i) + 1) = v) ∧
        ∀ b, ¬ inWord (postAddr s (dagReg pm i)) b → ¬ (s.simd = true ∧ inWord (postAddr s (dagReg pm i) + 1) b) →
          readByte t.mem b = readByte s.mem b := by
  obtain ⟨used, cells, hstore⟩ := accessStore_immediate
    (x := ⟨pm, postAddr s (dagReg pm i), false, false, false, some (dagReg pm i)⟩) hx.1 (fun hs => (hy hs).1) rfl rfl v
  have hmem : (immediateStored s pm i m v used cells).mem = wordStored s (postAddr s (dagReg pm i)) v := postMod_mem ..
  refine ⟨immediateStored s pm i m v used cells, ?_, immediateStored_beside .., ?_, fun hs => ?_, fun b hb hb' => ?_⟩
  · rw [hj]
    unfold storeImmediate
    dsimp only
    rw [hstore, Res.map_next]
    rfl
  · rw [wordAt, hmem, wordStored_first hm hx]
  · rw [wordAt, hmem, wordStored_second hm (hy hs) hs]
  · rw [hmem, readByte_wordStored hb hb']

/-- Settles O34: both forms are `storeImmediate`, that of 16b with its data sign-extended. -/
theorem immediateStores : Obligations.ImmediateStores := by
  unfold Obligations.ImmediateStores
  intro s i m g data data16 addr hm hx hy
  simp only [immediateMoves, List.zip_cons_cons, List.zip_nil_right, List.forall_mem_cons, List.not_mem_nil,
    IsEmpty.forall_iff, implies_true, and_true]
  exact ⟨storeImmediate_gives rfl hm hx hy, storeImmediate_gives rfl hm hx hy⟩

end Sys2Proof.Machine
end

section
/-! Loads of immediate data (O36): what each universal register holds after one, and its complement in SIMD mode. -/

namespace Sys2Proof.Machine

open Sys2Proof.Safety

variable {s t w : State} {u c : UReg} {v : Word} {f : State → Prop}

/-! ## The load -/

/-- Without a complement the load is the write of the register. -/
theorem loadImmediate_single (hc : u.complement = none) (s : State) (v : Word) (t : State) :
    loadImmediate s u v t = writeUReg u v t := by
  unfold loadImmediate
  rw [hc]
  cases writeUReg u v t <;> cases s.simd <;> rfl

/-- With one it writes both in SIMD mode. -/
theorem loadImmediate_pair (hc : u.complement = some c) (hw : writeUReg u v t = .next w) :
    loadImmediate s u v t = if s.simd then writeUReg c v w else .next w := by
  unfold loadImmediate
  rw [hc, hw]
  rfl

/-- A load of `v` into `u` completes, and `f` holds of the state it leaves. -/
def Loads (s : State) (v : Word) (u : UReg) (f : State → Prop) : Prop := ∃ t, loadImmediate s u v s = .next t ∧ f t

theorem loads_of_write (hc : u.complement = none) (hw : writeUReg u v s = .next w) (hf : f w) : Loads s v u f :=
  ⟨w, (loadImmediate_single hc s v s).trans hw, hf⟩

/-! ## Data registers -/

/-- The complement of a data register is the one of its number in the other element. -/
theorem loads_dreg (s : State) (v : Word) (e : Elem) (n : RegNum) :
    Loads s v (if e = .x then .r n else .s n) fun t => onlyUnits s t ∧
      UnitFrame s t e [n] none false 0 0 ∧ t.reg e n = v.toExt ∧
      UnitFrame s t (if e = .x then .y else .x) (if s.simd then [n] else []) none false 0 0 ∧
      (s.simd = true → t.reg (if e = .x then .y else .x) n = v.toExt) := by
  have hload : loadImmediate s (if e = .x then .r n else .s n) v s =
      .next (if s.simd then (s.setReg e n v.toExt).setReg (if e = .x then .y else .x) n v.toExt
        else s.setReg e n v.toExt) := by
    cases e <;> cases hs : s.simd <;> simp [loadImmediate, writeUReg, UReg.complement, State.setReg32, hs]
  have hne : (if e = .x then Elem.y else .x) ≠ e := by cases e <;> decide
  generalize (if e = .x then Elem.y else .x) = o at *
  have hn : n ∈ [n] := List.mem_singleton.mpr rfl
  have hone : UnitFrame s (s.setReg e n v.toExt) e [n] none false 0 0 := (UnitFrame.refl ..).setReg hn rfl _
  have hother (regs : List RegNum) : UnitFrame s (s.setReg e n v.toExt) o regs none false 0 0 :=
    (UnitFrame.refl ..).congr (State.setReg_pe_ne _ hne _ _) (by simp)
  refine ⟨_, hload, ?_⟩
  cases hs : s.simd with
  | false =>
    exact ⟨(onlyUnits.refl s).setReg e n _, hone, State.setReg_reg .., hother [], nofun⟩
  | true =>
    refine ⟨((onlyUnits.refl s).setReg e n _).setReg o n _, hone.congr (State.setReg_pe_ne _ hne.symm _ _) (by simp), ?_,
      (hother [n]).setReg hn (by simp) _, fun _ => State.setReg_reg ..⟩
    exact (State.setReg_reg_ne _ (fun h => hne h.1.symm) _).trans (State.setReg_reg ..)

/-! ## DAG registers -/

theorem loads_index (s : State) (v : Word) (n : RegNum) :
    Loads s v (.i n) fun t => t = { s with dag := t.dag, dagAlt := t.dagAlt } ∧ DagFrame s t [n] ∧ t.ireg n = v :=
  loads_of_write rfl rfl
    ⟨State.setI_eq s n v, (DagFrame.refl s [n]).setI (List.mem_singleton.mpr rfl) rfl v, State.setI_ireg s n v⟩

/-- The other registers of the selected set: modifier, length and base, which takes the index register along (20_memory.md
R186). -/
theorem loads_dag (s : State) (v : Word) (n : RegNum) :
    (Loads s v (.m n) fun t => t = s.setDagOf n { s.dagOf n with m := (t.dagOf n).m } ∧
      ∀ k : RegNum, (t.dagOf n).m[k.toNat] = if k = n then v else (s.dagOf n).m[k.toNat]) ∧
    (Loads s v (.l n) fun t => t = s.setDagOf n { s.dagOf n with l := (t.dagOf n).l } ∧
      ∀ k : RegNum, (t.dagOf n).l[k.toNat] = if k = n then v else (s.dagOf n).l[k.toNat]) ∧
    (Loads s v (.b n) fun t => t = s.setDagOf n { s.dagOf n with b := (t.dagOf n).b, i := (t.dagOf n).i } ∧
      ∀ k : RegNum, (t.dagOf n).b[k.toNat] = (if k = n then v else (s.dagOf n).b[k.toNat]) ∧
        (t.dagOf n).i[k.toNat] = if k = n then v else (s.dagOf n).i[k.toNat]) := by
  refine ⟨loads_of_write rfl rfl ?_, loads_of_write rfl rfl ?_, loads_of_write rfl rfl ?_⟩
  · unfold State.setM
    rw [State.setDagOf_dagOf]
    exact ⟨rfl, fun k => RegNum.getElem_set ..⟩
  · unfold State.setL
    rw [State.setDagOf_dagOf]
    exact ⟨rfl, fun k => RegNum.getElem_set ..⟩
  · unfold State.setB
    rw [State.setDagOf_dagOf]
    exact ⟨rfl, fun k => ⟨RegNum.getElem_set .., RegNum.getElem_set ..⟩⟩

/-! ## PX -/

theorem px1_append (hi lo : Word) : (hi ++ lo : Long).extractLsb' 0 32 = lo := BitVec.extractLsb'_append_eq_right

theorem px2_append (hi lo : Word) : (hi ++ lo : Long).extractLsb' 32 32 = hi := BitVec.extractLsb'_append_eq_left

/-- The combined PX takes the value in both halves, as PX1 and PX2 do in SIMD mode. -/
theorem loads_px (s : State) (v : Word) :
    (Loads s v .px fun t => t = { s with px := v ++ v }) ∧
    (Loads s v .px1 fun t => t = { s with px := (if s.simd then v else s.px.extractLsb' 32 32) ++ v }) ∧
    (Loads s v .px2 fun t => t = { s with px := v ++ if s.simd then v else s.px.extractLsb' 0 32 }) := by
  refine ⟨loads_of_write rfl rfl rfl, ?_, ?_⟩
  · refine ⟨_, ?_, rfl⟩
    rw [loadImmediate_pair rfl rfl]
    cases s.simd
    · rfl
    · simp only [if_true, writeUReg, State.px1, State.setPx_px, px1_append]
      rfl
  · refine ⟨_, ?_, rfl⟩
    rw [loadImmediate_pair rfl rfl]
    cases s.simd
    · rfl
    · simp only [if_true, writeUReg, State.px2, State.setPx_px, px2_append]
      rfl

/-! ## The sequencer and the timer -/

theorem loads_readOnly (s : State) (v : Word) :
    ∀ u ∈ [UReg.faddr, .daddr, .pc, .emuclk, .emuclk2], Loads s v u fun t => t = s := by
  simp only [List.forall_mem_cons, List.not_mem_nil, IsEmpty.forall_iff, implies_true, and_true]
  exact ⟨loads_of_write rfl rfl rfl, loads_of_write rfl rfl rfl, loads_of_write rfl rfl rfl, loads_of_write rfl rfl rfl,
    loads_of_write rfl rfl rfl⟩

theorem loads_lcntr (h : s.seq.ld ≠ 6) (v : Word) : Loads s v .lcntr fun t => t = s.setSeq { s.seq with lcntr := v } := by
  refine loads_of_write rfl rfl ?_
  rw [if_neg h]

/-- The tops of the loop stacks. -/
theorem loads_loopTop (hl : loopLost s = false) (h0 : 0 < s.seq.ld) (h6 : s.seq.ld ≤ 6) (v : Word) :
    (Loads s v .laddr fun t => t.laddr = v ∧ t = s.setSeq { s.seq with loopaddr := t.seq.loopaddr } ∧
      ∀ k : Fin 6, k.val ≠ s.seq.ld - 1 → t.seq.loopaddr[k] = s.seq.loopaddr[k]) ∧
    Loads s v .curlcntr fun t => t.curlcntr = v ∧
      t = (s.setSeq { s.seq with loopcnt := t.seq.loopcnt }).setScratch { s.scratch with lceSync := true } ∧
      ∀ k : Fin 6, k.val ≠ s.seq.ld - 1 → t.seq.loopcnt[k] = s.seq.loopcnt[k] := by
  have hd : 0 < s.seq.ld ∧ s.seq.ld ≤ 6 := ⟨h0, h6⟩
  have hladdr : writeUReg .laddr v s = .next (s.setLaddr v) := by simp [writeUReg, hl]
  have hcurlcntr : writeUReg .curlcntr v s = .next (s.setCurlcntr v).syncLce := by simp [writeUReg, hl]
  have below (x : Vector Word 6) (k : Fin 6) (hk : k.val ≠ s.seq.ld - 1) : (x.set (s.seq.ld - 1) v)[k] = x[k] := by
    simp [Vector.getElem_set_ne, hk.symm]
  refine ⟨loads_of_write rfl hladdr ?_, loads_of_write rfl hcurlcntr ?_⟩
  · unfold State.setLaddr State.laddr
    rw [dif_pos hd]
    exact ⟨by simp [hd], rfl, below _⟩
  · unfold State.setCurlcntr State.curlcntr
    rw [dif_pos hd]
    exact ⟨by simp [hd, State.syncLce], rfl, below _⟩

/-- The top of the PC stack. -/
theorem loads_pcstk {d : Nat} (hp : pcHas s d) (hd : 0 < d) (v : Word) :
    Loads s v .pcstk fun t => pcEntryAt t d = v.setWidth 26 ∧
      t = s.setSeq { s.seq with pcstack := t.seq.pcstack } ∧ ∀ k, k ≠ d → pcEntryAt t k = pcEntryAt s k := by
  have h30 : 0 < d ∧ d ≤ 30 := ⟨hd, hp.2.2⟩
  have hw : writeUReg .pcstk v s =
      .next (s.setSeq { s.seq with pcstack := s.seq.pcstack.set (d - 1) (v.setWidth 26) }) := by
    change writePcstk v s = _
    unfold writePcstk
    rw [pcDepth_of_has hp, Res.bind_next, dif_pos h30]
    rfl
  refine loads_of_write rfl hw ⟨?_, rfl, fun k hk => ?_⟩
  · simp [pcEntryAt, h30]
  · unfold pcEntryAt
    split
    · next hk30 => simp [Vector.getElem_set_ne, show d - 1 ≠ k - 1 by omega]
    · rfl

theorem loads_pcstkp (h : s.seq.pcstkp.eff ≠ 31) (v : Word) :
    Loads s v .pcstkp fun t => t = s.setSeq { s.seq with pcstkp := s.seq.pcstkp.write (v.setWidth 5) } :=
  loads_of_write rfl (if_neg h) rfl

/-! ## System registers -/

/-- The state after an immediate load of a system register: it, and in SIMD mode its complement, written. -/
def sregLoaded (s : State) (v : Word) (x : SReg) : State :=
  match x.complement with
  | some c => if s.simd then writeSReg c v (writeSReg x v s) else writeSReg x v s
  | none => writeSReg x v s

theorem loads_sreg (s : State) (v : Word) (x : SReg) : Loads s v (.sys x) fun t => t = sregLoaded s v x := by
  refine ⟨_, ?_, rfl⟩
  unfold sregLoaded
  cases hc : x.complement with
  | none =>
    have hu : (UReg.sys x).complement = none := by simp [UReg.complement, hc]
    rw [loadImmediate_single hu]
    rfl
  | some c =>
    have hu : (UReg.sys x).complement = some (.sys c) := by simp [UReg.complement, hc]
    rw [loadImmediate_pair hu rfl]
    cases s.simd <;> rfl

/-! ## Type 17 -/

/-- Settles O36: both forms are `loadImmediate`, that of 17b with its data sign-extended; then register by register. -/
theorem immediateLoads : Obligations.ImmediateLoads := by
  unfold Obligations.ImmediateLoads
  intro s n data data16 p hp v loads
  have hforms : loads = Loads s v := by
    simp only [List.mem_cons, List.not_mem_nil, or_false] at hp
    obtain rfl | rfl := hp <;> rfl
  clear_value loads
  subst hforms
  obtain ⟨hm, hl, hb⟩ := loads_dag s v n
  obtain ⟨hpx, hpx1, hpx2⟩ := loads_px s v
  refine ⟨fun e => loads_dreg s v e n, loads_index s v n, hm, hl, hb, hpx, hpx1, hpx2, loads_readOnly s v,
    loads_of_write rfl rfl rfl, loads_of_write rfl rfl rfl, fun h => loads_lcntr h v,
    fun hlost h0 h6 => loads_loopTop hlost h0 h6 v, fun d hp hd => loads_pcstk hp hd v, fun h => loads_pcstkp h v, ?_⟩
  intro skx q hq
  have hsys : sregLoaded s v q.1 = s.setSys q.2 := by
    revert q
    unfold sregLoaded
    simp only [List.forall_mem_cons, List.not_mem_nil, IsEmpty.forall_iff, implies_true, and_true, skx]
    cases s.simd <;> exact ⟨rfl, rfl, rfl, rfl, rfl, rfl, rfl, rfl, rfl, rfl, rfl, rfl, rfl, rfl, rfl, rfl⟩
  rw [← hsys]
  exact loads_sreg s v q.1

end Sys2Proof.Machine
end

section
/-! The end of a step, whatever the step was (`beforeEnd`): the core timer with its interrupts, and the instruction cache. -/

namespace Sys2Proof.Machine

open Sys2Proof.Safety

variable {s t : State}

/-! ## The parts of the end of a step -/

/-- A step without reset is the end of what it left before its end. -/
theorem step_of_beforeEnd (h : beforeEnd s t) : ∃ ran, step s = .next (endStep s.takeInput s.input ran t) := by
  obtain ⟨hreset, hsoft, h⟩ := h
  unfold step stepWith
  rw [State.takeInput_sysctl, hreset, hsoft, if_neg (by decide)]
  generalize interruptNow s.takeInput = irq at h ⊢
  cases irq with
  | some p =>
    have h : takeInterrupt p s.takeInput = .next t := h
    exact ⟨none, congrArg (Res.map (endStep s.takeInput s.input none)) h⟩
  | none =>
    by_cases hidle : s.seq.idle = true
    · have h : t = s.takeInput := (if_pos hidle).mp h
      rw [h]
      exact ⟨none, if_pos hidle⟩
    · have h : runInstr s.takeInput = .next t := (if_neg hidle).mp h
      exact ⟨some s.takeInput.seq.pc,
        (if_neg hidle).trans (congrArg (Res.map (endStep s.takeInput s.input (some s.takeInput.seq.pc))) h)⟩

/-- The state after the timer, EMUCLK and the breakpoint unit, before the end of the step settles the rest. -/
def ticked (inp : EnvInput) (ran : Option Addr24) (t : State) : State :=
  let u := tickEmuclk (inp.moreTicks + 1) (tickTimer (inp.moreTicks + 1) t)
  match ran with
  | some n => breakpoints n u
  | none => u

/-- The events that a step latches beside those of its instruction, the timer and the breakpoint unit. -/
def outerEvents (s : State) (inp : EnvInput) (t : State) : BitVec 42 :=
  arithmeticEvents s ||| irqEvents t.sys.mode2.eff s.irqPins inp.irq ||| progEvents inp.prog
    ||| eventIf (Config.hasSperri && inp.sperri) 5

/-- The timer, EMUCLK and the breakpoint unit change their own registers and the events of the step. -/
theorem ticked_eq (inp : EnvInput) (ran : Option Addr24) (t : State) :
    ∃ c e k l a b v, ticked inp ran t = { t with
      tcount := c
      tmrexp := e
      emuclk := k
      emuclk2 := l
      iop := { t.iop with eemustat := a, emun := b }
      scratch := { t.scratch with events := v } } := by
  obtain ⟨c, e, v, ht⟩ := tickTimer_eq (inp.moreTicks + 1) t
  unfold ticked
  rw [ht]
  cases ran with
  | none => exact ⟨_, _, _, _, _, _, _, rfl⟩
  | some n =>
    obtain ⟨a, b, y, hb⟩ := breakpoints_eq n (tickEmuclk (inp.moreTicks + 1)
      { t with tcount := c, tmrexp := e, scratch := { t.scratch with events := v } })
    dsimp only
    rw [hb]
    exact ⟨_, _, _, _, _, _, _, rfl⟩

/-! ## The cache -/

/-- Clearing the cache leaves no valid entry. -/
theorem clearCache_valid (v : Vector CacheSet 16) (k : Fin 16) :
    (clearCache v)[k].entry0.valid = false ∧ (clearCache v)[k].entry1.valid = false := by
  simp [clearCache]

/-- FLUSH CACHE and the cache at the end of a step (20_memory.md R221). -/
theorem endStep_cache (s : State) (inp : EnvInput) (ran : Option Addr24) (t : State) :
    let w := endStep s inp ran t
    w.flushing = t.scratch.flush ∧ w.cacheHold = (t.scratch.flush || changesCacheMode t.sys.mode2) ∧
      ∃ v, w.cache = if t.flushing then clearCache v else v := by
  have hend : ∀ u, ticked inp ran t = u → (endStep s inp ran t).flushing = u.scratch.flush ∧
      (endStep s inp ran t).cacheHold = (u.scratch.flush || changesCacheMode u.sys.mode2) ∧
      (endStep s inp ran t).cache = (commitCache ran.isSome u).cache := by
    rintro u rfl
    exact ⟨rfl, rfl, rfl⟩
  obtain ⟨c, e, k, l, a, b, v, ht⟩ := ticked_eq inp ran t
  obtain ⟨hflush, hhold, hcache⟩ := hend _ ht
  exact ⟨hflush, hhold, _, hcache⟩

/-! ## The core timer (60_exceptions.md R795) -/

/-- One tick of a count that reloads from `period` after 0. -/
def countDown (period c : Word) : Word := if c = 0 then period else c - 1

theorem timerTicks_count (period : Word) (k : Nat) (a : Word × Bool) :
    (timerTicks period k a).1 = (countDown period)^[k] a.1 := by
  induction k generalizing a with
  | zero => rfl
  | succ k ih => exact (ih _).trans (Function.iterate_succ_apply _ _ _).symm

/-- An event arises where one of the ticks reaches 0. -/
theorem timerTicks_event (period : Word) (k : Nat) (a : Word × Bool) :
    (timerTicks period k a).2 = true ↔
      a.2 = true ∨ ∃ j, 1 ≤ j ∧ j ≤ k ∧ (countDown period)^[j] a.1 = 0 := by
  induction k generalizing a with
  | zero =>
    refine ⟨.inl, ?_⟩
    rintro (h | ⟨j, h1, h0, -⟩)
    · exact h
    · omega
  | succ k ih =>
    have hstep : timerTicks period (k + 1) a =
        timerTicks period k (countDown period a.1, a.2 || countDown period a.1 == 0) := rfl
    rw [hstep, ih, Bool.or_eq_true, beq_iff_eq, or_assoc]
    refine or_congr_right ⟨?_, ?_⟩
    · rintro (h | ⟨j, h1, hk, hj⟩)
      · exact ⟨1, Nat.le_refl 1, Nat.succ_le_succ (Nat.zero_le k), h⟩
      · exact ⟨j + 1, Nat.le_add_left 1 j, Nat.succ_le_succ hk, hj⟩
    · rintro ⟨j, h1, hk, hj⟩
      obtain ⟨j, rfl⟩ := Nat.exists_eq_succ_of_ne_zero (Nat.one_le_iff_ne_zero.mp h1)
      rcases Nat.eq_zero_or_pos j with rfl | hpos
      · exact .inl hj
      · exact .inr ⟨j, hpos, Nat.le_of_succ_le_succ hk, hj⟩

/-- The timer counts in this step: TIMEN is in force, and the instruction wrote no TCOUNT. -/
def timerCounts (t : State) : Prop := t.sys.mode2.eff.getLsbD 5 = true ∧ t.scratch.tcountSet = false

/-- The timer reaches 0 in one of the `k` ticks of the step. -/
def timerEvent (k : Nat) (t : State) : Prop :=
  timerCounts t ∧ ∃ j, 1 ≤ j ∧ j ≤ k ∧ (countDown t.tperiod)^[j] t.tcount = 0

/-- `u` has of the timer and its interrupts what `k` ticks make of them in `t`. -/
structure TimerTicked (k : Nat) (t u : State) : Prop where
  held : ¬ timerCounts t → u.tcount = t.tcount
  count : timerCounts t → u.tcount = (countDown t.tperiod)^[k] t.tcount
  output : u.tmrexp = true ↔ timerEvent k t
  events : ∀ p ∈ [4, 32], u.scratch.events.getLsbD p = true ↔ t.scratch.events.getLsbD p = true ∨ timerEvent k t

theorem one_shiftLeft_getLsbD {w n : Nat} (hn : n < w) (k : Nat) : (1#w <<< n).getLsbD k = (k == n) := by
  rw [← BitVec.twoPow_eq, BitVec.getLsbD_twoPow]
  by_cases h : k = n <;> simp [h, hn, Ne.symm]

/-- The bit of an event raised, and the others. -/
theorem State.raise_events {q p : Nat} (hq : q < 42) (t : State) :
    (t.raise q).scratch.events.getLsbD p = (t.scratch.events.getLsbD p || p == q) := by
  unfold State.raise
  rw [State.setScratch_scratch, BitVec.getLsbD_or, one_shiftLeft_getLsbD hq]

theorem tickTimer_ticked (k : Nat) (t : State) : TimerTicked k t (tickTimer k t) := by
  by_cases hc : timerCounts t
  · have hcond : (t.sys.mode2.eff.getLsbD 5 && !t.scratch.tcountSet) = true := by simp [hc.1, hc.2]
    have hcount := timerTicks_count t.tperiod k (t.tcount, false)
    have hevent : (timerTicks t.tperiod k (t.tcount, false)).2 = true ↔ timerEvent k t := by
      rw [timerTicks_event]
      simp [timerEvent, hc]
    unfold tickTimer
    rw [if_pos hcond]
    dsimp only
    generalize timerTicks t.tperiod k (t.tcount, false) = r at hcount hevent
    split
    · next hr =>
      refine ⟨fun h => absurd hc h, fun _ => hcount, hevent, fun p hp => ?_⟩
      rw [State.raise_events (by decide), State.raise_events (by decide)]
      simp only [List.mem_cons, List.not_mem_nil, or_false] at hp
      rcases hp with rfl | rfl <;> simp [hevent.mp hr]
    · next hr =>
      exact ⟨fun h => absurd hc h, fun _ => hcount, hevent,
        fun p _ => (or_iff_left (fun h => hr (hevent.mpr h))).symm⟩
  · have hno : ¬ timerEvent k t := fun h => hc h.1
    have hcond : ¬ (t.sys.mode2.eff.getLsbD 5 && !t.scratch.tcountSet) = true := by
      simpa [timerCounts] using hc
    unfold tickTimer
    rw [if_neg hcond]
    exact ⟨fun _ => rfl, fun h => absurd h hc, by simp [hno], fun p _ => (or_iff_left hno).symm⟩

/-- The breakpoint unit raises no interrupt but BKPI. -/
theorem breakpoints_events {p : Nat} (hp : p ≠ 6) (n : Addr24) (t : State) :
    (breakpoints n t).scratch.events.getLsbD p = t.scratch.events.getLsbD p := by
  unfold breakpoints
  dsimp only
  split
  · split
    · rw [State.raise_events (by decide)]
      simp [hp]
    · rfl
  · rfl

theorem ticked_timer (inp : EnvInput) (ran : Option Addr24) (t : State) :
    TimerTicked (inp.moreTicks + 1) t (ticked inp ran t) := by
  obtain ⟨held, count, output, events⟩ := tickTimer_ticked (inp.moreTicks + 1) t
  unfold ticked
  cases ran with
  | none => exact ⟨held, count, output, events⟩
  | some n =>
    dsimp only
    have hevents : ∀ p ∈ [4, 32], (breakpoints n (tickEmuclk (inp.moreTicks + 1)
        (tickTimer (inp.moreTicks + 1) t))).scratch.events.getLsbD p =
        (tickTimer (inp.moreTicks + 1) t).scratch.events.getLsbD p := fun p hp =>
      breakpoints_events (by rintro rfl; simp at hp) n _
    obtain ⟨a, b, v, hb⟩ := breakpoints_eq n (tickEmuclk (inp.moreTicks + 1) (tickTimer (inp.moreTicks + 1) t))
    refine ⟨?_, ?_, ?_, fun p hp => by rw [hevents p hp]; exact events p hp⟩ <;> rw [hb]
    · exact held
    · exact count
    · exact output

/-! ## The latches -/

theorem putBit_getLsbD {n : Nat} (hn : n < 32) (w : Word) (b : Bool) (k : Nat) :
    (putBit w n b).getLsbD k = if k = n then b else w.getLsbD k := by
  cases b with
  | false => rw [putBit_false_getLsbD]; by_cases h : k = n <;> simp [h]
  | true =>
    unfold putBit
    rw [if_pos rfl, BitVec.getLsbD_or, one_shiftLeft_getLsbD hn]
    by_cases h : k = n <;> simp [h]

theorem latchBit_lt {p : Nat} (hp : p < 42) : latchBit p < 32 := by
  unfold latchBit
  split_ifs <;> omega

/-- One interrupt's part of `LatchUpdate`. -/
def updateLatch (events : BitVec 42) (imaskp maskpl : Word) (a : Word × Word) (p : Nat) : Word × Word :=
  if 2 ≤ p ∧ p ≠ 7 then
    let b := (latchOf a.1 a.2 p || events.getLsbD p) && !maskpOf imaskp maskpl p
    if inLirptl p then (a.1, putBit a.2 (latchBit p) b) else (putBit a.1 (latchBit p) b, a.2)
  else a

theorem latchUpdate_eq_foldl (events : BitVec 42) (imaskp maskpl irptl lirptl : Word) :
    latchUpdate events imaskp maskpl irptl lirptl =
      (List.range 42).foldl (updateLatch events imaskp maskpl) (irptl, lirptl) := rfl

variable {events : BitVec 42} {imaskp maskpl : Word} {p q : Nat}

theorem latchOf_updateLatch_ne (hp : p < 42) (hq : q < 42) (h : p ≠ q) (a : Word × Word) :
    latchOf (updateLatch events imaskp maskpl a q).1 (updateLatch events imaskp maskpl a q).2 p = latchOf a.1 a.2 p := by
  have hlt := latchBit_lt hq
  unfold updateLatch
  dsimp only
  generalize ((latchOf a.1 a.2 q || events.getLsbD q) && !maskpOf imaskp maskpl q) = b
  have hbit (hl : inLirptl p = inLirptl q) : latchBit p ≠ latchBit q := fun hc => h ((latchBit_eq_iff hq hp hl).mp hc)
  split
  · unfold latchOf
    cases hlq : inLirptl q <;> cases hlp : inLirptl p
    · simp [putBit_getLsbD hlt, hbit (hlp.trans hlq.symm)]
    · simp
    · simp
    · simp [putBit_getLsbD hlt, hbit (hlp.trans hlq.symm)]
  · rfl

theorem latchOf_updateLatch_self (h2 : 2 ≤ p) (hp : p < 42) (h7 : p ≠ 7) (a : Word × Word) :
    latchOf (updateLatch events imaskp maskpl a p).1 (updateLatch events imaskp maskpl a p).2 p =
      ((latchOf a.1 a.2 p || events.getLsbD p) && !maskpOf imaskp maskpl p) := by
  have hlt := latchBit_lt hp
  have hne : (p != 7) = true := by simpa using h7
  unfold updateLatch
  dsimp only
  generalize ((latchOf a.1 a.2 p || events.getLsbD p) && !maskpOf imaskp maskpl p) = b
  rw [if_pos ⟨h2, h7⟩]
  unfold latchOf
  cases hl : inLirptl p <;> simp [putBit_getLsbD hlt, hne]

theorem latchOf_foldl_updateLatch (h2 : 2 ≤ p) (hp : p < 42) (h7 : p ≠ 7) (l : List Nat) (hnodup : l.Nodup)
    (hl : ∀ q ∈ l, q < 42) (a : Word × Word) :
    let r := l.foldl (updateLatch events imaskp maskpl) a
    latchOf r.1 r.2 p = if p ∈ l then (latchOf a.1 a.2 p || events.getLsbD p) && !maskpOf imaskp maskpl p
      else latchOf a.1 a.2 p := by
  induction l generalizing a with
  | nil => rfl
  | cons q l ih =>
    obtain ⟨hql, hnodup⟩ := List.nodup_cons.mp hnodup
    obtain ⟨hq, hl⟩ := List.forall_mem_cons.mp hl
    have ih := ih hnodup hl (updateLatch events imaskp maskpl a q)
    dsimp only at ih ⊢
    rw [List.foldl_cons, ih]
    by_cases h : p = q
    · subst h
      rw [if_neg hql, if_pos List.mem_cons_self, latchOf_updateLatch_self h2 hp h7]
    · rw [latchOf_updateLatch_ne hp hq h]
      simp [h]

/-- What `LatchUpdate` makes of one latch (60_exceptions.md R740, R741). -/
theorem latchOf_latchUpdate (h2 : 2 ≤ p) (hp : p < 42) (h7 : p ≠ 7) (irptl lirptl : Word) :
    let r := latchUpdate events imaskp maskpl irptl lirptl
    latchOf r.1 r.2 p = ((latchOf irptl lirptl p || events.getLsbD p) && !maskpOf imaskp maskpl p) := by
  dsimp only
  rw [latchUpdate_eq_foldl, latchOf_foldl_updateLatch h2 hp h7 _ List.nodup_range (fun _ => List.mem_range.mp),
    if_pos (List.mem_range.mpr hp)]

/-! ## The end of the step -/

/-- The latch of an interrupt at the end of a step. -/
theorem endStep_latch (h2 : 2 ≤ p) (hp : p < 42) (h7 : p ≠ 7) (s : State) (inp : EnvInput) (ran : Option Addr24) (t : State) :
    let w := endStep s inp ran t
    latchOf w.sys.irptl.val w.sys.lirptl.val p =
      ((latchOf (t.sys.irptl.wr.getD t.sys.irptl.val) (t.sys.lirptl.wr.getD t.sys.lirptl.val) p ||
        ((ticked inp ran t).scratch.events ||| outerEvents s inp t).getLsbD p) &&
          !maskpOf t.sys.imaskp.val t.sys.lirptl.val p) := by
  have hend : ∀ u, ticked inp ran t = u → (endStep s inp ran t).sys =
      u.sys.commit.latch (u.scratch.events ||| arithmeticEvents s ||| irqEvents u.sys.mode2.eff s.irqPins inp.irq
        ||| progEvents inp.prog ||| eventIf (Config.hasSperri && inp.sperri) 5) := by
    rintro u rfl
    rfl
  obtain ⟨c, e, k, l, a, b, v, ht⟩ := ticked_eq inp ran t
  dsimp only
  rw [hend _ ht, ht, outerEvents]
  simp only [← BitVec.or_assoc]
  exact latchOf_latchUpdate h2 hp h7 _ _

theorem eventIf_getLsbD (b : Bool) (n k : Nat) : (eventIf b n).getLsbD k = (b && decide (n < 42) && n == k) := by
  cases b with
  | false => simp [eventIf]
  | true =>
    unfold eventIf
    rw [if_pos rfl, ← BitVec.twoPow_eq, BitVec.getLsbD_twoPow, Bool.true_and]
    rfl

/-- The interrupts of the timer have no source but the timer and a program. -/
theorem outerEvents_timer (s : State) (inp : EnvInput) (t : State) : ∀ p ∈ [4, 32], (outerEvents s inp t).getLsbD p = false := by
  simp only [List.forall_mem_cons, List.not_mem_nil, IsEmpty.forall_iff, implies_true, and_true]
  unfold outerEvents arithmeticEvents irqEvents progEvents
  constructor
  · simp only [BitVec.getLsbD_or, eventIf_getLsbD]
    simp
  · simp only [BitVec.getLsbD_or, eventIf_getLsbD]
    simp

/-- Settles O57: the timer by its ticks (`ticked_timer`) and the latches by `LatchUpdate`; an idle step is the end of a step
alone. -/
theorem idleAndTimer : Obligations.IdleAndTimer := by
  unfold Obligations.IdleAndTimer
  refine ⟨fun s t h => ?_, fun s hreset hsoft hirq hidle hscratch => ?_⟩
  · obtain ⟨ran, hstep⟩ := step_of_beforeEnd h
    obtain ⟨held, count, output, events⟩ := ticked_timer s.input ran t
    refine ⟨_, hstep, (endStep_ended s.takeInput s.input ran t).tperiod, held, count, output, fun p hp => ?_⟩
    have hbounds : 2 ≤ p ∧ p < 42 ∧ p ≠ 7 := by
      simp only [List.mem_cons, List.not_mem_nil, or_false] at hp
      omega
    rw [endStep_latch hbounds.1 hbounds.2.1 hbounds.2.2, BitVec.getLsbD_or, outerEvents_timer _ _ _ p hp, Bool.or_false,
      Bool.and_eq_true, Bool.or_eq_true, events p hp, Bool.not_eq_true', and_comm]
    rfl
  · have hbefore : beforeEnd s s.takeInput := by
      refine ⟨hreset, hsoft, ?_⟩
      rw [hirq, if_pos hidle]
    obtain ⟨ran, hstep⟩ := step_of_beforeEnd hbefore
    have he := endStep_ended s.takeInput s.input ran s.takeInput
    have hseq := he.seq
    exact ⟨_, hstep, by rw [hseq]; exact hidle, by rw [hseq]; rfl, by rw [hseq]; rfl, he.pex, he.pey, he.dag, he.dagAlt,
      he.mem, by rw [hseq]; rfl, by rw [hseq]; rfl, by rw [hseq]; rfl, by rw [he.sys]; rfl⟩

end Sys2Proof.Machine
end

section
/-! Registers beside a write: the DAG and data registers that it leaves. -/

namespace Sys2Proof.Machine

variable {s t : State}

/-! ## Index registers -/

theorem altDag_congr (h : t.sys = s.sys) (n : RegNum) : t.altDag n = s.altDag n := by
  unfold State.altDag State.mode1
  rw [h]

/-- A write of an index register leaves the others. -/
theorem State.setI_ireg_ne {n k : RegNum} (h : k ≠ n) (s : State) (v : Word) : (s.setI n v).ireg k = s.ireg k := by
  have halt (m : RegNum) : (s.setI n v).altDag m = s.altDag m := altDag_congr (State.setI_sys s n v) m
  unfold State.ireg State.dagOf
  rw [halt]
  unfold State.setI State.setDagOf State.dagOf
  cases s.altDag n <;> cases s.altDag k <;> simp [RegNum.getElem_set, h]

@[simp] theorem State.setI_pe (s : State) (n : RegNum) (v : Word) (e : Elem) : (s.setI n v).pe e = s.pe e := by
  rw [State.setI_eq]
  cases e <;> rfl

/-! ## Data registers -/

theorem reg_congr {e : Elem} (hpe : t.pe e = s.pe e) (hsys : t.sys = s.sys) (n : RegNum) : t.reg e n = s.reg e n := by
  unfold State.reg State.altReg State.mode1
  rw [hpe, hsys]

/-- A write of a data register of one element leaves all but the register sets of the elements. -/
theorem State.setReg_eq (s : State) (e : Elem) (n : RegNum) (v : Ext) :
    s.setReg e n v = { s with pex := (s.setReg e n v).pex, pey := (s.setReg e n v).pey } := by
  unfold State.setReg
  dsimp only
  split <;> cases e <;> rfl

end Sys2Proof.Machine
end

section
/-! NOP and IDLE (O42), and CJUMP and RFRAME (O41). -/

namespace Sys2Proof.Machine

open Sys2Proof.Safety

variable {s t : State}

/-! ## Types 21 and 22 (43_group4_misc.md R498 to R501) -/

/-- Outside loops an instruction executes in the state that the input leaves. -/
theorem executesFrom_of_executes {i : Instr} {len : Nat} (h : executes s i len t) :
    executesFrom s i len s.takeInput t := by
  obtain ⟨hrun, hld, hfetch, hexec, ht⟩ := h
  exact ⟨hrun, loopTests_outside 7 hld, hfetch, hexec, ht⟩

/-- Settles O42: the meanings are those of the model's text; in the step of a NOP, outside loops, the flow of the program goes
on (`flowsTo`), and all else is by the end of the step. -/
theorem nopAndIdle : Obligations.NopAndIdle := by
  unfold Obligations.NopAndIdle
  refine ⟨fun s => ?_, fun s => ?_, fun s t i hi len h hexit hdb hscratch => ?_⟩
  · simp only [List.forall_mem_cons, List.not_mem_nil, IsEmpty.forall_iff, implies_true, and_true]
    exact ⟨⟨_, rfl, rfl⟩, ⟨_, rfl, rfl⟩, ⟨_, rfl, rfl⟩, _, rfl, rfl⟩
  · simp only [List.forall_mem_cons, List.not_mem_nil, IsEmpty.forall_iff, implies_true, and_true]
    exact ⟨⟨_, rfl, rfl⟩, _, rfl, rfl⟩
  · obtain rfl : t = s.takeInput := by
      obtain ⟨-, -, -, -, ht⟩ := h
      simp only [List.mem_cons, List.not_mem_nil, or_false] at hi
      rcases hi with rfl | rfl <;> exact (Host.Outcome.next.inj ht).symm
    have hld : s.takeInput.seq.ld = 0 := h.2.1
    have hstay : ∀ x, ¬ leaves s.takeInput s.seq.pc x := fun x hx => by
      have := hexit.symm.trans hx.1
      cases this
    have hback : ¬ loopsBack s.takeInput s.seq.pc := fun hb => Nat.lt_irrefl 0 (hld ▸ hb.1)
    obtain ⟨next, x, v, c1, c2, hstep, hto, -⟩ :=
      step_of_executesFrom (executesFrom_of_executes h) (.inl hdb) fun hb => absurd hb hback
    have he := endStep_ended s.takeInput s.input (some s.seq.pc) (moved s s.takeInput next x v c1 c2)
    have hseq := he.seq
    have hbr : s.takeInput.scratch.br = none := congrArg Scratch.br hscratch
    refine ⟨_, hstep, ?_, he.pex, he.pey, he.dag, he.dagAlt, he.px, he.mem, by rw [hseq]; rfl, by rw [hseq]; exact hld,
      by rw [hseq]; rfl⟩
    calc (endStep _ _ _ _).seq.pc
      _ = nextPc s.seq.db next s.takeInput := by rw [hseq]; rfl
      _ = next := by rw [hdb, nextPc_none, hbr]; rfl
      _ = s.seq.pc + .ofNat 24 len := (hto.2 hstay).2 hback

/-! ## Type 25 (43_group4_misc.md R505, R506) -/

/-- The frame pointer kept in R2 and, in SIMD mode, in S2. -/
def frameKept (s : State) : State :=
  let t := s.setReg32 .x 2 (s.ireg 6)
  if s.simd then t.setReg32 .y 2 (s.ireg 6) else t

theorem frameKept_eq (s : State) : frameKept s = { s with pex := (frameKept s).pex, pey := (frameKept s).pey } := by
  unfold frameKept State.setReg32
  dsimp only
  split
  · rw [State.setReg_eq _ .y, State.setReg_eq _ .x]
  · exact State.setReg_eq s .x 2 _

/-- Each element's registers after the frame pointer was kept: R2, and S2 in SIMD mode only. -/
theorem frameKept_units (s : State) :
    UnitFrame s (frameKept s) .x [2] none false 0 0 ∧
      UnitFrame s (frameKept s) .y (if s.simd then [2] else []) none false 0 0 ∧
      (frameKept s).reg .x 2 = (s.ireg 6).toExt ∧ (s.simd = true → (frameKept s).reg .y 2 = (s.ireg 6).toExt) := by
  have hx : UnitFrame s (s.setReg32 .x 2 (s.ireg 6)) .x [2] none false 0 0 :=
    (UnitFrame.refl s .x _ _ _ _ _).setReg (List.mem_singleton.mpr rfl) rfl _
  have hpey : (s.setReg32 .x 2 (s.ireg 6)).pe .y = s.pe .y := State.setReg_pe_ne s (by decide) _ _
  have hsys : (s.setReg32 .x 2 (s.ireg 6)).sys = s.sys := State.setReg_sys _ _ _ _
  have hy (regs : List RegNum) : UnitFrame s (s.setReg32 .x 2 (s.ireg 6)) .y regs none false 0 0 :=
    (UnitFrame.refl s .y _ _ _ _ _).congr hpey hsys
  unfold frameKept
  cases hs : s.simd with
  | false => exact ⟨hx, hy _, State.setReg_reg _ _ _ _, fun h => by cases h⟩
  | true =>
    have hpex : ((s.setReg32 .x 2 (s.ireg 6)).setReg32 .y 2 (s.ireg 6)).pe .x = (s.setReg32 .x 2 (s.ireg 6)).pe .x :=
      State.setReg_pe_ne _ (by decide) _ _
    refine ⟨hx.congr hpex (State.setReg_sys _ _ _ _), (hy _).setReg (List.mem_singleton.mpr rfl) ?_ _, ?_,
      fun _ => State.setReg_reg _ _ _ _⟩
    · exact State.setReg_altReg _ _ _ _ _
    · exact (State.setReg_reg_ne _ (by simp) _).trans (State.setReg_reg _ _ _ _)

/-- What CJUMP leaves: the frame pointer kept, I7 as the frame pointer, and a delayed branch asked for. -/
def cjumped (target : Addr24) (s : State) : State :=
  ((frameKept s).setI 6 (s.ireg 7)).setScratch { s.scratch with dbReq := some target }

theorem cjump_eq (target : Addr24) (s : State) : cjump target s = .next (cjumped target s) := by
  have hscratch : ((frameKept s).setI 6 (s.ireg 7)).scratch = s.scratch := by
    rw [State.setI_scratch, frameKept_eq]
  unfold cjumped
  rw [← hscratch]
  rfl

theorem cjumped_eq (target : Addr24) (s : State) :
    cjumped target s = { s with
      pex := (cjumped target s).pex
      pey := (cjumped target s).pey
      dag := (cjumped target s).dag
      dagAlt := (cjumped target s).dagAlt
      scratch := { s.scratch with dbReq := some target } } := by
  unfold cjumped
  rw [State.setI_eq, frameKept_eq]
  rfl

theorem cjumped_pe (target : Addr24) (s : State) (e : Elem) : (cjumped target s).pe e = (frameKept s).pe e := by
  unfold cjumped
  rw [State.setScratch_pe, State.setI_pe]

theorem cjumped_sys (target : Addr24) (s : State) : (cjumped target s).sys = (frameKept s).sys := State.setI_sys _ _ _

/-- The index registers after CJUMP. -/
theorem cjumped_index (target : Addr24) (s : State) :
    DagFrame s (cjumped target s) [6] ∧ (cjumped target s).ireg 6 = s.ireg 7 := by
  have hkept := frameKept_eq s
  have hdag : DagFrame s (frameKept s) [6] := (DagFrame.refl s [6]).congr (by rw [hkept]) (by rw [hkept])
  refine ⟨(hdag.setI (List.mem_singleton.mpr rfl) (altDag_congr (by rw [hkept]) 6) _).congr rfl rfl, ?_⟩
  unfold cjumped
  rw [State.setScratch_ireg, State.setI_ireg]

/-- RFRAME, where the frame pointer points to a word of memory: that word is loaded after I7 took the frame pointer. -/
theorem rframe_eq (h : normalWord s (s.ireg 6)) :
    rframe s = .next (((s.setI 7 (s.ireg 6)).setI 6 (wordAt s (s.ireg 6))).setScratch
      { s.scratch with accesses := s.scratch.accesses ++ [⟨false, false, s.ireg 6⟩] }) := by
  have hpre : preAddr s 6 0 = s.ireg 6 := BitVec.add_zero _
  have hload : loadData s (s.ireg 6) (.w32 (2 * (s.ireg 6).toNat)) = .v32 (wordAt s (s.ireg 6)) := rfl
  have hclass : classify s (s.ireg 6) (UReg.i 6).cls false false = .next (.w32 (2 * (s.ireg 6).toNat)) :=
    classify_normalWord h (by decide) false
  unfold rframe loadTransfer
  rw [hpre]
  dsimp only
  rw [hclass, Res.bind_next, hload]
  have hnote := noteAccess_normalWord h false false ((s.setI 7 (s.ireg 6)).setI 6 (wordAt s (s.ireg 6)))
  rw [State.setI_scratch, State.setI_scratch, Bool.or_false] at hnote
  exact congrArg _ hnote

/-- Settles O41: both forms of CJUMP by `cjump_eq`, both of RFRAME by `rframe_eq`; what index registers hold by the rules of
`setI`. -/
theorem frameInstructions : Obligations.FrameInstructions := by
  unfold Obligations.FrameInstructions
  intro s addr
  constructor
  · intro p hp
    have hexec : exec p.1 s = cjump p.2 s := by
      simp only [List.mem_cons, List.not_mem_nil, or_false] at hp
      rcases hp with rfl | rfl
      · rfl
      · exact congrArg (cjump · s) (relTarget_addr24 s addr)
    obtain ⟨hx, hy, hrx, hry⟩ := frameKept_units s
    obtain ⟨hframe, hindex⟩ := cjumped_index p.2 s
    have hpe := cjumped_pe p.2 s
    have hsys := cjumped_sys p.2 s
    exact ⟨_, hexec.trans (cjump_eq p.2 s), cjumped_eq p.2 s, hx.congr (hpe .x) hsys, hy.congr (hpe .y) hsys, hframe,
      (reg_congr (hpe .x) hsys 2).trans hrx, fun hs => (reg_congr (hpe .y) hsys 2).trans (hry hs), hindex⟩
  · intro h i hi
    have hexec : exec i s = rframe s := by
      simp only [List.mem_cons, List.not_mem_nil, or_false] at hi
      rcases hi with rfl | rfl <;> rfl
    refine ⟨_, hexec.trans (rframe_eq h), ?_, ?_, ?_, ?_, rfl⟩
    · rw [State.setI_eq, State.setI_eq s]
      rfl
    · have h7 : DagFrame s (s.setI 7 (s.ireg 6)) [6, 7] := (DagFrame.refl s _).setI (by simp) rfl _
      exact (h7.setI (by simp) (altDag_congr (State.setI_sys s 7 _) 6) _).congr rfl rfl
    · rw [State.setScratch_ireg, State.setI_ireg_ne (by decide), State.setI_ireg]
    · rw [State.setScratch_ireg, State.setI_ireg]

end Sys2Proof.Machine
end

section
/-! System register bits (O39): a bit change is a write of the register and its complement, and a test sets BTF alone. -/

namespace Sys2Proof.Safety

open Sys2Proof.Machine

variable {s t : State} {e : Elem} {regs : List RegNum} {acc : Option Bool} {fifo : Bool} {flags sticky : Word}

/-- A flag of the frame may be written. -/
theorem UnitFrame.setAstat (h : UnitFrame s t e regs acc fifo flags sticky) {v : Word}
    (hv : v &&& ~~~flags = (t.astat e).val &&& ~~~flags) :
    UnitFrame s (t.setAstat e v) e regs acc fifo flags sticky where
  primary m := by simpa using h.primary m
  alternate m := by simpa using h.alternate m
  accs bg := by simpa using h.accs bg
  bits := by simpa using h.bits
  astat := by
    obtain ⟨heff, hwr, hval⟩ := h.astat
    rw [State.setAstat_astat]
    exact ⟨heff, hwr, hv.trans hval⟩
  stky := by simpa using h.stky

/-- The frame of one element holds where the other's flags are written. -/
theorem UnitFrame.setAstat_ne (h : UnitFrame s t e regs acc fifo flags sticky) {e' : Elem} (he : e ≠ e') (v : Word) :
    UnitFrame s (t.setAstat e' v) e regs acc fifo flags sticky where
  primary m := by simpa using h.primary m
  alternate m := by simpa using h.alternate m
  accs bg := by simpa using h.accs bg
  bits := by simpa using h.bits
  astat := by rw [State.setAstat_astat_ne _ he]; exact h.astat
  stky := by simpa using h.stky

end Sys2Proof.Safety

namespace Sys2Proof.Machine

open Sys2Proof.Safety

variable {s t : State} {e : Elem}

/-- The bits that a merge does not take are the old ones. -/
theorem mergeBits_and_not (old new m : Word) : mergeBits old new m &&& ~~~m = old &&& ~~~m := by
  apply BitVec.eq_of_getLsbD_eq
  intro k hk
  rw [BitVec.getLsbD_and, mergeBits_getLsbD, BitVec.getLsbD_and, BitVec.getLsbD_not]
  cases m.getLsbD k <;> simp [hk]

/-! ## BTF -/

theorem setBtf_btf (e : Elem) (b : Bool) (t : State) : ((setBtf e b t).astat e).val.getLsbD 18 = b := by
  unfold setBtf
  rw [State.setAstat_astat, Latent.hw_val, mergeBits_getLsbD, bitIf_getLsbD b (by decide : 18 < 32)]
  simp

theorem setBtf_frame (h : UnitFrame s t e [] none false 0x40000 0) (b : Bool) :
    UnitFrame s (setBtf e b t) e [] none false 0x40000 0 := h.setAstat (mergeBits_and_not _ _ _)

/-- BTF of one element is no part of the other. -/
theorem setBtf_other {e' : Elem} (he : e ≠ e') {flags : Word} (h : UnitFrame s t e [] none false flags 0) (b : Bool) :
    UnitFrame s (setBtf e' b t) e [] none false flags 0 ∧ (setBtf e' b t).astat e = t.astat e :=
  ⟨h.setAstat_ne he _, State.setAstat_astat_ne _ he _⟩

/-- What a test leaves: BTF of PEx, in SIMD mode BTF of PEy, and nothing else. -/
theorem sregTest_gives (f : Word → Bool) (x : SReg) (s : State) :
    ∃ t, sregTest f x s = .next t ∧ onlyUnits s t ∧ UnitFrame s t .x [] none false 0x40000 0 ∧
      UnitFrame s t .y [] none false (if s.simd then 0x40000 else 0) 0 ∧
      (t.astat .x).val.getLsbD 18 = f (readSReg s x) ∧
      (s.simd = true → (t.astat .y).val.getLsbD 18 = f (readSReg s (x.complement.getD x))) := by
  have hunits : onlyUnits s (setBtf .x (f (readSReg s x)) s) := (onlyUnits.refl s).setAstat _ _
  have hx := setBtf_frame (UnitFrame.refl s .x [] none false 0x40000 0) (f (readSReg s x))
  have hbx := setBtf_btf .x (f (readSReg s x)) s
  have hy (flags : Word) : UnitFrame s (setBtf .x (f (readSReg s x)) s) .y [] none false flags 0 :=
    (setBtf_other (by decide) (UnitFrame.refl s .y _ _ _ _ _) _).1
  refine ⟨_, rfl, ?_⟩
  cases s.simd with
  | false => exact ⟨hunits, hx, hy 0, hbx, fun h => by cases h⟩
  | true =>
    simp only [if_true]
    obtain ⟨hx, hastat⟩ := setBtf_other (by decide : Elem.x ≠ .y) hx (f (readSReg s (x.complement.getD x)))
    exact ⟨hunits.setAstat _ _, hx, setBtf_frame (hy _) _, by rw [hastat, hbx], fun _ => setBtf_btf _ _ _⟩

/-- Settles O39: a bit change register by register (`bitChange`), a test by `sregTest_gives`. -/
theorem systemRegisterBits : Obligations.SystemRegisterBits := by
  unfold Obligations.SystemRegisterBits
  intro s x data both
  constructor
  · intro p hp
    have hexec : exec p.1 s = bitChange p.2 x s := by
      simp only [List.mem_cons, List.not_mem_nil, or_false] at hp
      rcases hp with rfl | rfl | rfl <;> rfl
    rw [hexec]
    unfold bitChange
    cases hc : x.complement with
    | none =>
      refine ⟨writeSReg x (p.2 (readSReg s x)) s, ?_, ite_self _⟩
      simp only [both, hc]
      rfl
    | some k =>
      simp only [both, hc]
      cases s.simd <;> exact ⟨_, rfl, rfl⟩
  · intro p hp
    have hexec : ∃ f : Word → Bool, exec p.1 s = sregTest f x s ∧ ∀ v, f v = true ↔ p.2 v := by
      simp only [List.mem_cons, List.not_mem_nil, or_false] at hp
      rcases hp with rfl | rfl
      · exact ⟨fun v => v &&& data == data, rfl, fun v => beq_iff_eq⟩
      · exact ⟨fun v => v == data, rfl, fun v => beq_iff_eq⟩
    obtain ⟨f, hexec, hf⟩ := hexec
    obtain ⟨t, ht, hunits, hx, hy, hbx, hby⟩ := sregTest_gives f x s
    refine ⟨t, hexec.trans ht, hunits, hx, hy, ?_, fun hs => ?_⟩
    · rw [hbx, hf]
    · rw [hby hs, hf]

end Sys2Proof.Machine
end

section
/-! The stack instructions (O40): each push and pop by itself, and a combined instruction as its operations in turn. -/

namespace Sys2Proof.Machine

open Sys2Proof.Safety

variable {s t : State}

/-! ## Results in turn -/

@[simp] theorem Res.bind_pure {α : Type} (x : Res α) : Res.bind x .next = x := by cases x <;> rfl

theorem Res.bind_assoc {α β γ : Type} (x : Res α) (f : α → Res β) (g : β → Res γ) :
    Res.bind (Res.bind x f) g = Res.bind x fun a => Res.bind (f a) g := by cases x <;> rfl

/-- Instructions executed in turn. -/
def execAll (is : List Instr) (r : Res State) : Res State := is.foldl (fun r i => Res.bind r (exec i)) r

theorem execAll_append (is js : List Instr) (r : Res State) : execAll (is ++ js) r = execAll js (execAll is r) :=
  List.foldl_append

/-- An instruction that may be left out is its meaning where its bit is set. -/
theorem execAll_when (b : Bool) (i : Instr) (r : Res State) :
    execAll (if b then [i] else []) r = Res.bind r (when b (exec i)) := by
  cases b with
  | false => exact (Res.bind_pure r).symm
  | true => rfl

/-- What completes and keeps a property does so where its bit is set or not. -/
theorem when_next {p : State → Prop} {f : State → Res State} (b : Bool) (hs : p s) (hf : ∃ t, f s = .next t ∧ p t) :
    ∃ t, when b f s = .next t ∧ p t := by
  cases b with
  | false => exact ⟨s, rfl, hs⟩
  | true => exact hf

/-! ## Combined instructions (43_group4_misc.md R490) -/

theorem flush_when (f : Bool) (t : State) :
    Host.Outcome.next (if f then flushCache t else t) = when f execFlushCache20a t := by
  cases f <;> rfl

/-- A combined push, from the loop stacks to the cache. -/
theorem stackOps_pushes_eq (l o p f : Bool) (s : State) :
    exec (.stackOps20a l false o false p false f) s =
      Res.bind (when l doPushLoop s) fun t => Res.bind (when o doPushSts t) fun t =>
        Res.bind (when p pushPcPointer t) (when f execFlushCache20a) := by
  show execStackOps20a l false o false p false f s = _
  unfold execStackOps20a
  rw [if_neg (by simp)]
  simp only [flush_when]
  rfl

theorem stackOps_pops_eq (l o p f : Bool) (s : State) :
    exec (.stackOps20a false l false o false p f) s =
      Res.bind (when l doPopLoop s) fun t => Res.bind (when o doPopSts t) fun t =>
        Res.bind (when p doPopPcstk t) (when f execFlushCache20a) := by
  show execStackOps20a false l false o false p f s = _
  unfold execStackOps20a
  rw [if_neg (by simp)]
  simp only [flush_when]
  rfl

/-- A combined push is its pushes in turn. -/
theorem stackOps_pushes (l o p f : Bool) (s : State) :
    exec (.stackOps20a l false o false p false f) s =
      execAll ((if l then [.pushLoop20a] else []) ++ (if o then [.pushSts20a] else []) ++
        (if p then [.pushPcstk20a] else []) ++ (if f then [.flushCache20a] else [])) (.next s) := by
  simp only [stackOps_pushes_eq, execAll_append, execAll_when, Res.bind_next, Res.bind_assoc]
  rfl

/-- A combined pop is its pops in turn. -/
theorem stackOps_pops (l o p f : Bool) (s : State) :
    exec (.stackOps20a false l false o false p f) s =
      execAll ((if l then [.popLoop20a] else []) ++ (if o then [.popSts20a] else []) ++
        (if p then [.popPcstk20a] else []) ++ (if f then [.flushCache20a] else [])) (.next s) := by
  simp only [stackOps_pops_eq, execAll_append, execAll_when, Res.bind_next, Res.bind_assoc]
  rfl

/-! ## The loop stacks (R491) -/

theorem doPushLoop_room (hl : loopLost s = false) (h : s.seq.ld < 6) :
    doPushLoop s = .next (loopPushed s h (s.free .loopaddr) (s.free .loopcnt)).syncLce := by
  unfold doPushLoop pushLoopPointer
  rw [pushLoop_of _ _ hl h, Res.map_next]

theorem doPushLoop_full (hl : loopLost s = false) (h : ¬ s.seq.ld < 6) :
    doPushLoop s = .next ((s.stickX 0x02000000).raise 3).syncLce := by
  have hpush : pushLoopPointer s = .next ((s.stickX 0x02000000).raise 3) := pushLoop_eq_next.mpr ⟨hl, (if_neg h).symm⟩
  unfold doPushLoop
  rw [hpush, Res.map_next]

theorem doPopLoop_of (hl : loopLost s = false) (h : 0 < s.seq.ld) :
    doPopLoop s = .next (s.setSeq { s.seq with ld := s.seq.ld - 1 }).syncLce := by
  unfold doPopLoop
  rw [popLoop_next h hl, Res.map_next]

/-! ## The status stack (R492) -/

theorem doPushSts_room (h : s.seq.sts.length < 15) :
    doPushSts s = .next ((s.setSeq { s.seq with
        sts := ⟨s.sys.mode1.val, readSReg s .astatx, readSReg s .astaty⟩ :: s.seq.sts }).setSys
      { s.sys with mode1 := s.sys.mode1.write (maskedMode1 s) }) := by
  unfold doPushSts
  rw [saveStatus_eq, if_pos h]
  rfl

theorem doPushSts_full (h : 15 ≤ s.seq.sts.length) :
    doPushSts s = .next (((s.stickX 0x00800000).raise 3).setSys
      { (s.stickX 0x00800000).sys with mode1 := s.sys.mode1.write (maskedMode1 s) }) := by
  unfold doPushSts
  rw [saveStatus_eq, if_neg (by omega)]
  rfl

/-- What POP STS leaves of a status stack with `e` on top of `rest`. -/
def statusPopped (s : State) (e : StatusEntry) (rest : List StatusEntry) : State :=
  { s with
    seq := { s.seq with sts := rest }
    sys := { s.sys with
      mode1 := s.sys.mode1.write e.mode1
      astatx := s.sys.astatx.hw e.astatx
      astaty := s.sys.astaty.hw e.astaty } }

theorem doPopSts_of {e : StatusEntry} {rest : List StatusEntry} (h : s.sys.stkyx.val.getLsbD 23 = false)
    (hs : s.seq.sts = e :: rest) : doPopSts s = .next (statusPopped s e rest) := by
  unfold doPopSts
  rw [takeStatus_eq_next.mpr ⟨h, rest, hs, rfl⟩]
  rfl

theorem saveStatus_pcstkp (s : State) : (saveStatus s).seq.pcstkp = s.seq.pcstkp := by
  rw [saveStatus_eq]
  split <;> rfl

/-! ## The PC stack (R493) -/

theorem pcHas_congr {d : Nat} (h : t.seq.pcstkp = s.seq.pcstkp) (hp : pcHas s d) : pcHas t d := by
  unfold pcHas
  rw [h]
  exact hp

theorem pushPcPointer_room {d : Nat} (hp : pcHas s d) (h : d < 30) :
    ∃ entry, pushPcPointer s = .next (pcPushed s d h entry) := ⟨_, pushPc_of_has _ hp h⟩

/-- PUSH PCSTK completes at any depth, on 30 entries too. -/
theorem pushPcPointer_next {d : Nat} (hp : pcHas s d) : ∃ t, pushPcPointer s = .next t :=
  ⟨_, pushPc_eq_next.mpr ⟨d, pcDepth_of_has hp, rfl⟩⟩

/-- On 30 entries PUSH PCSTK loses the entry, and the pointer goes past the end. -/
theorem pushPcPointer_full (hp : pcHas s 30) :
    pushPcPointer s = .next ((s.setDepth 31).setScratch { s.scratch with events := s.scratch.events ||| 8 }) := by
  refine pushPc_eq_next.mpr ⟨30, pcDepth_of_has hp, ?_⟩
  rw [dif_neg (by decide), bumpPc_eq]
  rfl

theorem doPopPcstk_of {d : Nat} (hp : pcHas s d) (hd : 0 < d) : doPopPcstk s = .next (s.setDepth (d - 1)) := by
  unfold doPopPcstk
  rw [popPc_of_has hp hd, Res.map_next]

/-! ## Combined instructions that complete -/

theorem stackOps_pushes_next {d : Nat} (l o p f : Bool) (hp : pcHas s d) (hl : loopLost s = false) :
    ∃ t, exec (.stackOps20a l false o false p false f) s = .next t := by
  have hloop : ∃ t, doPushLoop s = .next t ∧ pcHas t d := by
    by_cases h : s.seq.ld < 6
    · exact ⟨_, doPushLoop_room hl h, hp⟩
    · exact ⟨_, doPushLoop_full hl h, hp⟩
  obtain ⟨u, hu, hpu⟩ := when_next (p := (pcHas · d)) l hp hloop
  have hsts : ∃ t, doPushSts u = .next t ∧ pcHas t d := ⟨_, rfl, pcHas_congr (saveStatus_pcstkp u) hpu⟩
  obtain ⟨v, hv, hpv⟩ := when_next o hpu hsts
  obtain ⟨w, hw⟩ := pushPcPointer_next hpv
  obtain ⟨w, hw, -⟩ := when_next (p := fun _ => True) p trivial ⟨w, hw, trivial⟩
  exact ⟨_, by rw [stackOps_pushes_eq, hu, Res.bind_next, hv, Res.bind_next, hw, Res.bind_next, ← flush_when]⟩

theorem stackOps_pops_next {d : Nat} (l o p f : Bool) (hp : pcHas s d) (hd : 0 < d) (hl : loopLost s = false)
    (hld : 0 < s.seq.ld) (hlost : s.sys.stkyx.val.getLsbD 23 = false) (hsts : s.seq.sts ≠ []) :
    ∃ t, exec (.stackOps20a false l false o false p f) s = .next t := by
  obtain ⟨e, rest, hsts⟩ := List.exists_cons_of_ne_nil hsts
  obtain ⟨u, hu, hptr, hsys, hsame⟩ :=
    when_next (p := fun t => t.seq.pcstkp = s.seq.pcstkp ∧ t.sys = s.sys ∧ t.seq.sts = s.seq.sts) l ⟨rfl, rfl, rfl⟩
      ⟨_, doPopLoop_of hl hld, rfl, rfl, rfl⟩
  have hpu : pcHas u d := pcHas_congr hptr hp
  obtain ⟨v, hv, hpv⟩ := when_next (p := (pcHas · d)) o hpu ⟨_, doPopSts_of (hsys ▸ hlost) (hsame.trans hsts), hpu⟩
  obtain ⟨w, hw, -⟩ := when_next (p := fun _ => True) p trivial ⟨_, doPopPcstk_of hpv hd, trivial⟩
  exact ⟨_, by rw [stackOps_pops_eq, hu, Res.bind_next, hv, Res.bind_next, hw, Res.bind_next, ← flush_when]⟩

/-- Settles O40: every instruction by the rule of its stack, a combined one by `stackOps_pushes` and `stackOps_pops`, and the
cache by the end of the step (`endStep_cache`). -/
theorem stackInstructions : Obligations.StackInstructions := by
  unfold Obligations.StackInstructions
  constructor
  · intro s events
    refine ⟨fun hl h => ?_, fun hl h => ⟨_, doPushLoop_full hl (by omega), rfl⟩, fun hl h => ⟨_, doPopLoop_of hl h, rfl⟩,
      fun h => ⟨_, doPushSts_room h, rfl, rfl⟩, fun h => ⟨_, doPushSts_full h, rfl⟩,
      fun h e rest hs => ⟨_, doPopSts_of h hs, rfl⟩, fun d hp hd => ?_,
      fun hp => ⟨_, pushPcPointer_full hp, rfl, rfl, rfl⟩, fun d hp hd => ?_, ⟨_, rfl, rfl⟩, ?_⟩
    · refine ⟨_, doPushLoop_room hl h, rfl, loopPushed_tested, fun k hk => ⟨?_, loopPushed_below k hk⟩⟩
      simp [loopPushed, State.syncLce, Vector.getElem_set_ne, Nat.ne_of_gt hk]
    · obtain ⟨entry, hpush⟩ := pushPcPointer_room hp hd
      obtain ⟨hup, -, hbelow⟩ := pushedPc_of (s := s) (t := pcPushed s d hd entry) hd rfl rfl
      refine ⟨_, hpush, ?_, hup, hbelow⟩
      unfold pcPushed
      split <;> rfl
    · exact ⟨_, doPopPcstk_of hp hd, rfl, (poppedPc_of (t := s.setDepth (d - 1)) hp rfl rfl).1⟩
    · intro l o p f d hp hl hlost chain some_
      refine ⟨fun _ => ?_, fun hd hld hsts => ?_⟩
      · obtain ⟨t, ht⟩ := stackOps_pushes_next l o p f hp hl
        exact ⟨t, (stackOps_pushes l o p f s).symm.trans ht, ht⟩
      · obtain ⟨t, ht⟩ := stackOps_pops_next l o p f hp hd hl hld hlost hsts
        exact ⟨t, (stackOps_pops l o p f s).symm.trans ht, ht⟩
  · intro s t h
    obtain ⟨ran, hstep⟩ := step_of_beforeEnd h
    obtain ⟨hflush, hhold, v, hcache⟩ := endStep_cache s.takeInput s.input ran t
    refine ⟨_, hstep, hflush, fun hf => by rw [hhold, hf]; rfl, fun hf k => ?_⟩
    rw [hcache, if_pos hf]
    exact clearCache_valid v k

end Sys2Proof.Machine
end

section
/-! A compute without a condition, element by element: what it does to one element it does from the element's state before the
instruction and leaves at its end, whatever the other element does (40_group1_compute_move.md R351). -/

namespace Sys2Proof.Safety

open Sys2Proof.Machine

variable {s t : State} {e e' : Elem}

/-! ## Writes to the other element -/

theorem elemSame.refl (s : State) (e : Elem) : elemSame s s e := ⟨rfl, rfl, rfl⟩

theorem elemSame.setPe (h : elemSame s t e') (hne : e' ≠ e) (p : Pe) : elemSame s (t.setPe e p) e' := by
  unfold elemSame
  rw [State.setPe_pe_ne _ hne, State.setPe_astat, State.setPe_stky]
  exact h

theorem elemSame.setAstat (h : elemSame s t e') (hne : e' ≠ e) (v : Word) : elemSame s (t.setAstat e v) e' := by
  unfold elemSame
  rw [State.setAstat_pe, State.setAstat_astat_ne _ hne, State.setAstat_stky]
  exact h

theorem elemSame.stick (h : elemSame s t e') (hne : e' ≠ e) (v : Word) : elemSame s (t.stick e v) e' := by
  unfold elemSame
  rw [State.stick_pe, State.stick_astat, State.stick_stky_ne _ hne]
  exact h

theorem elemSame.setReg (h : elemSame s t e') (hne : e' ≠ e) (n : RegNum) (v : Ext) :
    elemSame s (t.setReg e n v) e' := by
  unfold State.setReg
  dsimp only
  split <;> exact h.setPe hne _

theorem elemSame.setMr (h : elemSame s t e') (hne : e' ≠ e) (bg : Bool) (v : Acc) : elemSame s (t.setMr e bg v) e' := by
  unfold State.setMr
  split <;> exact h.setPe hne _

theorem elemSame.setFifo (h : elemSame s t e') (hne : e' ≠ e) (b : Long) (p : BitVec 7) :
    elemSame s (t.setFifo e b p) e' := h.setPe hne _

theorem elemSame.aluFlags (h : elemSame s t e') (hne : e' ≠ e) (f : AluFlags) : elemSame s (writeAluFlags e f t) e' :=
  (h.setAstat hne _).stick hne _

theorem elemSame.mulFlags (h : elemSame s t e') (hne : e' ≠ e) (f : MulFlags) : elemSame s (writeMulFlags e f t) e' :=
  (h.setAstat hne _).stick hne _

theorem elemSame.shfFlags (h : elemSame s t e') (hne : e' ≠ e) (sz sv ss : Bool) :
    elemSame s (writeShfFlags e sz sv ss t) e' := h.setAstat hne _

/-! ## Operations of the other element -/

theorem elemSame.putAlu (h : elemSame s t e') (hne : e' ≠ e) (n : RegNum) (o : AluOut) :
    elemSame s (putAlu e n o t) e' := (h.setReg hne _ _).aluFlags hne _

theorem elemSame.putCompare (h : elemSame s t e') (hne : e' ≠ e) (v : State) (eq lt gt ai af : Bool) :
    elemSame s (putCompare v e eq lt gt ai af t) e' := (h.aluFlags hne _).setAstat hne _

theorem elemSame.putMulReg (h : elemSame s t e') (hne : e' ≠ e) (n : RegNum) (r : Acc) (signed frac mv : Bool) :
    elemSame s (putMulReg e n r signed frac mv t) e' := (h.setReg hne _ _).mulFlags hne _

theorem elemSame.putMulAcc (h : elemSame s t e') (hne : e' ≠ e) (bg : Bool) (r : Acc) (signed frac mv : Bool) :
    elemSame s (putMulAcc e bg r signed frac mv t) e' := (h.setMr hne _ _).mulFlags hne _

theorem elemSame.mulToReg (h : elemSame s t e') (hne : e' ≠ e) (v : State) (op : MulRegOp) (md : MulMod)
    (n x y : RegNum) : elemSame s (mulToReg v e op md n x y t) e' := h.putMulReg hne _ _ _ _ _

theorem elemSame.mulToAcc (h : elemSame s t e') (hne : e' ≠ e) (v : State) (op : MulAccOp) (md : MulMod)
    (x y : RegNum) : elemSame s (mulToAcc v e op md x y t) e' := by
  cases op <;> exact h.putMulAcc hne _ _ _ _ _

theorem elemSame.fmulToReg (h : elemSame s t e') (hne : e' ≠ e) (v : State) (n x y : RegNum) :
    elemSame s (fmulToReg v e n x y t) e' := (h.setReg hne _ _).mulFlags hne _

theorem elemSame.putShf (h : elemSame s t e') (hne : e' ≠ e) (n : RegNum) (o : ShfOut) :
    elemSame s (putShf e n o t) e' := (h.setReg hne _ _).shfFlags hne _ _ _

theorem elemSame.bitDeposit (h : elemSame s t e') (hne : e' ≠ e) (v : State) (x : Word) (n : Nat) :
    elemSame s (bitDeposit v e x n t) e' := by
  unfold Machine.bitDeposit
  dsimp only
  split <;> exact (h.setFifo hne _ _).shfFlags hne _ _ _

theorem elemSame.bitExtract (h : elemSame s t e') (hne : e' ≠ e) (v : State) (nu : Bool) (rn : RegNum) (n : Nat) :
    elemSame s (bitExtract v e nu rn n t) e' := by
  unfold Machine.bitExtract
  refine elemSame.shfFlags ?_ hne _ _ _
  split
  · exact h.setReg hne _ _
  · split <;> exact (h.setReg hne _ _).setFifo hne _ _

theorem elemSame.putDual (h : elemSame s t e') (hne : e' ≠ e) (ra rs : RegNum) (a d : AluOut) :
    elemSame s (putDual e ra rs a d t) e' := ((h.setReg hne _ _).setReg hne _ _).aluFlags hne _

/-- An operation leaves the other element. -/
theorem elemSame.computeElem (h : elemSame s t e') (hne : e' ≠ e) (v : State) (c : Compute) :
    elemSame s (computeElem v e c t) e' := by
  cases c with
  | none => exact h
  | fix2 | fix1 | flt2 | flt1 => exact h.putAlu hne _ _
  | fixCmp | fltCmp => exact h.putCompare hne _ _ _ _ _ _
  | mulReg => exact h.mulToReg hne _ _ _ _ _ _
  | mulAcc => exact h.mulToAcc hne _ _ _ _ _
  | satReg | rndReg => exact h.putMulReg hne _ _ _ _ _
  | satAcc | rndAcc => exact h.putMulAcc hne _ _ _ _ _
  | clrAcc | mrSet => exact h.setMr hne _ _
  | fmul => exact h.fmulToReg hne _ _ _ _
  | mrGet => exact h.setReg hne _ _
  | shf | fld | shf1 => exact h.putShf hne _ _
  | btst => exact h.shfFlags hne _ _ _
  | bitdep => exact h.bitDeposit hne _ _ _
  | bitext => exact h.bitExtract hne _ _ _ _
  | bffwrpSet => exact (h.setFifo hne _ _).shfFlags hne _ _ _
  | bffwrpGet => exact (h.setReg hne _ _).shfFlags hne _ _ _
  | dualFix | dualFlt => exact h.putDual hne _ _ _ _
  | mulAluReg => exact (h.mulToReg hne _ _ _ _ _ _).putAlu hne _ _
  | mulAluAcc => exact (h.mulToAcc hne _ _ _ _ _).putAlu hne _ _
  | fmulAlu | fmulAbs => exact (h.fmulToReg hne _ _ _ _).putAlu hne _ _
  | mulDualFix => exact (h.mulToReg hne _ _ _ _ _ _).putDual hne _ _ _ _
  | mulDualFlt => exact (h.fmulToReg hne _ _ _ _).putDual hne _ _ _ _

/-! ## One element of two -/

/-- `t` differs from `s` in the units alone, and in nothing of the element `e`. -/
structure SameUnit (s t : State) (e : Elem) : Prop where
  units : onlyUnits s t
  elem : elemSame s t e

theorem SameUnit.refl (s : State) (e : Elem) : SameUnit s s e := ⟨onlyUnits.refl s, elemSame.refl s e⟩

theorem SameUnit.computeElem (hne : e' ≠ e) (v : State) (c : Compute) (t : State) :
    SameUnit t (computeElem v e c t) e' :=
  ⟨(onlyUnits.refl t).computeElem v e c, (elemSame.refl t e').computeElem hne v c⟩

theorem SameUnit.mode1 (h : SameUnit s t e) (b : Nat) : t.mode1 b = s.mode1 b := by
  rw [h.units]
  rfl

theorem SameUnit.reg (h : SameUnit s t e) (n : RegNum) : t.reg e n = s.reg e n := by
  obtain ⟨hpe, -, -⟩ := h.elem
  unfold State.reg State.altReg
  rw [h.mode1, h.mode1, hpe]

theorem SameUnit.astat (h : SameUnit s t e) : t.astat e = s.astat e := h.elem.2.1

theorem SameUnit.stky (h : SameUnit s t e) : t.stky e = s.stky e := h.elem.2.2

/-- A compute as a whole instruction does to each running element what it does to it alone. -/
theorem gives_compute {i : Instr} {c : Compute} {q : State → Elem → Prop} (hexec : exec i s = computeOnly c s)
    (hwf : c.wellFormed = true)
    (h : ∀ e t u, SameUnit s t e → SameUnit (Machine.computeElem s e c t) u e → q u e) :
    gives i s fun t => onRunning s (q t) := by
  refine ⟨_, hexec.trans (doCompute_wellFormed hwf s .open s), ?_⟩
  have hx := h .x s
  cases hsimd : s.simd with
  | false =>
    rw [onElems_x (by rw [hsimd]; rfl)]
    exact ⟨hx _ (.refl s .x) (.refl _ .x), fun hy => by rw [hsimd] at hy; cases hy⟩
  | true =>
    have hboth : onElems s .open (fun e => Machine.computeElem s e c) s =
        Machine.computeElem s .y c (Machine.computeElem s .x c s) := by
      unfold onElems
      rw [hsimd]
      rfl
    rw [hboth]
    exact ⟨hx _ (.refl s .x) (.computeElem (by decide) s c _),
      fun _ => h .y _ _ (.computeElem (by decide) s c s) (.refl _ .y)⟩

/-! ## Results of the ALU -/

/-- The result and the flags of `o`: what `fixResult` and `fltResult` say of a fixed-point and of a floating-point one. -/
def aluResult (s t : State) (e : Elem) (n : RegNum) (o : AluOut) : Prop :=
  t.reg e n = o.r ∧ aluFlagsAre t e o.f.az o.f.an o.f.av o.f.ac o.f.as o.f.ai o.f.af ∧ stuck s t e o.f.sticky

theorem putAlu_result (e : Elem) (n : RegNum) (o : AluOut) (t : State) : aluResult t (putAlu e n o t) e n o := by
  unfold Machine.putAlu
  refine ⟨by rw [writeAluFlags_reg, State.setReg_reg], writeAluFlags_flags e o.f _, ?_⟩
  have h := writeAluFlags_stuck e o.f (t.setReg e n o.r)
  unfold stuck at h ⊢
  rwa [State.setReg_stky] at h

theorem aluResult.congr {t₀ t u : State} {n : RegNum} {o : AluOut} (h : aluResult t₀ t e n o) (hs : SameUnit s t₀ e)
    (hu : SameUnit t u e) : aluResult s u e n o := by
  obtain ⟨hreg, hflags, hstuck⟩ := h
  refine ⟨by rw [hu.reg, hreg], ?_, ?_⟩
  · unfold aluFlagsAre at hflags ⊢
    rwa [hu.astat]
  · unfold stuck at hstuck ⊢
    rw [hu.stky, hstuck, hs.stky]

/-- An ALU operation leaves its result and its flags in each running element. -/
theorem gives_alu {i : Instr} {c : Compute} {n : RegNum} {o : Elem → AluOut} {q : State → Elem → Prop}
    (hexec : exec i s = computeOnly c s) (hwf : c.wellFormed = true)
    (hc : ∀ e t, Machine.computeElem s e c t = putAlu e n (o e) t) (hq : ∀ e t, aluResult s t e n (o e) → q t e) :
    gives i s fun t => onRunning s (q t) :=
  gives_compute hexec hwf fun e t u ht hu => hq e u ((putAlu_result e n (o e) t).congr ht (hc e t ▸ hu))

end Sys2Proof.Safety
end

section
/-! The fixed-point ALU (O3, O4, O5): each operation as its exact value with its flags, those of the adder by the value that it
takes to 32 bits (44_alu_fixed.md R520 to R542). -/

namespace Sys2Proof.Machine

open Sys2Proof.Safety

variable {s : State}

/-! ## Words as numbers -/

theorem Word.getLsbD_31 (a : Word) : a.getLsbD 31 = decide (a.toInt < 0) :=
  (BitVec.msb_eq_getLsbD_last a).symm.trans BitVec.msb_eq_toInt

theorem Word.toInt_not (a : Word) : (~~~a).toInt = -a.toInt - 1 := by
  have ha := BitVec.toInt_eq_toNat_cond a
  have hn := BitVec.toInt_eq_toNat_cond (~~~a)
  rw [BitVec.toNat_not] at hn
  have hlt := a.isLt
  split at ha <;> split at hn <;> omega

theorem fits32_iff {d : Int} : fits32 d = true ↔ -(2 ^ 31) ≤ d ∧ d < 2 ^ 31 := decide_eq_true_iff

theorem fits32_toInt (a : Word) : fits32 a.toInt = true := fits32_iff.mpr ⟨a.le_toInt, a.toInt_lt⟩

theorem toInt_ofInt_of_fits32 {d : Int} (h : fits32 d = true) : (BitVec.ofInt 32 d).toInt = d :=
  have ⟨hlow, hhigh⟩ := fits32_iff.mp h
  BitVec.toInt_ofInt_eq_self (by decide) hlow hhigh

/-! ## Results -/

/-- A fixed-point result with its flags, as `SetAluFix` makes them (R520 (e)). -/
def fixOut (r : Word) (av ac as : Bool) : AluOut := { r := r.toExt, f := fixFlags r av ac as }

/-- What an operation of the adder leaves of the exact value `d`. -/
def adderOut (s : State) (d : Int) (c as : Bool) : AluOut := fixOut (adderResult s d) (!fits32 d) c as

theorem fixResult_of_aluResult {t : State} {e : Elem} {n : RegNum} {o : AluOut} {r : Word} {av ac as : Bool}
    (h : aluResult s t e n o) (ho : o = fixOut r av ac as) : fixResult s t e n r av ac as := by
  subst ho
  exact h

theorem gives_fix1 {i : Instr} {op : FixOp1} {n x : RegNum} {r : Elem → Word} {av ac as : Elem → Bool}
    (hexec : exec i s = computeOnly (.fix1 op n x) s)
    (ho : ∀ e, fix1 (aluMode s e) op (s.reg32 e x) = fixOut (r e) (av e) (ac e) (as e)) :
    gives i s fun t => onRunning s fun e => fixResult s t e n (r e) (av e) (ac e) (as e) :=
  gives_alu hexec rfl (fun _ _ => rfl) fun e _ h => fixResult_of_aluResult h (ho e)

theorem gives_fix2 {i : Instr} {op : FixOp2} {n x y : RegNum} {r : Elem → Word} {av ac as : Elem → Bool}
    (hexec : exec i s = computeOnly (.fix2 op n x y) s)
    (ho : ∀ e, fix2 (aluMode s e) op (s.reg32 e x) (s.reg32 e y) = fixOut (r e) (av e) (ac e) (as e)) :
    gives i s fun t => onRunning s fun e => fixResult s t e n (r e) (av e) (ac e) (as e) :=
  gives_alu hexec rfl (fun _ _ => rfl) fun e _ h => fixResult_of_aluResult h (ho e)

/-! ## The adder (R520 (d)) -/

section

variable (a b : Word) (cin : Bool)

/-- The carries out of bits 31 and 30 differ where the exact sum does not fit. -/
theorem addCore_ov (sat : Bool) : (addCore sat a b cin).ov = !fits32 (a.toInt + b.toInt + cin.toNat) := by
  have ha := BitVec.toInt_eq_toNat_cond a
  have hb := BitVec.toInt_eq_toNat_cond b
  have hla := a.isLt
  have hlb := b.isLt
  have hc := cin.toNat_le
  unfold addCore fits32
  dsimp only
  rw [Bool.eq_iff_iff]
  simp only [bne_iff_ne, ne_eq, decide_eq_decide, Bool.not_eq_true', decide_eq_false_iff_not]
  split at ha <;> split at hb <;> omega

theorem ofNat_add_eq_ofInt :
    BitVec.ofNat 32 (a.toNat + b.toNat + cin.toNat) = .ofInt 32 (a.toInt + b.toInt + cin.toNat) := by
  have ha := BitVec.toInt_eq_toNat_cond a
  have hb := BitVec.toInt_eq_toNat_cond b
  apply BitVec.eq_of_toNat_eq
  rw [BitVec.toNat_ofNat, BitVec.toNat_ofInt]
  split at ha <;> split at hb <;> omega

/-- An exact sum that does not fit has the sign of the first operand. -/
theorem sign_of_not_fits32 (h : fits32 (a.toInt + b.toInt + cin.toNat) = false) :
    a.getLsbD 31 = decide (¬ 0 ≤ a.toInt + b.toInt + cin.toNat) := by
  have hla : a.toInt < 2 ^ 31 := a.toInt_lt
  have hlb : b.toInt < 2 ^ 31 := b.toInt_lt
  have hga : -2 ^ 31 ≤ a.toInt := a.le_toInt
  have hgb : -2 ^ 31 ≤ b.toInt := b.le_toInt
  have hc := cin.toNat_le
  have hfit := decide_eq_false_iff_not.mp h
  rw [Word.getLsbD_31, decide_eq_decide]
  omega

theorem addCore_r : (addCore (s.mode1 13) a b cin).r = adderResult s (a.toInt + b.toInt + cin.toNat) := by
  have hov := addCore_ov a b cin (s.mode1 13)
  have hsum := ofNat_add_eq_ofInt a b cin
  unfold adderResult
  rw [← hov]
  show (if (addCore (s.mode1 13) a b cin).ov && s.mode1 13 then _ else BitVec.ofNat 32 _) = _
  rw [hsum]
  split
  case isFalse => rfl
  case isTrue h =>
    have hfit : fits32 (a.toInt + b.toInt + cin.toNat) = false := by
      rw [Bool.and_eq_true, hov, Bool.not_eq_true'] at h
      exact h.1
    rw [sign_of_not_fits32 a b cin hfit]
    by_cases hd : 0 ≤ a.toInt + b.toInt + cin.toNat <;> simp [hd]

/-- The adder on two words and a carry, by the exact value `d` of their sum. -/
theorem addCore_eq {d : Int} {c : Bool} (hd : a.toInt + b.toInt + cin.toNat = d)
    (hc : 2 ^ 32 ≤ a.toNat + b.toNat + cin.toNat ↔ c = true) :
    addOut (addCore (s.mode1 13) a b cin) = adderOut s d c false := by
  subst hd
  have hcarry : (addCore (s.mode1 13) a b cin).c = c := by
    rw [Bool.eq_iff_iff, ← hc]
    exact decide_eq_true_iff
  unfold addOut adderOut fixOut
  rw [addCore_r, addCore_ov, hcarry]

end

/-! ## The operations of the adder (R521 to R524, R529 to R533) -/

variable (s) (e : Elem) (a b : Word)

theorem fix2_add : fix2 (aluMode s e) .add a b =
    adderOut s (a.toInt + b.toInt) (decide (2 ^ 32 ≤ a.toNat + b.toNat)) false :=
  addCore_eq a b false (by simp) (by simp)

theorem fix2_addCi : fix2 (aluMode s e) .addCi a b =
    adderOut s (a.toInt + b.toInt + ((s.astatEff e).getLsbD 3).toNat)
      (decide (2 ^ 32 ≤ a.toNat + b.toNat + ((s.astatEff e).getLsbD 3).toNat)) false :=
  addCore_eq a b _ rfl decide_eq_true_iff.symm

theorem fix2_sub : fix2 (aluMode s e) .sub a b =
    adderOut s (a.toInt - b.toInt) (decide (b.toNat ≤ a.toNat)) false := by
  refine addCore_eq a (~~~b) true ?_ ?_
  · rw [Word.toInt_not, Bool.toNat_true]
    omega
  · rw [BitVec.toNat_not, Bool.toNat_true, decide_eq_true_iff]
    omega

theorem fix2_subCi : fix2 (aluMode s e) .subCi a b =
    adderOut s (a.toInt - b.toInt + ((s.astatEff e).getLsbD 3).toNat - 1)
      (decide (b.toNat + 1 ≤ a.toNat + ((s.astatEff e).getLsbD 3).toNat)) false := by
  refine addCore_eq a (~~~b) ((s.astatEff e).getLsbD 3) ?_ ?_
  · rw [Word.toInt_not]
    omega
  · rw [BitVec.toNat_not, decide_eq_true_iff]
    omega

theorem fix1_incCi : fix1 (aluMode s e) .incCi a =
    adderOut s (a.toInt + ((s.astatEff e).getLsbD 3).toNat)
      (decide (2 ^ 32 ≤ a.toNat + ((s.astatEff e).getLsbD 3).toNat)) false :=
  addCore_eq a 0#32 ((s.astatEff e).getLsbD 3) (by simp) (by simp)

theorem fix1_decCi : fix1 (aluMode s e) .decCi a =
    adderOut s (a.toInt + ((s.astatEff e).getLsbD 3).toNat - 1)
      (decide (1 ≤ a.toNat + ((s.astatEff e).getLsbD 3).toNat)) false := by
  refine addCore_eq a 0xFFFFFFFF ((s.astatEff e).getLsbD 3) ?_ ?_
  · rw [show (0xFFFFFFFF : Word).toInt = -1 from rfl]
    omega
  · rw [show (0xFFFFFFFF : Word).toNat = 2 ^ 32 - 1 from rfl, decide_eq_true_iff]
    omega

theorem fix1_inc : fix1 (aluMode s e) .inc a =
    adderOut s (a.toInt + 1) (decide (2 ^ 32 ≤ a.toNat + 1)) false :=
  addCore_eq a 0#32 true (by simp) (by simp)

theorem fix1_dec : fix1 (aluMode s e) .dec a =
    adderOut s (a.toInt - 1) (decide (1 ≤ a.toNat)) false := by
  refine addCore_eq a 0xFFFFFFFF false ?_ ?_
  · rw [show (0xFFFFFFFF : Word).toInt = -1 from rfl, Bool.toNat_false]
    omega
  · rw [show (0xFFFFFFFF : Word).toNat = 2 ^ 32 - 1 from rfl, Bool.toNat_false, decide_eq_true_iff]
    omega

theorem fix1_neg : fix1 (aluMode s e) .neg a =
    adderOut s (-a.toInt) (decide (a.toNat = 0)) false := by
  refine addCore_eq 0#32 (~~~a) true ?_ ?_
  · rw [Word.toInt_not, BitVec.toInt_zero, Bool.toNat_true]
    omega
  · rw [BitVec.toNat_not, BitVec.toNat_zero, Bool.toNat_true, decide_eq_true_iff]
    omega

/-- Settles O3: each operation is the adder's on its exact value (`addCore_eq`). -/
theorem fixedAddSubtract : Obligations.FixedAddSubtract := by
  unfold Obligations.FixedAddSubtract
  intro s rn rx ry
  simp only [List.forall_mem_cons, List.not_mem_nil, IsEmpty.forall_iff, implies_true, and_true]
  exact ⟨gives_fix2 rfl fun e => fix2_add s e _ _, gives_fix2 rfl fun e => fix2_sub s e _ _,
    gives_fix2 rfl fun e => fix2_addCi s e _ _, gives_fix2 rfl fun e => fix2_subCi s e _ _,
    gives_fix1 rfl fun e => fix1_incCi s e _, gives_fix1 rfl fun e => fix1_decCi s e _,
    gives_fix1 rfl fun e => fix1_inc s e _, gives_fix1 rfl fun e => fix1_dec s e _,
    gives_fix1 rfl fun e => fix1_neg s e _, gives_fix2 rfl fun e => fix2_add s e _ _,
    gives_fix2 rfl fun e => fix2_sub s e _ _, gives_fix1 rfl fun e => fix1_inc s e _,
    gives_fix1 rfl fun e => fix1_dec s e _⟩

/-! ## Logic (R535 to R541) -/

/-- Settles O4: the operations clear AV, AC and AS, and their results are those of the statement by definition. -/
theorem fixedLogic : Obligations.FixedLogic := by
  unfold Obligations.FixedLogic
  intro s rn rx ry
  simp only [List.forall_mem_cons, List.not_mem_nil, IsEmpty.forall_iff, implies_true, and_true]
  exact ⟨gives_fix2 rfl fun _ => rfl, gives_fix2 rfl fun _ => rfl, gives_fix2 rfl fun _ => rfl,
    gives_fix1 rfl fun _ => rfl, gives_fix1 rfl fun _ => rfl, gives_fix2 rfl fun _ => rfl,
    gives_fix2 rfl fun _ => rfl⟩

/-! ## ABS, CLIP and the average (R534, R542, R525) -/

/-- ABS of a negative number is the adder's negation; else the operand. -/
theorem fix1_abs : fix1 (aluMode s e) .abs a = adderOut s |a.toInt| false (decide (a.toInt < 0)) := by
  show (if a.getLsbD 31 then
      fixOut (addCore (s.mode1 13) 0#32 (~~~a) true).r (addCore (s.mode1 13) 0#32 (~~~a) true).ov false true
    else plainOut a) = _
  rw [Word.getLsbD_31]
  by_cases ha : a.toInt < 0
  · have hd : (0#32).toInt + (~~~a).toInt + true.toNat = |a.toInt| := by
      rw [Word.toInt_not, BitVec.toInt_zero, Bool.toNat_true, abs_of_neg ha]
      omega
    rw [addCore_r, addCore_ov, hd, decide_eq_true ha, if_pos rfl]
    rfl
  · have hr : adderResult s a.toInt = a := by
      unfold adderResult
      rw [fits32_toInt, BitVec.ofInt_toInt]
      rfl
    rw [abs_of_nonneg (by omega), decide_eq_false ha, if_neg (by decide), adderOut, hr, fits32_toInt]
    rfl

theorem fixClip_eq : fixClip a b =
    .ofInt 32 (if 0 ≤ a.toInt then min a.toInt |b.toInt| else max a.toInt (-|b.toInt|)) := by
  unfold fixClip
  rw [← Int.natCast_natAbs b.toInt]
  split_ifs with hlt hpos hpos
  · rw [min_eq_left (by omega), BitVec.ofInt_toInt]
  · rw [max_eq_left (by omega), BitVec.ofInt_toInt]
  · rw [min_eq_right (by omega)]
  · rw [max_eq_right (by omega)]

/-- `q` is half of `d`, which TRUNC rounds down and else goes to the even neighbour (R525). -/
def Halves (trunc : Bool) (d q : Int) : Prop :=
  d = 2 * q ∨ if trunc then d = 2 * q + 1 else q % 2 = 0 ∧ |d - 2 * q| = 1

theorem halves_roundDown {trunc : Bool} {d : Int} (h : ¬ (trunc = false ∧ d % 2 = 1 ∧ d / 2 % 2 = 1)) :
    Halves trunc d (d / 2) := by
  by_cases heven : d % 2 = 0
  · exact .inl (by omega)
  · refine .inr ?_
    have hrem : d - 2 * (d / 2) = 1 := by omega
    cases trunc with
    | true => exact eq_add_of_sub_eq' hrem
    | false =>
      have hq : d / 2 % 2 = 0 := by
        have hodd : d / 2 % 2 ≠ 1 := fun hq => h ⟨rfl, by omega, hq⟩
        omega
      exact ⟨hq, by rw [hrem, abs_one]⟩

theorem halves_roundUp {d : Int} (hodd : d % 2 = 1) (hq : d / 2 % 2 = 1) : Halves false d (d / 2 + 1) := by
  have hrem : d - 2 * (d / 2 + 1) = -1 := by omega
  have heven : (d / 2 + 1) % 2 = 0 := by omega
  exact .inr ⟨heven, by rw [hrem, abs_neg, abs_one]⟩

/-- Half of the sum of two words fits a word, rounded either way. -/
theorem fix2_avg : ∃ r : Word, fix2 (aluMode s e) .avg a b = fixOut r false (decide (2 ^ 32 ≤ a.toNat + b.toNat)) false ∧
    Halves (s.mode1 15) (a.toInt + b.toInt) r.toInt := by
  refine ⟨_, rfl, ?_⟩
  obtain ⟨d, hd⟩ : ∃ d, d = a.toInt + b.toInt := ⟨_, rfl⟩
  have hrange : -(2 ^ 32) ≤ d ∧ d < 2 ^ 32 - 1 := by
    have hla : a.toInt < 2 ^ 31 := a.toInt_lt
    have hlb : b.toInt < 2 ^ 31 := b.toInt_lt
    have hga : -2 ^ 31 ≤ a.toInt := a.le_toInt
    have hgb : -2 ^ 31 ≤ b.toInt := b.le_toInt
    omega
  rw [← hd]
  split
  case isTrue h =>
    obtain ⟨⟨htrunc, hodd⟩, hq⟩ : (s.mode1 15 = false ∧ d % 2 = 1) ∧ d / 2 % 2 = 1 := by simpa [aluMode] using h
    rw [toInt_ofInt_of_fits32 (fits32_iff.mpr (by omega)), htrunc]
    exact halves_roundUp hodd hq
  case isFalse h =>
    rw [toInt_ofInt_of_fits32 (fits32_iff.mpr (by omega))]
    exact halves_roundDown fun ⟨htrunc, hodd, hq⟩ => h (by simp [aluMode, htrunc, hodd, hq])

/-- Settles O5: ABS and CLIP by their equations, the average as a rounding of the exact half (`Halves`). -/
theorem fixedAbsClipAverage : Obligations.FixedAbsClipAverage := by
  unfold Obligations.FixedAbsClipAverage
  intro s rn rx ry
  refine ⟨gives_fix1 rfl fun e => fix1_abs s e _, gives_fix2 rfl fun e => congrArg plainOut (fixClip_eq _ _), ?_, ?_⟩
  · refine gives_alu (c := .fix2 .avg rn rx ry) rfl rfl (fun _ _ => rfl) fun e t h => ?_
    obtain ⟨r, hr, hhalf⟩ := fix2_avg s e (s.reg32 e rx) (s.reg32 e ry)
    exact ⟨r, fixResult_of_aluResult h hr, hhalf⟩
  · simp only [List.forall_mem_cons, List.not_mem_nil, IsEmpty.forall_iff, implies_true, and_true]
    exact ⟨gives_fix1 rfl fun _ => rfl, gives_fix1 rfl fun _ => rfl, gives_fix2 rfl fun _ => rfl,
      gives_fix2 rfl fun _ => rfl, gives_fix2 rfl fun _ => rfl⟩

end Sys2Proof.Machine
end

section
/-! Compares (O9): the flags and CACC that a compare leaves, and that conditioned floating-point operands have the order of
their patterns (44_alu_fixed.md R527, R528; 45_alu_float.md R570). -/

namespace Sys2Proof.Machine

open Sys2Proof.Safety

variable {s : State}

/-! ## What a compare leaves -/

/-- CACC after a compare with the outcome `gt`: the bits of before one place down, and `gt` at bit 31 (R527). -/
def Accumulated (s t : State) (e : Elem) (gt : Bool) : Prop :=
  (t.astat e).val.getLsbD 31 = gt ∧ ∀ k, 24 ≤ k → k < 31 → (t.astat e).val.getLsbD k = (s.astatEff e).getLsbD (k + 1)

/-- The outcome of a compare: AZ, AN and CACC; with a NAN, AI and AIS. -/
def compareResult (s t : State) (e : Elem) (eq lt gt ai af : Bool) : Prop :=
  aluFlagsAre t e eq lt false false false ai af ∧ Accumulated s t e gt ∧ stuck s t e (bitIf ai 5)

theorem mask24_getLsbD (k : Nat) : (0xFF000000 : Word).getLsbD k = decide (24 ≤ k ∧ k < 32) := by
  by_cases h : k < 32
  · interval_cases k <;> rfl
  · rw [BitVec.getLsbD_of_ge _ _ (by omega), decide_eq_false (by omega)]

theorem compareAccumulate_getLsbD (e : Elem) (old : Word) (gt : Bool) (t : State) (k : Nat) :
    ((compareAccumulate e old gt t).astat e).val.getLsbD k =
      if 24 ≤ k ∧ k < 32 then (gt && decide (k = 31)) || old.getLsbD (k + 1) else (t.astat e).val.getLsbD k := by
  unfold compareAccumulate
  rw [State.setAstat_astat, Latent.hw_val, mergeBits_getLsbD, mask24_getLsbD, BitVec.getLsbD_or,
    bitIf_getLsbD _ (by decide), BitVec.getLsbD_ushiftRight, Nat.add_comm 1 k]
  simp only [decide_eq_true_eq]

theorem putCompare_result (s : State) (e : Elem) (eq lt gt ai af : Bool) (t : State) (ht : t.stky e = s.stky e) :
    compareResult s (putCompare s e eq lt gt ai af t) e eq lt gt ai af := by
  have hf := writeAluFlags_flags e (compareFlags eq lt ai af) t
  have hk := writeAluFlags_stuck e (compareFlags eq lt ai af) t
  unfold compareResult Accumulated Machine.putCompare
  refine ⟨?_, ⟨?_, fun k hlow hhigh => ?_⟩, ?_⟩
  · unfold aluFlagsAre at hf ⊢
    simp only [compareAccumulate_getLsbD]
    exact hf
  · rw [compareAccumulate_getLsbD, if_pos (by decide), BitVec.getLsbD_of_ge _ _ (by decide), decide_eq_true rfl,
      Bool.and_true, Bool.or_false]
  · rw [compareAccumulate_getLsbD, if_pos (by omega), decide_eq_false (by omega), Bool.and_false, Bool.false_or]
  · unfold stuck compareAccumulate at *
    rw [State.setAstat_stky, hk, ht]
    rfl

theorem compareResult.congr {t u : State} {e : Elem} {eq lt gt ai af : Bool} (h : compareResult s t e eq lt gt ai af)
    (hu : SameUnit t u e) : compareResult s u e eq lt gt ai af := by
  unfold compareResult Accumulated aluFlagsAre stuck at *
  rwa [hu.astat, hu.stky]

/-- A compare leaves its outcome in each running element. -/
theorem gives_compare {i : Instr} {c : Compute} {eq lt gt ai : Elem → Bool} {af : Bool} {q : State → Elem → Prop}
    (hexec : exec i s = computeOnly c s) (hwf : c.wellFormed = true)
    (hc : ∀ e t, computeElem s e c t = putCompare s e (eq e) (lt e) (gt e) (ai e) af t)
    (hq : ∀ e t, compareResult s t e (eq e) (lt e) (gt e) (ai e) af → q t e) :
    gives i s fun t => onRunning s (q t) :=
  gives_compute hexec hwf fun e t u ht hu =>
    hq e u ((putCompare_result s e (eq e) (lt e) (gt e) (ai e) af t ht.stky).congr (hc e t ▸ hu))

/-! ## The order of floating-point operands (45_alu_float.md R560, R570) -/

/-- A zero of any sign has the fraction 0: of the operands that an operation reads, `fpIn` sees to it (R561 (b)). -/
def Conditioned (v : Ext) : Prop := fpExp v = 0 → fpFrac v = 0

theorem fpMag_eq (v : Ext) : fpMag v = 2 ^ 31 * fpExp v + (fpFrac v).toNat := by
  unfold fpMag fpExp fpFrac
  simp only [BitVec.extractLsb'_toNat, Nat.shiftRight_eq_div_pow]
  omega

theorem fpFrac_fpZeroOf (b : Bool) : fpFrac (fpZeroOf b) = 0 := by cases b <;> decide

theorem fpZero_iff {v : Ext} : fpZero v = true ↔ fpExp v = 0 := beq_iff_eq

theorem conditioned_fpIn (rnd32 : Bool) (v : Ext) : Conditioned (fpIn rnd32 v) := by
  unfold fpIn
  generalize (if rnd32 then v &&& 0xFFFFFFFF00 else v) = w
  intro hexp
  by_cases hw : fpZero w = true
  · exact (congrArg fpFrac (if_pos hw)).trans (fpFrac_fpZeroOf _)
  · rw [if_neg hw] at hexp
    exact absurd (fpZero_iff.mpr hexp) hw

/-- The magnitude of a value as an integer, in units of 2 to the power -158. -/
def fpScaled (v : Ext) : Nat := fpMant v * 2 ^ fpExp v

theorem fpScaled_zero {v : Ext} (h : fpExp v = 0) : fpScaled v = 0 := by
  unfold fpScaled fpMant
  rw [if_pos (fpZero_iff.mpr h), Nat.zero_mul]

theorem fpScaled_normal {v : Ext} (h : fpExp v ≠ 0) : fpScaled v = (2 ^ 31 + (fpFrac v).toNat) * 2 ^ fpExp v := by
  unfold fpScaled fpMant
  rw [if_neg (mt fpZero_iff.mp h)]

theorem fpScaled_pos {v : Ext} (h : fpExp v ≠ 0) : 0 < fpScaled v := by
  rw [fpScaled_normal h]
  positivity

/-- The value as a signed number of those units. -/
def fpSigned (v : Ext) : Int := if fpSign v then -(fpScaled v : Int) else fpScaled v

theorem fpVal_eq (v : Ext) : fpVal v = (fpSigned v : ℚ) * 2 ^ (-158 : Int) := by
  unfold fpVal fpSigned fpScaled
  rw [sub_eq_add_neg, zpow_add₀ (by norm_num), zpow_natCast]
  split <;> push_cast <;> ring

variable {x y : Ext}

theorem fpMag_eq_zero_iff (hx : Conditioned x) : fpMag x = 0 ↔ fpExp x = 0 := by
  rw [fpMag_eq]
  refine ⟨fun h => by omega, fun h => ?_⟩
  rw [h, hx h]
  rfl

/-- The greater pattern has the greater magnitude: at one exponent by the fraction, else by the exponent. -/
theorem fpScaled_lt_of_fpMag_lt (hy : Conditioned y) (h : fpMag x < fpMag y) : fpScaled x < fpScaled y := by
  have hy0 : fpExp y ≠ 0 := fun hz => by
    have := (fpMag_eq_zero_iff hy).mpr hz
    omega
  by_cases hx0 : fpExp x = 0
  · rw [fpScaled_zero hx0]
    exact fpScaled_pos hy0
  rw [fpScaled_normal hx0, fpScaled_normal hy0]
  have hfx := (fpFrac x).isLt
  have hfy := (fpFrac y).isLt
  rw [fpMag_eq, fpMag_eq] at h
  obtain heq | hlt : fpExp x = fpExp y ∨ fpExp x < fpExp y := by omega
  · rw [heq]
    exact Nat.mul_lt_mul_of_pos_right (by omega) (by positivity)
  · calc (2 ^ 31 + (fpFrac x).toNat) * 2 ^ fpExp x
      _ < 2 ^ 32 * 2 ^ fpExp x := Nat.mul_lt_mul_of_pos_right (by omega) (by positivity)
      _ = 2 ^ 31 * 2 ^ (fpExp x + 1) := by ring
      _ ≤ (2 ^ 31 + (fpFrac y).toNat) * 2 ^ fpExp y :=
        Nat.mul_le_mul (Nat.le_add_right _ _) (Nat.pow_le_pow_right (by decide) hlt)

theorem fpScaled_eq_of_fpMag_eq (h : fpMag x = fpMag y) : fpScaled x = fpScaled y := by
  rw [fpMag_eq, fpMag_eq] at h
  have hfx := (fpFrac x).isLt
  have hfy := (fpFrac y).isLt
  have hexp : fpExp x = fpExp y := by omega
  have hfrac : fpFrac x = fpFrac y := BitVec.eq_of_toNat_eq (by omega)
  unfold fpScaled fpMant fpZero
  rw [hexp, hfrac]

theorem fpScaled_eq_zero_of_fpMag (hx : Conditioned x) (h : fpMag x = 0) : fpScaled x = 0 :=
  fpScaled_zero ((fpMag_eq_zero_iff hx).mp h)

theorem fpSigned_lt_iff (hx : Conditioned x) (hy : Conditioned y) : fpSigned x < fpSigned y ↔ fpOrder x < fpOrder y := by
  have hlt := fpScaled_lt_of_fpMag_lt (x := x) hy
  have hgt := fpScaled_lt_of_fpMag_lt (x := y) hx
  have heq := fpScaled_eq_of_fpMag_eq (x := x) (y := y)
  have hx0 := fpScaled_eq_zero_of_fpMag hx
  have hy0 := fpScaled_eq_zero_of_fpMag hy
  have hxp := fun h => fpScaled_pos (mt (fpMag_eq_zero_iff hx).mpr h)
  have hyp := fun h => fpScaled_pos (mt (fpMag_eq_zero_iff hy).mpr h)
  unfold fpSigned fpOrder
  split <;> split <;> omega

theorem fpVal_lt_iff (hx : Conditioned x) (hy : Conditioned y) : fpVal x < fpVal y ↔ fpOrder x < fpOrder y := by
  rw [fpVal_eq, fpVal_eq, mul_lt_mul_iff_left₀ (by positivity), Int.cast_lt, fpSigned_lt_iff hx hy]

theorem fpVal_eq_iff (hx : Conditioned x) (hy : Conditioned y) : fpVal x = fpVal y ↔ fpOrder x = fpOrder y := by
  simp only [le_antisymm_iff, ← not_lt, fpVal_lt_iff hx hy, fpVal_lt_iff hy hx]

/-! ## Infinities and NANs -/

theorem fpNan_of_finite (h : fpFinite x) : fpNan x = false := by
  unfold fpNan
  rw [beq_eq_false_iff_ne.mpr h, Bool.false_and]

theorem fpInf_iff : fpInf x = true ↔ fpExp x = 255 ∧ fpFrac x = 0 := by
  unfold fpInf
  rw [Bool.and_eq_true, beq_iff_eq, beq_iff_eq]

theorem fpNan_of_inf (h : fpInf x = true) : fpNan x = false := by
  unfold fpNan
  rw [(fpInf_iff.mp h).2]
  exact Bool.and_false _

theorem fpOrder_of_inf (h : fpInf x = true) : fpOrder x = if fpSign x then -(2 ^ 31 * 255) else 2 ^ 31 * 255 := by
  obtain ⟨hexp, hfrac⟩ := fpInf_iff.mp h
  unfold fpOrder
  rw [fpMag_eq, hexp, hfrac]
  rfl

/-- A finite operand lies between the infinities. -/
theorem fpOrder_of_finite (h : fpFinite x) : -(2 ^ 31 * 255) < fpOrder x ∧ fpOrder x < 2 ^ 31 * 255 := by
  have hexp : fpExp x < 2 ^ 8 := (x.extractLsb' 31 8).isLt
  have hfrac := (fpFrac x).isLt
  have hmag := fpMag_eq x
  unfold fpFinite at h
  unfold fpOrder
  split <;> omega

theorem fpOrder_inf_finite (hx : fpInf x = true) (hy : fpFinite y) :
    fpOrder x ≠ fpOrder y ∧ (fpOrder x < fpOrder y ↔ fpSign x = true) ∧
      (fpOrder y < fpOrder x ↔ (!fpSign x) = true) := by
  have hfin := fpOrder_of_finite hy
  rw [fpOrder_of_inf hx]
  cases fpSign x with
  | true => exact ⟨by simp; omega, by simp; omega, by simp; omega⟩
  | false => exact ⟨by simp; omega, by simp; omega, by simp; omega⟩

theorem fpOrder_inf_inf (hx : fpInf x = true) (hy : fpInf y = true) :
    (fpOrder x = fpOrder y ↔ (fpSign x == fpSign y) = true) ∧
      (fpOrder x < fpOrder y ↔ (fpSign x && !fpSign y) = true) := by
  rw [fpOrder_of_inf hx, fpOrder_of_inf hy]
  cases fpSign x <;> cases fpSign y <;> decide

/-! ## Compares -/

/-- The outcome of a floating-point compare, by the order of the patterns; a NAN compares as nothing (R570). -/
def fltCompared (s t : State) (e : Elem) (x y : Ext) : Prop :=
  compareResult s t e (!(fpNan x || fpNan y) && decide (fpOrder x = fpOrder y))
    (!(fpNan x || fpNan y) && decide (fpOrder x < fpOrder y)) (!(fpNan x || fpNan y) && decide (fpOrder y < fpOrder x))
    (fpNan x || fpNan y) true

theorem fltCompared.numbers {t : State} {e : Elem} {eq lt gt : Bool} (h : fltCompared s t e x y)
    (hx : fpNan x = false) (hy : fpNan y = false) (heq : fpOrder x = fpOrder y ↔ eq = true)
    (hlt : fpOrder x < fpOrder y ↔ lt = true) (hgt : fpOrder y < fpOrder x ↔ gt = true) :
    compareResult s t e eq lt gt false true := by
  have hnum : (fpNan x || fpNan y) = false := by rw [hx, hy, Bool.or_false]
  unfold fltCompared at h
  simpa only [hnum, heq, hlt, hgt, Bool.not_false, Bool.true_and, Bool.decide_eq_true] using h

theorem fltCompared.nan {t : State} {e : Elem} (h : fltCompared s t e x y) (hnan : (fpNan x || fpNan y) = true) :
    compareResult s t e false false false true true := by
  unfold fltCompared at h
  simpa only [hnan, Bool.not_true, Bool.false_and] using h

theorem gives_fltCompare {i : Instr} {x y : RegNum} {q : State → Elem → Prop}
    (hexec : exec i s = computeOnly (.fltCmp x y) s)
    (hq : ∀ e t, fltCompared s t e (fpOperand s e x) (fpOperand s e y) → q t e) :
    gives i s fun t => onRunning s (q t) :=
  gives_compare hexec rfl (fun _ _ => rfl) hq

/-- The outcome of a fixed-point compare, unsigned when `u` (R527, R528). -/
def fixCompared (s t : State) (e : Elem) (u : Bool) (x y : Word) : Prop :=
  let lt := if u then decide (x.toNat < y.toNat) else decide (x.toInt < y.toInt)
  aluFlagsAre t e (decide (x = y)) lt false false false false false ∧ stuck s t e 0 ∧
    Accumulated s t e (!lt && decide (x ≠ y))

theorem gives_fixCompare {i : Instr} {u : Bool} {x y : RegNum} {q : State → Elem → Prop}
    (hexec : exec i s = computeOnly (.fixCmp u x y) s)
    (hq : ∀ e t, fixCompared s t e u (s.reg32 e x) (s.reg32 e y) → q t e) :
    gives i s fun t => onRunning s (q t) := by
  refine gives_compare hexec rfl (fun _ _ => rfl) fun e t ⟨hflags, hcacc, hstuck⟩ => hq e t ⟨hflags, hstuck, ?_⟩
  rw [Bool.and_comm] at hcacc
  rw [decide_not]
  exact hcacc

/-- Settles O9: of a compare the flags and CACC are those of its outcome (`putCompare_result`), and the order of patterns is that
of values (`fpVal_lt_iff`), with the infinities beyond all finite ones (`fpOrder_of_finite`). -/
theorem compares : Obligations.Compares := by
  unfold Obligations.Compares
  constructor
  · intro s rx ry
    simp only [List.forall_mem_cons, List.not_mem_nil, IsEmpty.forall_iff, implies_true, and_true]
    exact ⟨gives_fixCompare rfl fun _ _ h => h, gives_fixCompare rfl fun _ _ h => h, gives_fixCompare rfl fun _ _ h => h⟩
  · intro s rx ry i hi
    have hexec : exec i s = computeOnly (.fltCmp rx ry) s := by
      simp only [List.mem_cons, List.not_mem_nil, or_false] at hi
      rcases hi with rfl | rfl <;> rfl
    refine gives_fltCompare hexec fun e t h => ?_
    have hcx : Conditioned (fpOperand s e rx) := conditioned_fpIn _ _
    have hcy : Conditioned (fpOperand s e ry) := conditioned_fpIn _ _
    generalize fpOperand s e rx = x at h hcx ⊢
    generalize fpOperand s e ry = y at h hcy ⊢
    refine ⟨fun hx hy => ?_, fun hx hy => ?_, fun hx hy => ?_, fun hx hy => ?_, fun hnan => h.nan hnan⟩
    · exact h.numbers (fpNan_of_finite hx) (fpNan_of_finite hy)
        ((fpVal_eq_iff hcx hcy).symm.trans decide_eq_true_iff.symm)
        ((fpVal_lt_iff hcx hcy).symm.trans decide_eq_true_iff.symm)
        ((fpVal_lt_iff hcy hcx).symm.trans decide_eq_true_iff.symm)
    · obtain ⟨hne, hlt, hgt⟩ := fpOrder_inf_finite hx hy
      exact h.numbers (fpNan_of_inf hx) (fpNan_of_finite hy) (by simpa using hne) hlt hgt
    · obtain ⟨hne, hgt, hlt⟩ := fpOrder_inf_finite hy hx
      exact h.numbers (fpNan_of_finite hx) (fpNan_of_inf hy) (by simpa using hne.symm) hlt hgt
    · obtain ⟨heq, hlt⟩ := fpOrder_inf_inf hx hy
      obtain ⟨-, hgt⟩ := fpOrder_inf_inf hy hx
      exact h.numbers (fpNan_of_inf hx) (fpNan_of_inf hy) heq hlt (by rw [hgt, Bool.and_comm])

end Sys2Proof.Machine
end

section
/-! Floating-point patterns: their fields, and what each operation that builds a pattern from fields makes of them
(45_alu_float.md R560). -/

namespace Sys2Proof.Machine

open Sys2Proof.Safety

variable (b : Bool) (v : Ext)

/-! ## A pattern as a number -/

theorem fpExp_lt : fpExp v < 256 := (v.extractLsb' 31 8).isLt

theorem fpMag_lt : fpMag v < 2 ^ 39 := (v.extractLsb' 0 39).isLt

theorem toNat_eq_fpMag : v.toNat = 2 ^ 39 * (fpSign v).toNat + fpMag v := by
  have hlt := v.isLt
  unfold fpSign fpMag
  rw [← BitVec.testBit_toNat, Nat.toNat_testBit, BitVec.extractLsb'_toNat, Nat.shiftRight_zero]
  omega

theorem toNat_injective : ∀ b c : Bool, b.toNat = c.toNat → b = c := by decide

variable {b v} in
theorem sign_mag_of_toNat {m : Nat} (h : v.toNat = 2 ^ 39 * b.toNat + m) (hm : m < 2 ^ 39) :
    fpSign v = b ∧ fpMag v = m := by
  have hfields := toNat_eq_fpMag v
  have hmag := fpMag_lt v
  exact ⟨toNat_injective _ _ (by omega), by omega⟩

variable {v} in
theorem exp_frac_of_fpMag {e : Nat} {f : BitVec 31} (h : fpMag v = 2 ^ 31 * e + f.toNat) :
    fpExp v = e ∧ fpFrac v = f := by
  have hv := (fpFrac v).isLt
  have hf := f.isLt
  rw [fpMag_eq] at h
  exact ⟨by omega, BitVec.eq_of_toNat_eq (by omega)⟩

variable {v} in
theorem eq_of_fields {w : Ext} (hs : fpSign v = fpSign w) (he : fpExp v = fpExp w) (hf : fpFrac v = fpFrac w) :
    v = w := by
  apply BitVec.eq_of_toNat_eq
  rw [toNat_eq_fpMag v, toNat_eq_fpMag w, fpMag_eq, fpMag_eq, hs, he, hf]

/-! ## Packing -/

theorem fpPack_fields {e : Nat} (he : e < 256) (f : BitVec 31) :
    fpSign (fpPack b e f) = b ∧ fpMag (fpPack b e f) = 2 ^ 31 * e + f.toNat := by
  have hf := f.isLt
  refine sign_mag_of_toNat ?_ (by omega)
  unfold fpPack
  simp only [BitVec.toNat_append, BitVec.toNat_ofBool, BitVec.toNat_ofNat, Nat.mod_eq_of_lt he]
  rw [← Nat.shiftLeft_add_eq_or_of_lt (by omega), ← Nat.shiftLeft_add_eq_or_of_lt (by omega), Nat.shiftLeft_eq,
    Nat.shiftLeft_eq]
  omega

theorem fpSign_fpPack {e : Nat} (he : e < 256) (f : BitVec 31) : fpSign (fpPack b e f) = b := (fpPack_fields b he f).1

theorem fpExp_fpPack {e : Nat} (he : e < 256) (f : BitVec 31) : fpExp (fpPack b e f) = e :=
  (exp_frac_of_fpMag (fpPack_fields b he f).2).1

theorem fpFrac_fpPack {e : Nat} (he : e < 256) (f : BitVec 31) : fpFrac (fpPack b e f) = f :=
  (exp_frac_of_fpMag (fpPack_fields b he f).2).2

@[simp] theorem fpSign_fpZeroOf : fpSign (fpZeroOf b) = b := fpSign_fpPack b (by decide) 0

@[simp] theorem fpExp_fpZeroOf : fpExp (fpZeroOf b) = 0 := fpExp_fpPack b (by decide) 0

@[simp] theorem fpSign_fpInfOf : fpSign (fpInfOf b) = b := fpSign_fpPack b (by decide) 0

@[simp] theorem fpExp_fpInfOf : fpExp (fpInfOf b) = 255 := fpExp_fpPack b (by decide) 0

@[simp] theorem fpFrac_fpInfOf : fpFrac (fpInfOf b) = 0 := fpFrac_fpPack b (by decide) 0

@[simp] theorem fpSign_fpNormMax (rnd32 : Bool) : fpSign (fpNormMax rnd32 b) = b := fpSign_fpPack b (by decide) _

variable {v} in
theorem fpInf_iff_eq : fpInf v = true ↔ v = fpInfOf (fpSign v) := by
  rw [fpInf_iff]
  refine ⟨fun ⟨he, hf⟩ => eq_of_fields (by simp) (by simp [he]) (by simp [hf]), fun h => ?_⟩
  rw [h]
  exact ⟨fpExp_fpInfOf _, fpFrac_fpInfOf _⟩

variable {v} in
theorem eq_fpZeroOf (hc : Conditioned v) (hz : fpExp v = 0) : v = fpZeroOf (fpSign v) :=
  eq_of_fields (by simp) (by simp [hz]) (by rw [hc hz, fpFrac_fpZeroOf])

/-! ## The sign replaced -/

@[simp] theorem fpSign_fpNegate : fpSign (fpNegate v) = !fpSign v := by
  unfold fpSign fpNegate
  rw [BitVec.getLsbD_xor]
  exact Bool.xor_true _

@[simp] theorem fpExp_fpNegate : fpExp (fpNegate v) = fpExp v := by
  unfold fpExp fpNegate
  rw [BitVec.extractLsb'_xor, show (0x8000000000 : Ext).extractLsb' 31 8 = 0#8 from rfl, BitVec.xor_zero]

@[simp] theorem fpFrac_fpNegate : fpFrac (fpNegate v) = fpFrac v := by
  unfold fpFrac fpNegate
  rw [BitVec.extractLsb'_xor, show (0x8000000000 : Ext).extractLsb' 0 31 = 0#31 from rfl, BitVec.xor_zero]

@[simp] theorem fpNegate_fpNegate : fpNegate (fpNegate v) = v := by
  unfold fpNegate
  rw [BitVec.xor_assoc, BitVec.xor_self, BitVec.xor_zero]

theorem fpSetSign_fields : fpSign (fpSetSign b v) = b ∧ fpMag (fpSetSign b v) = fpMag v := by
  refine sign_mag_of_toNat ?_ (fpMag_lt v)
  unfold fpSetSign
  rw [BitVec.toNat_append, BitVec.toNat_ofBool, ← Nat.shiftLeft_add_eq_or_of_lt (v.extractLsb' 0 39).isLt,
    Nat.shiftLeft_eq, Nat.mul_comm]
  rfl

@[simp] theorem fpSign_fpSetSign : fpSign (fpSetSign b v) = b := (fpSetSign_fields b v).1

@[simp] theorem fpMag_fpSetSign : fpMag (fpSetSign b v) = fpMag v := (fpSetSign_fields b v).2

@[simp] theorem fpExp_fpSetSign : fpExp (fpSetSign b v) = fpExp v :=
  (exp_frac_of_fpMag ((fpMag_fpSetSign b v).trans (fpMag_eq v))).1

@[simp] theorem fpFrac_fpSetSign : fpFrac (fpSetSign b v) = fpFrac v :=
  (exp_frac_of_fpMag ((fpMag_fpSetSign b v).trans (fpMag_eq v))).2

theorem fpSetSign_fpPack (c : Bool) {e : Nat} (he : e < 256) (f : BitVec 31) :
    fpSetSign b (fpPack c e f) = fpPack b e f :=
  eq_of_fields (by rw [fpSign_fpSetSign, fpSign_fpPack b he])
    (by rw [fpExp_fpSetSign, fpExp_fpPack c he, fpExp_fpPack b he])
    (by rw [fpFrac_fpSetSign, fpFrac_fpPack c he, fpFrac_fpPack b he])

/-! ## Classes -/

variable {v} {w : Ext}

theorem fpZero_congr (h : fpExp v = fpExp w) : fpZero v = fpZero w := by
  unfold fpZero
  rw [h]

theorem fpNan_congr (he : fpExp v = fpExp w) (hf : fpFrac v = fpFrac w) : fpNan v = fpNan w := by
  unfold fpNan
  rw [he, hf]

theorem fpInf_congr (he : fpExp v = fpExp w) (hf : fpFrac v = fpFrac w) : fpInf v = fpInf w := by
  unfold fpInf
  rw [he, hf]

@[simp] theorem fpNan_fpNegate (v : Ext) : fpNan (fpNegate v) = fpNan v := fpNan_congr (by simp) (by simp)

@[simp] theorem fpInf_fpNegate (v : Ext) : fpInf (fpNegate v) = fpInf v := fpInf_congr (by simp) (by simp)

@[simp] theorem fpZero_fpSetSign (b : Bool) (v : Ext) : fpZero (fpSetSign b v) = fpZero v := fpZero_congr (by simp)

theorem fpFinite_fpNegate : fpFinite (fpNegate v) ↔ fpFinite v := by
  unfold fpFinite
  rw [fpExp_fpNegate]

theorem conditioned_fpNegate (h : Conditioned v) : Conditioned (fpNegate v) := fun hz => by
  rw [fpFrac_fpNegate, h (by rwa [fpExp_fpNegate] at hz)]

theorem fpInf_of_finite (h : fpFinite v) : fpInf v = false := by
  unfold fpInf
  rw [beq_eq_false_iff_ne.mpr h, Bool.false_and]

theorem fpFinite_of_fpZero (h : fpZero v = true) : fpFinite v := by
  unfold fpFinite
  rw [fpZero_iff.mp h]
  decide

theorem fpZero_of_inf (h : fpInf v = true) : fpZero v = false := by
  unfold fpZero
  rw [(fpInf_iff.mp h).1]
  rfl

theorem fpZero_false_iff : fpZero v = false ↔ fpExp v ≠ 0 := beq_eq_false_iff_ne

/-- An operand is a NAN, an infinity or finite. -/
theorem finite_of_not_nan_inf (hn : fpNan v = false) (hi : fpInf v = false) : fpFinite v := fun h => by
  unfold fpNan at hn
  unfold fpInf at hi
  rw [h, beq_self_eq_true, Bool.true_and] at hn hi
  rw [bne, hi] at hn
  cases hn

end Sys2Proof.Machine
end

section
/-! The values of floating-point patterns, and rounding: of an exact value the result that `fpRound` gives, by the
integer that its significand is rounded to (45_alu_float.md R560, R561 (d)). -/

namespace Sys2Proof.Machine

open Sys2Proof.Safety

/-! ## Values -/

/-- The sign of a value as a factor. -/
def signFactor (b : Bool) : ℚ := if b then -1 else 1

theorem abs_signFactor_mul (b : Bool) (a : ℚ) : |signFactor b * a| = |a| := by
  cases b <;> simp [signFactor]

theorem signFactor_not (b : Bool) : signFactor (!b) = -signFactor b := by
  cases b <;> simp [signFactor]

theorem signFactor_xor (b c : Bool) : signFactor (b ^^ c) = signFactor b * signFactor c := by
  cases b <;> cases c <;> simp [signFactor]

theorem signFactor_mul_mul (b : Bool) (a c : ℚ) : signFactor b * a * (signFactor b * c) = a * c := by
  cases b <;> simp [signFactor]

theorem signFactor_mul_neg {a : ℚ} (ha : 0 < a) (b : Bool) : decide (signFactor b * a < 0) = b := by
  cases b <;> simp [signFactor, ha, ha.le]

variable {v : Ext}

theorem fpVal_eq_signFactor (v : Ext) :
    fpVal v = signFactor (fpSign v) * (fpMant v * (2 : ℚ) ^ ((fpExp v : Int) - 158)) := mul_assoc _ _ _

theorem abs_fpVal (v : Ext) : |fpVal v| = fpMant v * (2 : ℚ) ^ ((fpExp v : Int) - 158) := by
  rw [fpVal_eq_signFactor, abs_signFactor_mul, abs_of_nonneg (by positivity)]

theorem fpMant_of_ne_zero (h : fpExp v ≠ 0) : fpMant v = 2 ^ 31 + (fpFrac v).toNat := by
  unfold fpMant
  rw [fpZero_false_iff.mpr h]
  rfl

theorem fpMant_bounds (h : fpExp v ≠ 0) : 2 ^ 31 ≤ fpMant v ∧ fpMant v < 2 ^ 32 := by
  have hfrac := (fpFrac v).isLt
  rw [fpMant_of_ne_zero h]
  omega

theorem fpMant_of_zero (h : fpExp v = 0) : fpMant v = 0 := if_pos (fpZero_iff.mpr h)

theorem fpVal_of_zero (h : fpExp v = 0) : fpVal v = 0 := by
  rw [fpVal_eq_signFactor, fpMant_of_zero h]
  simp

theorem fpMant_ne_zero (h : fpExp v ≠ 0) : fpMant v ≠ 0 := by
  have := fpMant_bounds h
  omega

/-- A value that is not 0 lies in the binade of its exponent. -/
theorem abs_fpVal_bounds (h : fpExp v ≠ 0) :
    (2 : ℚ) ^ ((fpExp v : Int) - 127) ≤ |fpVal v| ∧ |fpVal v| < (2 : ℚ) ^ ((fpExp v : Int) - 126) := by
  obtain ⟨hlow, hhigh⟩ := fpMant_bounds h
  have hlow' : (2 : ℚ) ^ (31 : Int) ≤ fpMant v := by exact_mod_cast hlow
  have hhigh' : (fpMant v : ℚ) < (2 : ℚ) ^ (32 : Int) := by exact_mod_cast hhigh
  rw [abs_fpVal, show (fpExp v : Int) - 127 = 31 + (fpExp v - 158) by ring,
    show (fpExp v : Int) - 126 = 32 + (fpExp v - 158) by ring, zpow_add₀ (by norm_num), zpow_add₀ (by norm_num)]
  exact ⟨mul_le_mul_of_nonneg_right hlow' (by positivity), mul_lt_mul_of_pos_right hhigh' (by positivity)⟩

theorem fpVal_ne_zero (h : fpExp v ≠ 0) : fpVal v ≠ 0 :=
  abs_pos.mp (lt_of_lt_of_le (by positivity) (abs_fpVal_bounds h).1)

theorem fpVal_eq_zero_iff : fpVal v = 0 ↔ fpExp v = 0 := ⟨not_imp_not.mp fpVal_ne_zero, fpVal_of_zero⟩

theorem fpMant_congr {w : Ext} (he : fpExp v = fpExp w) (hf : fpFrac v = fpFrac w) : fpMant v = fpMant w := by
  unfold fpMant
  rw [fpZero_congr he, hf]

theorem fpVal_fpNegate (v : Ext) : fpVal (fpNegate v) = -fpVal v := by
  rw [fpVal_eq_signFactor, fpVal_eq_signFactor v, fpSign_fpNegate, signFactor_not, fpExp_fpNegate,
    fpMant_congr (fpExp_fpNegate v) (fpFrac_fpNegate v), neg_mul]

theorem fpVal_fpPack (b : Bool) {e : Nat} (he0 : e ≠ 0) (he : e < 256) (f : BitVec 31) :
    fpVal (fpPack b e f) = signFactor b * (((2 ^ 31 + f.toNat : Nat) : ℚ) * (2 : ℚ) ^ ((e : Int) - 158)) := by
  have hexp := fpExp_fpPack b he f
  rw [fpVal_eq_signFactor, fpMant_of_ne_zero (by rwa [hexp]), fpSign_fpPack b he, hexp, fpFrac_fpPack b he]

/-! ## Rounding to an integer -/

/-- `r` is `z` rounded toward zero or, unless `trunc`, to nearest with ties to even. -/
def RoundsTo (trunc : Bool) (r : Nat) (z : ℚ) : Prop :=
  if trunc then (r : ℚ) ≤ z ∧ z < r + 1 else |(r : ℚ) - z| ≤ 1 / 2 ∧ (|(r : ℚ) - z| = 1 / 2 → r % 2 = 0)

variable {trunc : Bool} {r : Nat} {z : ℚ}

theorem roundsTo_self (trunc : Bool) (r : Nat) : RoundsTo trunc r r := by
  unfold RoundsTo
  cases trunc <;> norm_num

theorem RoundsTo.bounds (h : RoundsTo trunc r z) : (r : ℚ) - 1 / 2 ≤ z ∧ z < r + 1 := by
  unfold RoundsTo at h
  cases trunc with
  | true =>
    obtain ⟨hlow, hhigh⟩ := h
    exact ⟨by linarith, hhigh⟩
  | false =>
    obtain ⟨hlow, hhigh⟩ := abs_le.mp h.1
    exact ⟨by linarith, by linarith⟩

theorem RoundsTo.le_of_le (h : RoundsTo trunc r z) {n : Nat} (hz : z ≤ n) : r ≤ n := by
  have hlt : (r : ℚ) < (n + 1 : Nat) := by
    push_cast
    linarith [h.bounds.1]
  exact Nat.lt_succ_iff.mp (by exact_mod_cast hlt)

theorem RoundsTo.le_of_ge (h : RoundsTo trunc r z) {n : Nat} (hz : n ≤ z) : n ≤ r := by
  have hlt : (n : ℚ) < (r + 1 : Nat) := by
    push_cast
    linarith [h.bounds.2]
  exact Nat.lt_succ_iff.mp (by exact_mod_cast hlt)

/-- Half of a value that rounds to an even integer rounds to half of that. -/
theorem RoundsTo.half (h : RoundsTo trunc (2 * r) z) : RoundsTo trunc r (z / 2) := by
  unfold RoundsTo at *
  cases trunc with
  | true =>
    obtain ⟨hlow, hhigh⟩ := h
    push_cast at hlow hhigh
    exact ⟨by linarith, by linarith⟩
  | false =>
    have hquarter : |(r : ℚ) - z / 2| ≤ 1 / 4 := by
      have habs : (r : ℚ) - z / 2 = (((2 * r : Nat) : ℚ) - z) / 2 := by
        push_cast
        ring
      rw [habs, abs_div, abs_two]
      linarith [h.1]
    exact ⟨by linarith, fun htie => by linarith⟩

section Quotient

variable {q k D : Nat}

theorem div_le_half_iff (hD : 0 < D) : (k : ℚ) / D ≤ 1 / 2 ↔ 2 * k ≤ D := by
  rw [div_le_div_iff₀ (by exact_mod_cast hD) two_pos, one_mul, mul_comm]
  exact_mod_cast Iff.rfl

theorem half_le_div_iff (hD : 0 < D) : 1 / 2 ≤ (k : ℚ) / D ↔ D ≤ 2 * k := by
  rw [div_le_div_iff₀ two_pos (by exact_mod_cast hD), one_mul, mul_comm (k : ℚ)]
  exact_mod_cast Iff.rfl

theorem div_eq_half_iff (hD : 0 < D) : (k : ℚ) / D = 1 / 2 ↔ 2 * k = D := by
  rw [le_antisymm_iff, div_le_half_iff hD, half_le_div_iff hD, le_antisymm_iff]

theorem div_lt_one_of_lt (hk : k < D) : (k : ℚ) / D < 1 :=
  (div_lt_one (by exact_mod_cast Nat.zero_lt_of_lt hk)).mpr (by exact_mod_cast hk)

theorem roundsTo_down (hk : k < D) (h : trunc = false → 2 * k ≤ D ∧ (2 * k = D → q % 2 = 0)) :
    RoundsTo trunc q (q + (k : ℚ) / D) := by
  have hD := Nat.zero_lt_of_lt hk
  have hpos : 0 ≤ (k : ℚ) / D := by positivity
  cases trunc with
  | true => exact ⟨by linarith, by linarith [div_lt_one_of_lt hk]⟩
  | false =>
    show _ ∧ _
    rw [sub_add_cancel_left, abs_neg, abs_of_nonneg hpos, div_le_half_iff hD, div_eq_half_iff hD]
    exact h rfl

theorem roundsTo_up (hk : k < D) (h : D ≤ 2 * k ∧ (2 * k = D → q % 2 = 1)) :
    RoundsTo false (q + 1) (q + (k : ℚ) / D) := by
  have hD := Nat.zero_lt_of_lt hk
  have hdist : ((q + 1 : Nat) : ℚ) - (q + (k : ℚ) / D) = 1 - (k : ℚ) / D := by
    push_cast
    ring
  show _ ∧ _
  rw [hdist, abs_of_nonneg (by linarith [div_lt_one_of_lt hk])]
  refine ⟨by linarith [(half_le_div_iff hD).mpr h.1], fun htie => ?_⟩
  have hodd := h.2 ((div_eq_half_iff hD).mp (by linarith))
  omega

end Quotient

/-- `shiftRound` divides by its power of two. -/
theorem shiftRound_roundsTo (trunc : Bool) (m sh : Nat) : RoundsTo trunc (shiftRound trunc m sh) (m / 2 ^ sh) := by
  have hk := Nat.mod_lt m (show 0 < 2 ^ sh by positivity)
  have hsh : sh = 0 → 2 ^ sh = 1 := fun h => by rw [h, pow_zero]
  have hz : (m : ℚ) / 2 ^ sh = (m / 2 ^ sh : Nat) + ((m % 2 ^ sh : Nat) : ℚ) / (2 ^ sh : Nat) := by
    have hdiv : (m : ℚ) = (2 ^ sh : Nat) * (m / 2 ^ sh : Nat) + (m % 2 ^ sh : Nat) := by
      exact_mod_cast (Nat.div_add_mod m (2 ^ sh)).symm
    have hne : ((2 ^ sh : Nat) : ℚ) ≠ 0 := by positivity
    rw [show (2 : ℚ) ^ sh = (2 ^ sh : Nat) by push_cast; rfl, div_eq_iff hne, add_mul, div_mul_cancel₀ _ hne,
      mul_comm _ ((2 ^ sh : Nat) : ℚ)]
    exact hdiv
  unfold shiftRound
  dsimp only
  rw [hz]
  generalize 2 ^ sh = D at *
  split
  case isTrue h =>
    simp only [Bool.and_eq_true, Bool.not_eq_true', Bool.or_eq_true, decide_eq_true_eq] at h
    obtain ⟨⟨rfl, hup⟩, -⟩ := h
    exact roundsTo_up hk (by omega)
  case isFalse h =>
    refine roundsTo_down hk fun htrunc => ?_
    simp only [htrunc, Bool.not_false, Bool.true_and, Bool.and_eq_true, Bool.or_eq_true, decide_eq_true_eq] at h
    omega

end Sys2Proof.Machine
end

section
/-! `fpRound` gives of an exact value what R561 (d) says: its significand, rounded to an integer of the boundary's
width, under the exponent that it has after the carry of rounding. -/

namespace Sys2Proof.Machine

open Sys2Proof.Safety

/-! ## The significand -/

/-- The places of a significand below its hidden bit. -/
def fpPlaces (b32 : Bool) : Nat := if b32 then 23 else 31

/-- `q` is a significand of `p` places to which `z` rounds. Just below the hidden bit `z` is within a quarter of it:
there a carry has halved it. -/
structure Normalizes (trunc : Bool) (p q : Nat) (z : ℚ) : Prop where
  low : 2 ^ p ≤ q
  high : q < 2 ^ (p + 1)
  rounds : RoundsTo trunc q z
  near : (2 : ℚ) ^ p - 1 / 4 ≤ z

/-- The pattern of significand `q` and exponent `top`. -/
def fpAssemble (b32 s : Bool) (top : Int) (q : Nat) : Ext :=
  fpPack s (top + 127).toNat (.ofNat 31 ((q - 2 ^ fpPlaces b32) * 2 ^ (31 - fpPlaces b32)))

/-- The result of significand `q` and exponent `top`. -/
def fpFinish (trunc b32 s : Bool) (top : Int) (q : Nat) : FpOut :=
  if 127 < top then .overflow trunc b32 s
  else if top < -126 then .underflow s
  else .exact (fpAssemble b32 s top q)

/-- The significand before the carry. -/
def fpSignificand (trunc : Bool) (p m : Nat) : Nat :=
  if m.log2 ≤ p then m * 2 ^ (p - m.log2) else shiftRound trunc m (m.log2 - p)

variable {trunc : Bool} {m : Nat}

/-- A value of few enough places is its own significand. -/
theorem fpSignificand_of_fits (trunc : Bool) {p m : Nat} (h : m.log2 ≤ p) :
    (fpSignificand trunc p m : ℚ) = m * (2 : ℚ) ^ ((p : Int) - m.log2) := by
  unfold fpSignificand
  rw [if_pos h, ← Nat.cast_sub h, zpow_natCast]
  push_cast
  rfl

theorem fpSignificand_roundsTo (trunc : Bool) (p m : Nat) :
    RoundsTo trunc (fpSignificand trunc p m) (m * (2 : ℚ) ^ ((p : Int) - m.log2)) := by
  by_cases h : m.log2 ≤ p
  · rw [← fpSignificand_of_fits trunc h]
    exact roundsTo_self _ _
  · have hval : (m : ℚ) * (2 : ℚ) ^ ((p : Int) - m.log2) = m / 2 ^ (m.log2 - p) := by
      rw [← neg_sub, ← Nat.cast_sub (by omega), zpow_neg, zpow_natCast, div_eq_mul_inv]
    unfold fpSignificand
    rw [if_neg h, hval]
    exact shiftRound_roundsTo _ _ _

theorem log2_bounds (hm : m ≠ 0) (p : Nat) :
    (2 : ℚ) ^ p ≤ m * (2 : ℚ) ^ ((p : Int) - m.log2) ∧ m * (2 : ℚ) ^ ((p : Int) - m.log2) < (2 : ℚ) ^ (p + 1) := by
  have hlow : (2 : ℚ) ^ m.log2 ≤ m := by exact_mod_cast Nat.log2_self_le hm
  have hhigh : (m : ℚ) < (2 : ℚ) ^ (m.log2 + 1) := by exact_mod_cast Nat.lt_log2_self
  have hp (k : Nat) : (2 : ℚ) ^ (p + k) = 2 ^ (m.log2 + k) * 2 ^ ((p : Int) - m.log2) := by
    rw [← zpow_natCast, ← zpow_natCast, ← zpow_add₀ (by norm_num)]
    congr 1
    push_cast
    ring
  rw [hp 1, show (2 : ℚ) ^ p = 2 ^ m.log2 * 2 ^ ((p : Int) - m.log2) from hp 0]
  exact ⟨mul_le_mul_of_nonneg_right hlow (by positivity), mul_lt_mul_of_pos_right hhigh (by positivity)⟩

theorem fpSignificand_bounds (trunc : Bool) (hm : m ≠ 0) (p : Nat) :
    2 ^ p ≤ fpSignificand trunc p m ∧ fpSignificand trunc p m ≤ 2 ^ (p + 1) := by
  have hround := fpSignificand_roundsTo trunc p m
  obtain ⟨hlow, hhigh⟩ := log2_bounds hm p
  exact ⟨hround.le_of_ge (by exact_mod_cast hlow), hround.le_of_le (by exact_mod_cast hhigh.le)⟩

/-- `fpRound` by its significand and its carry. -/
theorem fpRound_def (trunc b32 s : Bool) (m : Nat) (x : Int) :
    fpRound trunc b32 s m x =
      fpFinish trunc b32 s
        (if decide (2 ^ (fpPlaces b32 + 1) ≤ fpSignificand trunc (fpPlaces b32) m) then (m.log2 : Int) + x + 1
          else m.log2 + x)
        (if decide (2 ^ (fpPlaces b32 + 1) ≤ fpSignificand trunc (fpPlaces b32) m) then 2 ^ fpPlaces b32
          else fpSignificand trunc (fpPlaces b32) m) := rfl

theorem fpRound_of_carry {b32 : Bool} (h : 2 ^ (fpPlaces b32 + 1) ≤ fpSignificand trunc (fpPlaces b32) m) (s : Bool)
    (x : Int) : fpRound trunc b32 s m x = fpFinish trunc b32 s (m.log2 + x + 1) (2 ^ fpPlaces b32) := by
  rw [fpRound_def, decide_eq_true h, if_pos rfl, if_pos rfl]

theorem fpRound_of_no_carry {b32 : Bool} (h : fpSignificand trunc (fpPlaces b32) m < 2 ^ (fpPlaces b32 + 1)) (s : Bool)
    (x : Int) :
    fpRound trunc b32 s m x = fpFinish trunc b32 s (m.log2 + x) (fpSignificand trunc (fpPlaces b32) m) := by
  rw [fpRound_def, decide_eq_false (by omega), if_neg Bool.false_ne_true, if_neg Bool.false_ne_true]

/-- Rounding finds a significand and an exponent, the same for both signs. -/
theorem fpRound_eq (trunc b32 : Bool) (hm : m ≠ 0) (x : Int) :
    ∃ q top, Normalizes trunc (fpPlaces b32) q (m * (2 : ℚ) ^ (x + fpPlaces b32 - top)) ∧
      ∀ s, fpRound trunc b32 s m x = fpFinish trunc b32 s top q := by
  have hround := fpSignificand_roundsTo trunc (fpPlaces b32) m
  obtain ⟨hge, hle⟩ := fpSignificand_bounds trunc hm (fpPlaces b32)
  obtain hcarry | hcarry := le_or_gt (2 ^ (fpPlaces b32 + 1)) (fpSignificand trunc (fpPlaces b32) m)
  · refine ⟨2 ^ fpPlaces b32, m.log2 + x + 1, ?_, fun s => fpRound_of_carry hcarry s x⟩
    have heq : fpSignificand trunc (fpPlaces b32) m = 2 * 2 ^ fpPlaces b32 := by
      rw [← pow_succ']
      exact le_antisymm hle hcarry
    have hhalf : (m : ℚ) * (2 : ℚ) ^ (x + fpPlaces b32 - (m.log2 + x + 1)) =
        m * (2 : ℚ) ^ ((fpPlaces b32 : Int) - m.log2) / 2 := by
      rw [show x + fpPlaces b32 - ((m.log2 : Int) + x + 1) = (fpPlaces b32 - m.log2) - 1 by ring,
        zpow_sub_one₀ (by norm_num)]
      ring
    rw [heq] at hround
    have hnear := hround.bounds.1
    push_cast at hnear
    rw [hhalf]
    exact
      { low := le_rfl, high := Nat.pow_lt_pow_right (by decide) (by omega), rounds := hround.half, near := by linarith }
  · refine ⟨fpSignificand trunc (fpPlaces b32) m, m.log2 + x, ?_, fun s => fpRound_of_no_carry hcarry s x⟩
    rw [show x + fpPlaces b32 - ((m.log2 : Int) + x) = fpPlaces b32 - m.log2 by ring]
    exact { low := hge, high := hcarry, rounds := hround, near := by linarith [(log2_bounds hm (fpPlaces b32)).1] }

/-! ## The result -/

section Finish

variable {b32 : Bool} {top : Int} {q : Nat} {z : ℚ}

theorem fpPlaces_bounds (b32 : Bool) : 23 ≤ fpPlaces b32 ∧ fpPlaces b32 ≤ 31 := by
  cases b32 <;> decide

/-- The exponent is that of the exact value, but for one that rounding carries up. -/
theorem Normalizes.exponent (h : Normalizes trunc (fpPlaces b32) q z) (top : Int) :
    (2 : ℚ) ^ top * (1 - (2 : ℚ) ^ (-25 : Int)) ≤ z * (2 : ℚ) ^ (top - fpPlaces b32) ∧
      z * (2 : ℚ) ^ (top - fpPlaces b32) < (2 : ℚ) ^ (top + 1) := by
  obtain ⟨hp, -⟩ := fpPlaces_bounds b32
  have hpow (k : Int) : (2 : ℚ) ^ (top + k) = (2 : ℚ) ^ (fpPlaces b32 + k) * (2 : ℚ) ^ (top - fpPlaces b32) := by
    rw [← zpow_add₀ (by norm_num)]
    congr 1
    ring
  have hpow0 : (2 : ℚ) ^ top = (2 : ℚ) ^ fpPlaces b32 * (2 : ℚ) ^ (top - fpPlaces b32) := by simpa using hpow 0
  have hhigh : z < (2 : ℚ) ^ ((fpPlaces b32 : Int) + 1) := by
    have hq : ((q + 1 : Nat) : ℚ) ≤ (2 ^ (fpPlaces b32 + 1) : Nat) := by exact_mod_cast h.high
    push_cast at hq
    exact lt_of_lt_of_le h.rounds.bounds.2 (by exact_mod_cast hq)
  have hlow : (2 : ℚ) ^ fpPlaces b32 * (1 - (2 : ℚ) ^ (-25 : Int)) ≤ z := by
    have hquarter : 1 / 4 ≤ (2 : ℚ) ^ fpPlaces b32 * (2 : ℚ) ^ (-25 : Int) := by
      have := pow_le_pow_right₀ (one_le_two : (1 : ℚ) ≤ 2) hp
      norm_num at this ⊢
      linarith
    rw [mul_sub, mul_one]
    exact (sub_le_sub_left hquarter _).trans h.near
  rw [hpow 1, hpow0, mul_right_comm]
  exact ⟨mul_le_mul_of_nonneg_right hlow (by positivity), mul_lt_mul_of_pos_right hhigh (by positivity)⟩

/-- A significand below its hidden bit, in the places of a 31-bit fraction. -/
theorem fraction_toNat (hlow : 2 ^ fpPlaces b32 ≤ q) (hhigh : q < 2 ^ (fpPlaces b32 + 1)) :
    2 ^ 31 + (BitVec.ofNat 31 ((q - 2 ^ fpPlaces b32) * 2 ^ (31 - fpPlaces b32))).toNat =
      q * 2 ^ (31 - fpPlaces b32) := by
  rw [BitVec.toNat_ofNat]
  cases b32 <;> simp only [fpPlaces, Bool.false_eq_true, if_true, if_false] at * <;> omega

section InRange

variable (s : Bool) (hlow : -126 ≤ top) (hhigh : top ≤ 127)

include hlow hhigh

theorem fpExp_fpAssemble : (fpExp (fpAssemble b32 s top q) : Int) = top + 127 := by
  unfold fpAssemble
  rw [fpExp_fpPack s (by omega), Int.toNat_of_nonneg (by omega)]

theorem fpUlp_fpAssemble : fpUlp b32 (fpAssemble b32 s top q) = (2 : ℚ) ^ (top - fpPlaces b32) := by
  unfold fpUlp fpPlaces
  rw [fpExp_fpAssemble s hlow hhigh]
  congr 1
  cases b32 <;> simp only [Bool.false_eq_true, if_true, if_false] <;> ring

theorem fpVal_fpAssemble (hq : 2 ^ fpPlaces b32 ≤ q) (hq' : q < 2 ^ (fpPlaces b32 + 1)) :
    fpVal (fpAssemble b32 s top q) = signFactor s * (q * (2 : ℚ) ^ (top - fpPlaces b32)) := by
  unfold fpAssemble
  rw [fpVal_fpPack s (by omega) (by omega), fraction_toNat hq hq', Int.toNat_of_nonneg (by omega), Nat.cast_mul,
    mul_assoc (q : ℚ), Nat.cast_pow, Nat.cast_ofNat, ← zpow_natCast, ← zpow_add₀ (by norm_num),
    Nat.cast_sub (fpPlaces_bounds b32).2]
  congr 3
  push_cast
  ring

/-- Below the boundary the pattern is 0, and its last bit is that of the significand. -/
theorem fpAssemble_bits (hq : 2 ^ fpPlaces b32 ≤ q) (hq' : q < 2 ^ (fpPlaces b32 + 1)) :
    (b32 = true → (fpAssemble b32 s top q).extractLsb' 0 8 = 0) ∧
      (q % 2 = 0 → (fpAssemble b32 s top q).getLsbD (if b32 then 8 else 0) = false) := by
  have hfrac := congrArg BitVec.toNat (fpFrac_fpPack s (show (top + 127).toNat < 256 by omega)
    (.ofNat 31 ((q - 2 ^ fpPlaces b32) * 2 ^ (31 - fpPlaces b32))))
  have hnat := fraction_toNat hq hq'
  rw [← hfrac] at hnat
  change 2 ^ 31 + ((fpAssemble b32 s top q).extractLsb' 0 31).toNat = _ at hnat
  rw [BitVec.extractLsb'_toNat, Nat.shiftRight_zero] at hnat
  constructor
  · rintro rfl
    apply BitVec.eq_of_toNat_eq
    rw [BitVec.extractLsb'_toNat, Nat.shiftRight_zero]
    show _ = 0
    simp only [fpPlaces, if_true] at hnat
    omega
  · intro heven
    rw [← BitVec.testBit_toNat, Nat.testBit_eq_decide_div_mod_eq]
    cases b32 <;> simp only [fpPlaces, Bool.false_eq_true, if_true, if_false, decide_eq_false_iff_not] at * <;> omega

/-- In range, the pattern is the exact value rounded. -/
theorem fpRounds_fpAssemble (h : Normalizes trunc (fpPlaces b32) q z) :
    fpRounds trunc b32 (fpAssemble b32 s top q) (signFactor s * (z * (2 : ℚ) ^ (top - fpPlaces b32))) := by
  have hfin := fpExp_fpAssemble (b32 := b32) (q := q) s hlow hhigh
  obtain ⟨hbyte, heven⟩ := fpAssemble_bits s hlow hhigh h.low h.high
  have hu : (0 : ℚ) < 2 ^ (top - fpPlaces b32) := by positivity
  have hdist : |signFactor s * (q * (2 : ℚ) ^ (top - fpPlaces b32)) -
      signFactor s * (z * (2 : ℚ) ^ (top - fpPlaces b32))| = |(q : ℚ) - z| * (2 : ℚ) ^ (top - fpPlaces b32) := by
    rw [← mul_sub, abs_signFactor_mul, ← sub_mul, abs_mul, abs_of_pos hu]
  unfold fpRounds
  rw [fpVal_fpAssemble s hlow hhigh h.low h.high, fpUlp_fpAssemble s hlow hhigh, hdist]
  refine ⟨fun h255 => by omega, hbyte, ?_, ?_⟩
  · rintro rfl
    obtain ⟨hnear, htie⟩ := h.rounds
    rw [div_eq_mul_one_div ((2 : ℚ) ^ (top - fpPlaces b32)) 2, mul_comm _ (1 / 2 : ℚ)]
    exact ⟨mul_le_mul_of_nonneg_right hnear hu.le, fun heq => heven (htie (mul_right_cancel₀ hu.ne' heq))⟩
  · rintro rfl
    obtain ⟨hdown, hup⟩ := h.rounds
    have hq : (0 : ℚ) ≤ q := by positivity
    have hz := hq.trans hdown
    refine ⟨?_, ?_, ?_⟩
    · rw [abs_signFactor_mul, abs_signFactor_mul, abs_mul, abs_mul, abs_of_nonneg hq, abs_of_nonneg hz]
      exact mul_le_mul_of_nonneg_right hdown (abs_nonneg _)
    · rw [abs_sub_comm, abs_of_nonneg (by linarith)]
      exact mul_lt_of_lt_one_left hu (by linarith)
    · rw [signFactor_mul_mul]
      positivity

end InRange

variable (trunc b32 top q) in
theorem fpFinish_cases (s : Bool) :
    (127 < top ∧ fpFinish trunc b32 s top q = .overflow trunc b32 s) ∨
      (top < -126 ∧ fpFinish trunc b32 s top q = .underflow s) ∨
      (-126 ≤ top ∧ top ≤ 127 ∧ fpFinish trunc b32 s top q = .exact (fpAssemble b32 s top q)) := by
  unfold fpFinish
  split_ifs with hover hunder
  · exact .inl ⟨hover, rfl⟩
  · exact .inr (.inl ⟨hunder, rfl⟩)
  · exact .inr (.inr ⟨by omega, by omega, rfl⟩)

/-- What the result is in each range of the exact value: the exponent is the one for its range, for rounding carries
nothing across the gaps that `fpResult` leaves. -/
theorem fpResult_fpFinish (h : Normalizes trunc (fpPlaces b32) q z) (hz : 0 < z) (s : Bool) :
    fpResult trunc b32 (signFactor s * (z * (2 : ℚ) ^ (top - fpPlaces b32))) (fpFinish trunc b32 s top q).v
      (fpFinish trunc b32 s top q).av (fpFinish trunc b32 s top q).au := by
  obtain ⟨hge, hlt⟩ := h.exponent top
  have hpos : 0 < z * (2 : ℚ) ^ (top - fpPlaces b32) := by positivity
  have hmono {i j : Int} (hij : i ≤ j) : (2 : ℚ) ^ i ≤ 2 ^ j := zpow_le_zpow_right₀ one_le_two hij
  have hround := fun hlow hhigh => fpRounds_fpAssemble (top := top) s hlow hhigh h
  unfold fpResult fpNormal
  rw [abs_signFactor_mul, abs_of_pos hpos, signFactor_mul_neg hpos]
  generalize z * (2 : ℚ) ^ (top - fpPlaces b32) = a at *
  obtain ⟨hover, heq⟩ | ⟨hunder, heq⟩ | ⟨hlow, hhigh, heq⟩ := fpFinish_cases trunc b32 top q s
  · have hbig := hmono (show 128 ≤ top by omega)
    rw [heq]
    refine ⟨fun ⟨_, hle⟩ => ?_, fun _ => ⟨rfl, rfl, rfl⟩, fun _ hle => ?_⟩ <;> norm_num at hge hbig hle <;> linarith
  · have hsmall := hmono (show top + 1 ≤ -126 by omega)
    rw [heq]
    refine ⟨fun ⟨hle, _⟩ => ?_, fun hle => ?_, fun _ _ => ⟨rfl, rfl, rfl⟩⟩ <;> norm_num at hlt hsmall hle <;> linarith
  · have hsmall := hmono hlow
    have hbig := hmono (show top + 1 ≤ 128 by omega)
    rw [heq]
    refine ⟨fun _ => ⟨hround hlow hhigh, rfl, rfl⟩, fun hle => ?_, fun _ hle => ?_⟩
    · norm_num at hlt hbig hle
      linarith
    · norm_num at hge hsmall hle
      linarith

theorem fpSign_overflow (trunc b32 s : Bool) : fpSign (FpOut.overflow trunc b32 s).v = s := by
  cases trunc
  · exact fpSign_fpInfOf s
  · exact fpSign_fpNormMax s b32

theorem fpFinish_sign (s : Bool) : fpSign (fpFinish trunc b32 s top q).v = s := by
  obtain ⟨-, heq⟩ | ⟨-, heq⟩ | ⟨hlow, hhigh, heq⟩ := fpFinish_cases trunc b32 top q s <;> rw [heq]
  · exact fpSign_overflow trunc b32 s
  · exact fpSign_fpZeroOf s
  · exact fpSign_fpPack s (by omega) _

theorem fpFinish_ai (s : Bool) : (fpFinish trunc b32 s top q).ai = false := by
  obtain ⟨-, heq⟩ | ⟨-, heq⟩ | ⟨-, -, heq⟩ := fpFinish_cases trunc b32 top q s <;> rw [heq] <;> rfl

end Finish

/-! ## `fpRound` -/

variable {m : Nat} (trunc b32 s : Bool) (x : Int)

/-- A result that is valid and has the sign `s`. -/
structure FpOut.Valid (o : FpOut) (s : Bool) : Prop where
  sign : fpSign o.v = s
  ai : o.ai = false

theorem fpRound_valid (hm : m ≠ 0) : (fpRound trunc b32 s m x).Valid s := by
  obtain ⟨q, top, -, heq⟩ := fpRound_eq trunc b32 hm x
  rw [heq]
  exact ⟨fpFinish_sign s, fpFinish_ai s⟩

theorem fpResult_fpRound (hm : m ≠ 0) :
    fpResult trunc b32 (signFactor s * (m * (2 : ℚ) ^ x)) (fpRound trunc b32 s m x).v (fpRound trunc b32 s m x).av
      (fpRound trunc b32 s m x).au := by
  obtain ⟨q, top, hnorm, heq⟩ := fpRound_eq trunc b32 hm x
  have hval : (m : ℚ) * (2 : ℚ) ^ x = m * (2 : ℚ) ^ (x + fpPlaces b32 - top) * (2 : ℚ) ^ (top - fpPlaces b32) := by
    rw [mul_assoc, ← zpow_add₀ (by norm_num)]
    congr 2
    ring
  rw [heq, hval]
  exact fpResult_fpFinish hnorm (by have := Nat.pos_of_ne_zero hm; positivity) s

/-- A result with the sign replaced. -/
def FpOut.setSign (c : Bool) (o : FpOut) : FpOut := { o with v := fpSetSign c o.v }

/-- The sign of the exact value is the sign of the result, and nothing else of it. -/
theorem fpRound_setSign (hm : m ≠ 0) (c : Bool) :
    (fpRound trunc b32 s m x).setSign c = fpRound trunc b32 c m x := by
  obtain ⟨q, top, -, heq⟩ := fpRound_eq trunc b32 hm x
  rw [heq, heq]
  unfold fpFinish fpAssemble FpOut.setSign
  split_ifs with hover hunder
  · unfold FpOut.overflow
    cases trunc <;> exact congrArg (FpOut.mk · true false false) (fpSetSign_fpPack c s (by decide) _)
  · exact congrArg (FpOut.mk · false true false) (fpSetSign_fpPack c s (by decide) _)
  · exact congrArg (FpOut.mk · false false false) (fpSetSign_fpPack c s (by omega) _)

/-- A value of few enough places in range is not rounded at all. -/
theorem fpVal_fpRound_of_fits (hm : m ≠ 0) (hfits : m.log2 ≤ fpPlaces b32) (hq : fpNormal ((m : ℚ) * (2 : ℚ) ^ x)) :
    fpVal (fpRound trunc b32 s m x).v = signFactor s * (m * (2 : ℚ) ^ x) := by
  have hexact := fpSignificand_of_fits trunc hfits
  obtain ⟨hlow, -⟩ := fpSignificand_bounds trunc hm (fpPlaces b32)
  have hhigh : fpSignificand trunc (fpPlaces b32) m < 2 ^ (fpPlaces b32 + 1) := by
    have hlt := (log2_bounds hm (fpPlaces b32)).2
    rw [← hexact] at hlt
    exact_mod_cast hlt
  have hnormal : fpNormal (signFactor s * (m * (2 : ℚ) ^ x)) := by
    unfold fpNormal at *
    rwa [abs_signFactor_mul]
  obtain ⟨-, hav, hau⟩ := (fpResult_fpRound trunc b32 s x hm).1 hnormal
  rw [fpRound_of_no_carry hhigh] at hav hau ⊢
  obtain ⟨-, heq⟩ | ⟨-, heq⟩ | ⟨hmin, hmax, heq⟩ :=
    fpFinish_cases trunc b32 (m.log2 + x) (fpSignificand trunc (fpPlaces b32) m) s
  · rw [heq] at hav
    cases hav
  · rw [heq] at hau
    cases hau
  · rw [heq]
    refine (fpVal_fpAssemble s hmin hmax hlow hhigh).trans ?_
    rw [hexact, mul_assoc, ← zpow_add₀ (by norm_num)]
    congr 3
    ring

end Sys2Proof.Machine
end

section
/-! Floating-point sums and products of finite operands (O6, O7): the exact value as an integer times a power of two,
rounded by `fpRound` (45_alu_float.md R562 to R566; 46_multiplier.md R630). -/

namespace Sys2Proof.Machine

open Sys2Proof.Safety

variable {s t : State} {e : Elem} {n : RegNum} {o : FpOut} {x y : Ext} {q : ℚ} {z : Ext}

/-! ## Results of the floating-point ALU -/

theorem gives_flt2 {i : Instr} {op : FltOp2} {n x y : RegNum} {p : State → Elem → Prop}
    (hexec : exec i s = computeOnly (.flt2 op n x y) s)
    (hp : ∀ e t, aluResult s t e n (flt2 (aluMode s e) op (s.reg e x) (s.reg e y)) → p t e) :
    gives i s fun t => onRunning s (p t) := gives_alu hexec rfl (fun _ _ => rfl) hp

theorem gives_flt1 {i : Instr} {op : FltOp1} {n x : RegNum} {p : State → Elem → Prop}
    (hexec : exec i s = computeOnly (.flt1 op n x) s)
    (hp : ∀ e t, aluResult s t e n (flt1 (aluMode s e) op (s.reg e x)) → p t e) :
    gives i s fun t => onRunning s (p t) := gives_alu hexec rfl (fun _ _ => rfl) hp

/-- A result that is no invalid operation, with its flags. -/
theorem fltResult_of_valid {b : Bool} (h : aluResult s t e n o.out) (ho : o.Valid b) :
    fltResult s t e n o.v b o.av false false (bitIf o.au 0 ||| bitIf o.av 1) := by
  obtain ⟨hreg, hflags, hstuck⟩ := h
  obtain ⟨rfl, hai⟩ := ho
  have hsticky : o.out.f.sticky = bitIf o.au 0 ||| bitIf o.av 1 := by
    show bitIf o.au 0 ||| bitIf o.av 1 ||| bitIf o.ai 5 = _
    rw [hai]
    exact BitVec.or_zero
  rw [hsticky] at hstuck
  rw [show o.out.f.ai = false from hai] at hflags
  exact ⟨hreg, hflags, hstuck⟩

theorem fltResult_exact {v : Ext} (h : aluResult s t e n (FpOut.exact v).out) :
    fltResult s t e n v (fpSign v) false false false 0 := by
  have hvalid := fltResult_of_valid h ⟨rfl, rfl⟩
  rwa [show bitIf (FpOut.exact v).au 0 ||| bitIf (FpOut.exact v).av 1 = 0 from
    (by decide : bitIf false 0 ||| bitIf false 1 = 0)] at hvalid

/-- `o` is the exact value `q` rounded; a zero is `z`. -/
structure RoundsExact (trunc b32 : Bool) (q : ℚ) (z : Ext) (o : FpOut) : Prop where
  result : fpResult trunc b32 q o.v o.av o.au
  zero : q = 0 → o.v = z ∧ o.av = false ∧ o.au = false
  ai : o.ai = false

theorem fltRounded_of_out (h : aluResult s t e n o.out) (ho : RoundsExact (s.mode1 15) (s.mode1 16) q z o) :
    fltRounded s t e n q z :=
  ⟨o.v, o.av, o.au, ho.result, ho.zero, fltResult_of_valid h ⟨rfl, ho.ai⟩⟩

theorem fpResult_zero (trunc b32 : Bool) (v : Ext) (ov un : Bool) : fpResult trunc b32 0 v ov un := by
  unfold fpResult fpNormal
  refine ⟨fun ⟨h, _⟩ => ?_, fun h => ?_, fun h => absurd rfl h⟩ <;> norm_num at h

theorem roundsExact_zero (trunc b32 : Bool) (z : Ext) : RoundsExact trunc b32 0 z (.exact z) :=
  ⟨fpResult_zero _ _ _ _ _, fun _ => ⟨rfl, rfl, rfl⟩, rfl⟩

theorem roundsExact_fpRound (trunc b32 b : Bool) {m : Nat} (hm : m ≠ 0) (k : Int) (z : Ext) :
    RoundsExact trunc b32 (signFactor b * (m * (2 : ℚ) ^ k)) z (fpRound trunc b32 b m k) where
  result := fpResult_fpRound trunc b32 b k hm
  zero h := by
    have hpos : (0 : ℚ) < m * 2 ^ k := by
      have := Nat.pos_of_ne_zero hm
      positivity
    have habs := abs_signFactor_mul b (m * (2 : ℚ) ^ k)
    rw [h, abs_zero, abs_of_pos hpos] at habs
    exact absurd habs hpos.ne
  ai := (fpRound_valid trunc b32 b k hm).ai

/-! ## Sums -/

/-- The sum of two finite operands in units of the smaller of their last places. -/
def fpSum (x y : Ext) : Int :=
  (if fpSign x then -((fpMant x : Int) * 2 ^ (fpExp x - min (fpExp x) (fpExp y)))
    else (fpMant x : Int) * 2 ^ (fpExp x - min (fpExp x) (fpExp y))) +
  if fpSign y then -((fpMant y : Int) * 2 ^ (fpExp y - min (fpExp x) (fpExp y)))
    else (fpMant y : Int) * 2 ^ (fpExp y - min (fpExp x) (fpExp y))

/-- The power of two of that unit, for half of the sum when `half`. -/
def fpSumPow (half : Bool) (x y : Ext) : Int := (min (fpExp x) (fpExp y) : Nat) - 158 - (if half then 1 else 0)

theorem fpVal_at (v : Ext) {p : Nat} (hp : p ≤ fpExp v) :
    ((if fpSign v then -((fpMant v : Int) * 2 ^ (fpExp v - p)) else (fpMant v : Int) * 2 ^ (fpExp v - p) : Int) : ℚ) *
      (2 : ℚ) ^ ((p : Int) - 158) = fpVal v := by
  have hpow : (2 : ℚ) ^ ((fpExp v : Int) - 158) = 2 ^ (fpExp v - p) * (2 : ℚ) ^ ((p : Int) - 158) := by
    rw [← zpow_natCast, ← zpow_add₀ (by norm_num), Nat.cast_sub hp]
    congr 1
    ring
  rw [fpVal_eq_signFactor, hpow]
  cases fpSign v <;> simp [signFactor] <;> ring

theorem fpSum_mul (half : Bool) (x y : Ext) :
    (fpSum x y : ℚ) * (2 : ℚ) ^ fpSumPow half x y = if half then (fpVal x + fpVal y) / 2 else fpVal x + fpVal y := by
  have hsum : (fpSum x y : ℚ) * (2 : ℚ) ^ (((min (fpExp x) (fpExp y) : Nat) : Int) - 158) = fpVal x + fpVal y := by
    rw [← fpVal_at x (Nat.min_le_left _ (fpExp y)), ← fpVal_at y (Nat.min_le_right (fpExp x) _), ← add_mul,
      ← Int.cast_add]
    rfl
  unfold fpSumPow
  cases half with
  | false => simpa using hsum
  | true =>
    rw [if_pos rfl, if_pos rfl, ← hsum, zpow_sub_one₀ (by norm_num)]
    ring

theorem signFactor_natAbs (k : Int) : signFactor (decide (k < 0)) * (k.natAbs : ℚ) = k := by
  unfold signFactor
  by_cases h : k < 0
  · rw [decide_eq_true h, if_pos rfl, Nat.cast_natAbs, abs_of_neg h]
    push_cast
    ring
  · rw [decide_eq_false h, if_neg Bool.false_ne_true, Nat.cast_natAbs, abs_of_nonneg (by omega), one_mul]

theorem fpAdd_finite (m : AluMode) (half : Bool) (hx : fpFinite x) (hy : fpFinite y) :
    fpAdd m half x y = if fpSum x y = 0 then .exact (fpZeroOf (fpSign x && fpSign y && fpZero x && fpZero y))
      else fpRound m.trunc m.rnd32 (decide (fpSum x y < 0)) (fpSum x y).natAbs (fpSumPow half x y) := by
  unfold fpAdd
  rw [fpNan_of_finite hx, fpNan_of_finite hy, fpInf_of_finite hx, fpInf_of_finite hy]
  rfl

/-- The sign of a sum that is exactly zero (R561 (e)). -/
theorem fpZeroOf_both (hx : Conditioned x) (hy : Conditioned y) :
    fpZeroOf (fpSign x && fpSign y && fpZero x && fpZero y) =
      if (x, y) = (fpZeroOf true, fpZeroOf true) then fpZeroOf true else fpZeroOf false := by
  have hneg {v : Ext} (hv : Conditioned v) : v = fpZeroOf true ↔ fpSign v = true ∧ fpZero v = true := by
    refine ⟨fun h => h ▸ ⟨fpSign_fpZeroOf true, rfl⟩, fun ⟨hs, hz⟩ => ?_⟩
    have h := eq_fpZeroOf hv (fpZero_iff.mp hz)
    rwa [hs] at h
  have hboth : (x, y) = (fpZeroOf true, fpZeroOf true) ↔ (fpSign x && fpSign y && fpZero x && fpZero y) = true := by
    simp only [Prod.mk.injEq, hneg hx, hneg hy, Bool.and_eq_true]
    tauto
  cases h : fpSign x && fpSign y && fpZero x && fpZero y with
  | true => rw [if_pos (hboth.mpr h)]
  | false => rw [if_neg (mt hboth.mp (by rw [h]; decide))]

/-- The sum of finite operands is rounded from its exact value. -/
theorem fpAdd_roundsExact (m : AluMode) (half : Bool) (hx : fpFinite x) (hy : fpFinite y) (hcx : Conditioned x)
    (hcy : Conditioned y) :
    RoundsExact m.trunc m.rnd32 (if half then (fpVal x + fpVal y) / 2 else fpVal x + fpVal y)
      (if (x, y) = (fpZeroOf true, fpZeroOf true) then fpZeroOf true else fpZeroOf false) (fpAdd m half x y) := by
  rw [fpAdd_finite m half hx hy, ← fpSum_mul, ← fpZeroOf_both hcx hcy]
  split
  case isTrue h =>
    rw [h, Int.cast_zero, zero_mul]
    exact roundsExact_zero _ _ _
  case isFalse h =>
    rw [← signFactor_natAbs (fpSum x y), mul_assoc]
    exact roundsExact_fpRound _ _ _ (Int.natAbs_ne_zero.mpr h) _ _

theorem FpOut.absOut_eq (ho : o.ai = false) : o.absOut = (o.setSign false).out := by
  unfold FpOut.absOut FpOut.out FpOut.setSign
  rw [ho, fpSign_fpSetSign]
  rfl

/-- The magnitude of the sum is rounded from the exact magnitude. -/
theorem fpAdd_abs_roundsExact (m : AluMode) (hx : fpFinite x) (hy : fpFinite y) :
    RoundsExact m.trunc m.rnd32 |fpVal x + fpVal y| (fpZeroOf false)
      ((fpAdd m false x y).setSign false) := by
  have hval : |fpVal x + fpVal y| = signFactor false * (((fpSum x y).natAbs : ℚ) * (2 : ℚ) ^ fpSumPow false x y) := by
    rw [← show _ = fpVal x + fpVal y from fpSum_mul false x y, abs_mul, Nat.cast_natAbs, Int.cast_abs,
      abs_of_nonneg (show (0 : ℚ) ≤ 2 ^ fpSumPow false x y by positivity)]
    exact (one_mul _).symm
  rw [fpAdd_finite m false hx hy, hval]
  split
  case isTrue h =>
    have hzero (b : Bool) : (FpOut.exact (fpZeroOf b)).setSign false = .exact (fpZeroOf false) :=
      congrArg FpOut.exact (fpSetSign_fpPack false b (by decide) 0)
    rw [h, Int.natAbs_zero, Nat.cast_zero, zero_mul, mul_zero, hzero]
    exact roundsExact_zero _ _ _
  case isFalse h =>
    have hm := Int.natAbs_ne_zero.mpr h
    rw [fpRound_setSign m.trunc m.rnd32 _ _ hm false]
    exact roundsExact_fpRound _ _ _ hm _ _

theorem fltRounded_fpAdd {half : Bool} (h : aluResult s t e n (fpAdd (aluMode s e) half x y).out) (hx : fpFinite x)
    (hy : fpFinite y) (hcx : Conditioned x) (hcy : Conditioned y) :
    fltRounded s t e n (if half then (fpVal x + fpVal y) / 2 else fpVal x + fpVal y)
      (if (x, y) = (fpZeroOf true, fpZeroOf true) then fpZeroOf true else fpZeroOf false) :=
  fltRounded_of_out h (fpAdd_roundsExact (aluMode s e) half hx hy hcx hcy)

theorem fltRounded_absOut (h : aluResult s t e n (fpAdd (aluMode s e) false x y).absOut) (hx : fpFinite x)
    (hy : fpFinite y) : fltRounded s t e n |fpVal x + fpVal y| (fpZeroOf false) := by
  have habs := fpAdd_abs_roundsExact (aluMode s e) hx hy
  rw [FpOut.absOut_eq (show (fpAdd _ _ _ _).ai = false from habs.ai)] at h
  exact fltRounded_of_out h habs

theorem fpVal_sub_eq (x y : Ext) : fpVal x - fpVal y = fpVal x + fpVal (fpNegate y) := by
  rw [fpVal_fpNegate, sub_eq_add_neg]

/-- Settles O6: each operation rounds the exact sum (`fpAdd_roundsExact`), of a difference that with the negated
operand. -/
theorem floatAddSubtract : Obligations.FloatAddSubtract := by
  unfold Obligations.FloatAddSubtract
  intro s rn rx ry
  have hc (e : Elem) (r : RegNum) : Conditioned (fpOperand s e r) := conditioned_fpIn _ _
  have hcn (e : Elem) (r : RegNum) : Conditioned (fpNegate (fpOperand s e r)) := conditioned_fpNegate (hc e r)
  simp only [List.forall_mem_cons, List.not_mem_nil, IsEmpty.forall_iff, implies_true, and_true, fpVal_sub_eq]
  refine ⟨⟨?add, ?sub, ?avg, ?addShort, ?subShort⟩, ?absAdd, ?absSub⟩
  case add => exact gives_flt2 rfl fun e _ h hx hy => fltRounded_fpAdd (half := false) h hx hy (hc e rx) (hc e ry)
  case sub => exact gives_flt2 rfl fun e _ h hx hy => fltRounded_fpAdd (half := false) h hx hy (hc e rx) (hcn e ry)
  case avg => exact gives_flt2 rfl fun e _ h hx hy => fltRounded_fpAdd (half := true) h hx hy (hc e rx) (hc e ry)
  case addShort => exact gives_flt2 rfl fun e _ h hx hy => fltRounded_fpAdd (half := false) h hx hy (hc e rn) (hc e rx)
  case subShort => exact gives_flt2 rfl fun e _ h hx hy => fltRounded_fpAdd (half := false) h hx hy (hc e rn) (hcn e rx)
  case absAdd => exact gives_flt2 rfl fun _ _ h hx hy => fltRounded_absOut h hx hy
  case absSub => exact gives_flt2 rfl fun _ _ h hx hy => fltRounded_absOut h hx (fpFinite_fpNegate.mpr hy)

/-! ## Products -/

/-- What a floating-point multiply leaves of `o` (46_multiplier.md R630). -/
def fmulResult (s t : State) (e : Elem) (n : RegNum) (o : FpOut) : Prop :=
  t.reg e n = o.v ∧ mulFlagsAre t e (fpSign o.v) o.av o.au o.ai ∧
    stuck s t e (bitIf o.av 7 ||| bitIf o.au 8 ||| bitIf o.ai 9)

theorem writeMulFlags_result (e : Elem) (n : RegNum) (o : FpOut) (t : State) :
    fmulResult t (writeMulFlags e (mulFltFlags o.v o.av o.au o.ai) (t.setReg e n o.v)) e n o := by
  refine ⟨by rw [writeMulFlags_reg, State.setReg_reg], writeMulFlags_flags e _ _, ?_⟩
  have h := writeMulFlags_stuck e (mulFltFlags o.v o.av o.au o.ai) (t.setReg e n o.v)
  unfold stuck at h ⊢
  rwa [State.setReg_stky] at h

theorem fmulToReg_result (v : State) (e : Elem) (n x y : RegNum) (t : State) :
    fmulResult t (fmulToReg v e n x y t) e n (fpMul (aluMode v e) (fpOperand v e x) (fpOperand v e y)) :=
  writeMulFlags_result e n _ t

theorem gives_fmul {i : Instr} {n x y : RegNum} {p : State → Elem → Prop}
    (hexec : exec i s = computeOnly (.fmul n x y) s)
    (hp : ∀ e t, fmulResult s t e n (fpMul (aluMode s e) (fpOperand s e x) (fpOperand s e y)) → p t e) :
    gives i s fun t => onRunning s (p t) := by
  refine gives_compute hexec rfl fun e t u ht hu => hp e u ?_
  obtain ⟨hreg, hflags, hstuck⟩ := fmulToReg_result s e n x y t
  change SameUnit (fmulToReg s e n x y t) u e at hu
  unfold fmulResult mulFlagsAre stuck at *
  rw [hu.reg, hu.astat, hu.stky, ← ht.stky]
  exact ⟨hreg, hflags, hstuck⟩

theorem fpVal_mul (x y : Ext) :
    fpVal x * fpVal y =
      signFactor (fpSign x ^^ fpSign y) * ((fpMant x * fpMant y : Nat) * (2 : ℚ) ^ (fpPow x + fpPow y)) := by
  unfold fpPow
  rw [fpVal_eq_signFactor x, fpVal_eq_signFactor y, signFactor_xor, zpow_add₀ (by norm_num)]
  push_cast
  ring

/-- The product of finite operands is rounded from its exact value; its sign is that of the operands even of a zero. -/
theorem fpMul_roundsExact (m : AluMode) (hx : fpFinite x) (hy : fpFinite y) :
    RoundsExact m.trunc m.rnd32 (fpVal x * fpVal y) (fpZeroOf (fpSign x ^^ fpSign y)) (fpMul m x y) ∧
      fpSign (fpMul m x y).v = (fpSign x ^^ fpSign y) := by
  have heq : fpMul m x y = if fpZero x || fpZero y then .exact (fpZeroOf (fpSign x ^^ fpSign y))
      else fpRound m.trunc m.rnd32 (fpSign x ^^ fpSign y) (fpMant x * fpMant y) (fpPow x + fpPow y) := by
    unfold fpMul
    rw [fpNan_of_finite hx, fpNan_of_finite hy, fpInf_of_finite hx, fpInf_of_finite hy, Bool.and_false]
    rfl
  rw [heq]
  split
  case isTrue h =>
    have hzero : fpVal x * fpVal y = 0 := by
      simpa only [mul_eq_zero, fpVal_eq_zero_iff, ← fpZero_iff, Bool.or_eq_true] using h
    rw [hzero]
    exact ⟨roundsExact_zero _ _ _, fpSign_fpZeroOf _⟩
  case isFalse h =>
    rw [Bool.or_eq_true, fpZero_iff, fpZero_iff, not_or] at h
    have hm := Nat.mul_ne_zero (fpMant_ne_zero h.1) (fpMant_ne_zero h.2)
    rw [fpVal_mul]
    exact ⟨roundsExact_fpRound _ _ _ hm _ _, (fpRound_valid _ _ _ _ hm).sign⟩

/-- What a floating-point multiply of finite operands leaves. -/
theorem fmulResult.finite {m : AluMode} (h : fmulResult s t e n (fpMul m x y)) (hx : fpFinite x) (hy : fpFinite y) :
    ∃ v ov un, fpResult m.trunc m.rnd32 (fpVal x * fpVal y) v ov un ∧
      (fpVal x * fpVal y = 0 → v = fpZeroOf (fpSign x ^^ fpSign y) ∧ ov = false ∧ un = false) ∧
      t.reg e n = v ∧ mulFlagsAre t e (fpSign x ^^ fpSign y) ov un false ∧ stuck s t e (bitIf ov 7 ||| bitIf un 8) := by
  obtain ⟨hround, hsign⟩ := fpMul_roundsExact m hx hy
  obtain ⟨hreg, hflags, hstuck⟩ := h
  rw [hsign, hround.ai] at hflags
  rw [hround.ai, show bitIf false 9 = 0#32 from rfl, BitVec.or_zero] at hstuck
  exact ⟨_, _, _, hround.result, hround.zero, hreg, hflags, hstuck⟩

/-- Settles O7: both forms round the exact product (`fpMul_roundsExact`). -/
theorem floatMultiply : Obligations.FloatMultiply := by
  unfold Obligations.FloatMultiply
  intro s rn rx ry
  simp only [List.forall_mem_cons, List.not_mem_nil, IsEmpty.forall_iff, implies_true, and_true]
  exact ⟨gives_fmul rfl fun _ _ h hx hy => h.finite hx hy, gives_fmul rfl fun _ _ h hx hy => h.finite hx hy⟩

end Sys2Proof.Machine
end

section
/-! NANs and infinities (O8), and results that are an operand with another sign at most (O10) (45_alu_float.md R561 (c),
(e), R571 to R573, R586 to R589). -/

namespace Sys2Proof.Machine

open Sys2Proof.Safety

variable {s t : State} {e : Elem} {n : RegNum} {x y : Ext} {m : AluMode}

/-! ## Invalid operations -/

/-- What an invalid operation of the ALU leaves, whatever AN and AS. -/
def NanResult (s t : State) (e : Elem) (n : RegNum) : Prop :=
  t.reg e n = qnan (s.mode1 16) ∧ (t.astat e).val.getLsbD 5 = true ∧ (t.astat e).val.getLsbD 0 = false ∧
    (t.astat e).val.getLsbD 1 = false ∧ (t.astat e).val.getLsbD 10 = true ∧ stuck s t e 0x20

theorem qnan_flags (rnd32 : Bool) :
    fpZero (qnan rnd32) = false ∧ fpSign (qnan rnd32) = true ∧ (qnan rnd32).word ≠ 0 := by
  cases rnd32 <;> decide

/-- The outcome of an invalid operation. -/
def nanOut (rnd32 an as : Bool) : AluOut := { r := qnan rnd32, f := fltFlags false an false as true false }

theorem nanResult {o : AluOut} {an as : Bool} (h : aluResult s t e n o) (ho : o = nanOut (s.mode1 16) an as) :
    NanResult s t e n := by
  subst ho
  obtain ⟨hreg, ⟨hz, -, hv, -, -, hi, hf⟩, hstuck⟩ := h
  exact ⟨hreg, hi, hz, hv, hf, hstuck⟩

theorem out_invalid (rnd32 : Bool) : (FpOut.invalid rnd32).out = nanOut rnd32 true false := by
  cases rnd32 <;> rfl

theorem absOut_invalid (rnd32 : Bool) : (FpOut.invalid rnd32).absOut = nanOut rnd32 false false := by
  cases rnd32 <;> rfl

theorem fixOut_invalid (rnd32 : Bool) : (FpOut.invalid rnd32).fixOut = nanOut rnd32 true false := by
  cases rnd32 <;> rfl

theorem fltResult_invalid (h : aluResult s t e n (FpOut.invalid (s.mode1 16)).out) :
    fltResult s t e n (qnan (s.mode1 16)) true false false true 0x20 := by
  have hz := (qnan_flags (s.mode1 16)).1
  rw [out_invalid] at h
  obtain ⟨hreg, hflags, hstuck⟩ := h
  refine ⟨hreg, ?_, hstuck⟩
  rw [hz]
  exact hflags

/-! ## NAN operands -/

theorem fpAdd_nan (half : Bool) (h : (fpNan x || fpNan y) = true) : fpAdd m half x y = .invalid m.rnd32 := if_pos h

theorem fpSelect_nan (v : Ext) (h : (fpNan x || fpNan y) = true) : fpSelect m x y v = (FpOut.invalid m.rnd32).out :=
  if_pos h

theorem fpSelect_number (v : Ext) (hx : fpNan x = false) (hy : fpNan y = false) :
    fpSelect m x y v = (FpOut.exact v).out := if_neg (by rw [hx, hy]; decide)

theorem fpMul_nan (h : (fpNan x || fpNan y) = true) : fpMul m x y = .invalid m.rnd32 := if_pos h

/-- The operations of which either operand can be a NAN. -/
theorem flt2_nan {op : FltOp2} (hop : op ∉ [.scalb, .fixBy, .truncBy, .floatBy]) {x y : Ext}
    (h : (fpNan (fpIn m.rnd32 x) || fpNan (fpIn m.rnd32 y)) = true) : ∃ an, flt2 m op x y = nanOut m.rnd32 an false := by
  have hneg := h
  rw [← fpNan_fpNegate (fpIn m.rnd32 y)] at hneg
  cases op with
  | add | avg => exact ⟨_, (congrArg FpOut.out (fpAdd_nan _ h)).trans (out_invalid _)⟩
  | sub => exact ⟨_, (congrArg FpOut.out (fpAdd_nan _ hneg)).trans (out_invalid _)⟩
  | absAdd => exact ⟨_, (congrArg FpOut.absOut (fpAdd_nan _ h)).trans (absOut_invalid _)⟩
  | absSub => exact ⟨_, (congrArg FpOut.absOut (fpAdd_nan _ hneg)).trans (absOut_invalid _)⟩
  | copysign | min | max | clip => exact ⟨_, (fpSelect_nan _ h).trans (out_invalid _)⟩
  | scalb | fixBy | truncBy | floatBy => exact absurd hop (by decide)

/-- The operations whose operand is `x` alone, with a fixed-point `y`. -/
theorem flt2_nan_left {op : FltOp2} (hop : op ∈ [.scalb, .fixBy, .truncBy]) {x : Ext} (y : Ext)
    (h : fpNan (fpIn m.rnd32 x) = true) : flt2 m op x y = nanOut m.rnd32 true false := by
  simp only [List.mem_cons, List.not_mem_nil, or_false] at hop
  obtain rfl | rfl | rfl := hop
  · exact (congrArg FpOut.out (if_pos h)).trans (out_invalid _)
  · exact (congrArg FpOut.fixOut (if_pos h)).trans (fixOut_invalid _)
  · exact (congrArg FpOut.fixOut (if_pos h)).trans (fixOut_invalid _)

/-- The operations of one operand, but for MANT. -/
theorem flt1_nan {op : FltOp1} (hop : op ∉ [.mant, .float]) {x : Ext} (h : fpNan (fpIn m.rnd32 x) = true) :
    ∃ an as, flt1 m op x = nanOut m.rnd32 an as := by
  have hboth : (fpNan (fpIn m.rnd32 x) || fpNan (fpIn m.rnd32 x)) = true := by rw [h]; rfl
  have hrsqrts : (fpNan (fpIn m.rnd32 x) || (fpSign (fpIn m.rnd32 x) && !fpZero (fpIn m.rnd32 x))) = true := by
    rw [h]
    rfl
  cases op with
  | neg | pass => exact ⟨_, _, (fpSelect_nan _ hboth).trans (out_invalid _)⟩
  | abs | recips => exact ⟨_, _, if_pos h⟩
  | rsqrts => exact ⟨_, _, if_pos hrsqrts⟩
  | rnd => exact ⟨_, _, (congrArg FpOut.out (if_pos h)).trans (out_invalid _)⟩
  | logb | fix | trunc => exact ⟨_, _, (congrArg FpOut.fixOut (if_pos h)).trans (fixOut_invalid _)⟩
  | mant | float => exact absurd hop (by decide)

theorem gives_nan2 {i : Instr} {op : FltOp2} {n x y : RegNum} (hexec : exec i s = computeOnly (.flt2 op n x y) s)
    (hop : op ∉ [.scalb, .fixBy, .truncBy, .floatBy]) :
    gives i s fun t => onRunning s fun e => (fpNan (fpOperand s e x) || fpNan (fpOperand s e y)) = true →
      NanResult s t e n :=
  gives_flt2 hexec fun e _ h hnan =>
    have ⟨_, ho⟩ := flt2_nan (m := aluMode s e) hop hnan
    nanResult h ho

theorem gives_nan_left {i : Instr} {op : FltOp2} {n x y : RegNum} (hexec : exec i s = computeOnly (.flt2 op n x y) s)
    (hop : op ∈ [.scalb, .fixBy, .truncBy]) :
    gives i s fun t => onRunning s fun e => fpNan (fpOperand s e x) = true → NanResult s t e n :=
  gives_flt2 hexec fun e _ h hnan => nanResult h (flt2_nan_left (m := aluMode s e) hop _ hnan)

theorem gives_nan1 {i : Instr} {op : FltOp1} {n x : RegNum} (hexec : exec i s = computeOnly (.flt1 op n x) s)
    (hop : op ∉ [.mant, .float]) :
    gives i s fun t => onRunning s fun e => fpNan (fpOperand s e x) = true → NanResult s t e n :=
  gives_flt1 hexec fun e _ h hnan =>
    have ⟨_, _, ho⟩ := flt1_nan (m := aluMode s e) hop hnan
    nanResult h ho

/-! ## Infinite operands -/

theorem fpNan_of_fpZero (h : fpZero x = true) : fpNan x = false := fpNan_of_finite (fpFinite_of_fpZero h)

theorem fpInf_of_fpZero (h : fpZero x = true) : fpInf x = false := fpInf_of_finite (fpFinite_of_fpZero h)

/-- A sum takes the sign of an infinite operand. -/
theorem fpAdd_inf_left (half : Bool) (hx : fpInf x = true) (hy : fpFinite y ∨ y = x) : fpAdd m half x y = .exact x := by
  have hnx := fpNan_of_inf hx
  unfold fpAdd
  obtain hy | rfl := hy
  · rw [hnx, fpNan_of_finite hy, hx, fpInf_of_finite hy]
    rfl
  · rw [hnx, hx, bne_self_eq_false]
    rfl

theorem fpAdd_inf_right (half : Bool) (hx : fpFinite x) (hy : fpInf y = true) : fpAdd m half x y = .exact y := by
  unfold fpAdd
  rw [fpNan_of_finite hx, fpNan_of_inf hy, fpInf_of_finite hx, hy]
  rfl

theorem fpAdd_inf_opposite (half : Bool) (hx : fpInf x = true) : fpAdd m half x (fpNegate x) = .invalid m.rnd32 := by
  unfold fpAdd
  rw [fpNan_fpNegate, fpInf_fpNegate, fpNan_of_inf hx, hx, fpSign_fpNegate]
  cases fpSign x <;> rfl

theorem fpMul_inf (h : (fpInf x = true ∧ fpZero y = false ∧ fpNan y = false) ∨
    (fpInf y = true ∧ fpZero x = false ∧ fpNan x = false)) :
    fpMul m x y = .exact (fpInfOf (fpSign x ^^ fpSign y)) := by
  unfold fpMul
  obtain ⟨hinf, hz, hn⟩ | ⟨hinf, hz, hn⟩ := h <;> rw [hn, fpNan_of_inf hinf, hz, fpZero_of_inf hinf, hinf] <;> simp

theorem fpMul_inf_zero (h : (fpInf x = true ∧ fpZero y = true) ∨ (fpInf y = true ∧ fpZero x = true)) :
    fpMul m x y = .invalid m.rnd32 := by
  unfold fpMul
  obtain ⟨hinf, hz⟩ | ⟨hinf, hz⟩ := h <;> rw [fpNan_of_inf hinf, fpNan_of_fpZero hz, hinf, hz] <;> simp

theorem fmulResult.invalid (h : fmulResult s t e n (.invalid (s.mode1 16))) :
    t.reg e n = qnan (s.mode1 16) ∧ (t.astat e).val.getLsbD 9 = true ∧ stuck s t e 0x200 := by
  obtain ⟨hreg, ⟨-, -, -, hmi⟩, hstuck⟩ := h
  have hsticky : bitIf false 7 ||| bitIf false 8 ||| bitIf true 9 = (0x200 : Word) := by decide
  exact ⟨hreg, hmi, hsticky ▸ hstuck⟩

theorem fmulResult.exact {b : Bool} (h : fmulResult s t e n (.exact (fpInfOf b))) :
    t.reg e n = fpInfOf b ∧ mulFlagsAre t e b false false false ∧ stuck s t e 0 := by
  obtain ⟨hreg, hflags, hstuck⟩ := h
  have hsticky : bitIf false 7 ||| bitIf false 8 ||| bitIf false 9 = (0 : Word) := by decide
  exact ⟨hreg, fpSign_fpInfOf b ▸ hflags, hsticky ▸ hstuck⟩

/-- MANT of a NAN or an infinity is an invalid operation of a result of its own (R576). -/
theorem mantResult_bad (h : aluResult s t e n (fpMantissa x)) (hx : (fpNan x || fpInf x) = true) :
    t.reg e n = 0xFFFFFFFF00 ∧ aluFlagsAre t e false false false false (fpSign x) true true ∧ stuck s t e 0x20 := by
  have hmant : fpMantissa x = { r := 0xFFFFFFFF00, f := fltFlags false false false (fpSign x) true false } := by
    unfold fpMantissa
    dsimp only
    rw [hx, if_pos rfl]
    cases fpSign x <;> decide
  rw [hmant] at h
  exact h

/-- Settles O8: an operation of a NAN is invalid (`flt2_nan`, `flt1_nan`), and of an infinity what R561 (e) says. -/
theorem floatSpecialValues : Obligations.FloatSpecialValues := by
  unfold Obligations.FloatSpecialValues
  intro s rn rx ry
  simp only [List.forall_mem_cons, List.not_mem_nil, IsEmpty.forall_iff, implies_true, and_true]
  refine ⟨⟨?add, ?sub, ?absAdd, ?absSub, ?avg, ?copysign, ?min, ?max, ?clip, ?addShort, ?subShort, ?neg, ?abs,
    ?pass, ?rnd, ?scalb, ?logb, ?fix, ?fixBy, ?trunc, ?truncBy, ?recips, ?rsqrts⟩, ?mant, ⟨?mul, ?mulShort⟩,
    ?addInf, ?subInf, ?mulInf⟩
  case add | sub | absAdd | absSub | avg | copysign | min | max | clip | addShort | subShort =>
    exact gives_nan2 rfl (by decide)
  case neg | abs | pass | rnd | logb | fix | trunc | recips | rsqrts => exact gives_nan1 rfl (by decide)
  case scalb | fixBy | truncBy => exact gives_nan_left rfl (by decide)
  case mant =>
    refine gives_flt1 rfl fun e t h hnan => ?_
    obtain ⟨hreg, ⟨-, -, -, -, -, hai, -⟩, hstuck⟩ := mantResult_bad (x := fpOperand s e rx) h (by rw [hnan]; rfl)
    exact ⟨hreg, hai, hstuck⟩
  case mul | mulShort =>
    exact gives_fmul rfl fun e t h hnan => fmulResult.invalid (fpMul_nan (m := aluMode s e) hnan ▸ h)
  case addInf =>
    refine gives_flt2 rfl fun e t h => ⟨fun hx hy => ?_, fun hy hx => ?_, fun hx hy => ?_⟩ <;>
      change aluResult s t e rn (fpAdd (aluMode s e) false (fpOperand s e rx) (fpOperand s e ry)).out at h
    · exact fltResult_exact (fpAdd_inf_left false hx hy ▸ h)
    · exact fltResult_exact (fpAdd_inf_right false hx hy ▸ h)
    · rw [hy, fpAdd_inf_opposite false hx] at h
      exact fltResult_invalid h
  case subInf =>
    refine gives_flt2 rfl fun e t h => ⟨fun hx hy => ?_, fun hy hx => ?_, fun hx hy => ?_⟩ <;>
      change aluResult s t e rn (fpAdd (aluMode s e) false (fpOperand s e rx) (fpNegate (fpOperand s e ry))).out at h
    · have hy' : fpFinite (fpNegate (fpOperand s e ry)) ∨ fpNegate (fpOperand s e ry) = fpOperand s e rx :=
        hy.imp fpFinite_fpNegate.mpr fun heq => by rw [heq, fpNegate_fpNegate]
      exact fltResult_exact (fpAdd_inf_left false hx hy' ▸ h)
    · rw [fpAdd_inf_right false hx ((fpInf_fpNegate _).trans hy)] at h
      rw [← fpSign_fpNegate]
      exact fltResult_exact h
    · rw [hy, fpAdd_inf_opposite false hx] at h
      exact fltResult_invalid h
  case mulInf =>
    refine gives_fmul rfl fun e t h => ⟨fun hinf => ?_, fun hinf => ?_⟩
    · rw [fpMul_inf hinf] at h
      exact h.exact
    · rw [fpMul_inf_zero hinf] at h
      exact h.invalid

end Sys2Proof.Machine
end

section
/-! Results that are an operand with another sign at most (O10): MIN, MAX and CLIP by the order of the patterns, which
is that of the values (45_alu_float.md R571 to R573, R586 to R589). -/

namespace Sys2Proof.Machine

open Sys2Proof.Safety

variable {s : State} {x y : Ext}

/-! ## The order of operands -/

/-- An infinity is beyond every other number. -/
theorem inf_beyond (hx : fpInf x = true) (hy : fpNan y = false) :
    y = x ∨ (fpSign x = true ∧ fpOrder x < fpOrder y) ∨ (fpSign x = false ∧ fpOrder y < fpOrder x) := by
  cases hinf : fpInf y with
  | false =>
    obtain ⟨-, hlt, hgt⟩ := fpOrder_inf_finite hx (finite_of_not_nan_inf hy hinf)
    rw [hlt, hgt]
    cases fpSign x <;> simp
  | true =>
    have hlt := (fpOrder_inf_inf hx hinf).2
    have hgt := (fpOrder_inf_inf hinf hx).2
    rw [hlt, hgt]
    by_cases hs : fpSign y = fpSign x
    · exact .inl (by rw [fpInf_iff_eq.mp hinf, fpInf_iff_eq.mp hx, hs])
    · rw [Bool.eq_not.mpr hs]
      cases fpSign x <;> simp

theorem fpOrder_of_zero (hc : Conditioned x) (hx : fpZero x = true) : fpOrder x = 0 := by
  unfold fpOrder
  rw [(fpMag_eq_zero_iff hc).mpr (fpZero_iff.mp hx)]
  split <;> rfl

/-! ## MIN and MAX -/

theorem fpMin_left (h : fpOrder x < fpOrder y) : fpMin x y = x := if_pos h

theorem fpMin_right (h : fpOrder y < fpOrder x) : fpMin x y = y := (if_neg h.not_gt).trans (if_pos h)

theorem fpMin_tie (h : fpOrder x = fpOrder y) : fpMin x y = if fpSign y then y else x :=
  (if_neg h.not_lt).trans (if_neg h.not_gt)

theorem fpMax_left (h : fpOrder y < fpOrder x) : fpMax x y = x := if_pos h

theorem fpMax_right (h : fpOrder x < fpOrder y) : fpMax x y = y := (if_neg h.not_gt).trans (if_pos h)

theorem fpMax_tie (h : fpOrder x = fpOrder y) : fpMax x y = if fpSign x then y else x :=
  (if_neg h.not_gt).trans (if_neg h.not_lt)

theorem fpMin_self (x : Ext) : fpMin x x = x := (fpMin_tie rfl).trans (ite_self x)

theorem fpMax_self (x : Ext) : fpMax x x = x := (fpMax_tie rfl).trans (ite_self x)

theorem fpMin_mem (x y : Ext) : fpMin x y = x ∨ fpMin x y = y := by
  unfold fpMin
  split_ifs <;> simp

theorem fpMax_mem (x y : Ext) : fpMax x y = x ∨ fpMax x y = y := by
  unfold fpMax
  split_ifs <;> simp

theorem fpVal_fpMin (hx : Conditioned x) (hy : Conditioned y) : fpVal (fpMin x y) = min (fpVal x) (fpVal y) := by
  obtain hlt | heq | hgt := lt_trichotomy (fpOrder x) (fpOrder y)
  · rw [fpMin_left hlt, min_eq_left ((fpVal_lt_iff hx hy).mpr hlt).le]
  · have hval := (fpVal_eq_iff hx hy).mpr heq
    rw [fpMin_tie heq, hval, min_self]
    split <;> simp only [hval]
  · rw [fpMin_right hgt, min_eq_right ((fpVal_lt_iff hy hx).mpr hgt).le]

theorem fpVal_fpMax (hx : Conditioned x) (hy : Conditioned y) : fpVal (fpMax x y) = max (fpVal x) (fpVal y) := by
  obtain hlt | heq | hgt := lt_trichotomy (fpOrder x) (fpOrder y)
  · rw [fpMax_right hlt, max_eq_right ((fpVal_lt_iff hx hy).mpr hlt).le]
  · have hval := (fpVal_eq_iff hx hy).mpr heq
    rw [fpMax_tie heq, hval, max_self]
    split <;> simp only [hval]
  · rw [fpMax_left hgt, max_eq_left ((fpVal_lt_iff hy hx).mpr hgt).le]

/-- The smaller of an infinity and a number: the infinity if it is negative. -/
theorem fpMin_inf (hx : fpInf x = true) (hy : fpNan y = false) :
    fpMin x y = (if fpSign x then x else y) ∧ fpMin y x = if fpSign x then x else y := by
  obtain rfl | ⟨hs, hlt⟩ | ⟨hs, hlt⟩ := inf_beyond hx hy
  · rw [fpMin_self, ite_self, and_self]
  · rw [hs, fpMin_left hlt, fpMin_right hlt, if_pos rfl, and_self]
  · rw [hs, fpMin_left hlt, fpMin_right hlt, if_neg Bool.false_ne_true, and_self]

theorem fpMax_inf (hx : fpInf x = true) (hy : fpNan y = false) :
    fpMax x y = (if fpSign x then y else x) ∧ fpMax y x = if fpSign x then y else x := by
  obtain rfl | ⟨hs, hlt⟩ | ⟨hs, hlt⟩ := inf_beyond hx hy
  · rw [fpMax_self, ite_self, and_self]
  · rw [hs, fpMax_left hlt, fpMax_right hlt, if_pos rfl, and_self]
  · rw [hs, fpMax_left hlt, fpMax_right hlt, if_neg Bool.false_ne_true, and_self]

section Zeros

variable (hcx : Conditioned x) (hcy : Conditioned y) (hx : fpZero x = true) (hy : fpZero y = true)

include hcx hcy hx hy

theorem fpSign_fpMin_zeros : fpSign (fpMin x y) = (fpSign x || fpSign y) := by
  rw [fpMin_tie ((fpOrder_of_zero hcx hx).trans (fpOrder_of_zero hcy hy).symm), apply_ite fpSign]
  cases fpSign y <;> simp

theorem fpSign_fpMax_zeros : fpSign (fpMax x y) = (fpSign x && fpSign y) := by
  rw [fpMax_tie ((fpOrder_of_zero hcx hx).trans (fpOrder_of_zero hcy hy).symm), apply_ite fpSign]
  cases hs : fpSign x <;> simp

end Zeros

/-! ## CLIP -/

theorem abs_fpVal_eq_fpScaled (v : Ext) : |fpVal v| = fpScaled v * (2 : ℚ) ^ (-158 : Int) := by
  rw [abs_fpVal, sub_eq_add_neg, zpow_add₀ (by norm_num), zpow_natCast]
  unfold fpScaled
  push_cast
  ring

theorem fpSign_fpClip (x y : Ext) : fpSign (fpClip x y) = fpSign x := by
  unfold fpClip
  split
  · rfl
  · exact fpSign_fpSetSign _ _

theorem abs_fpVal_fpSetSign (b : Bool) (v : Ext) : |fpVal (fpSetSign b v)| = |fpVal v| := by
  rw [abs_fpVal, abs_fpVal, fpExp_fpSetSign, fpMant_congr (fpExp_fpSetSign b v) (fpFrac_fpSetSign b v)]

theorem abs_fpVal_lt (hy : Conditioned y) (h : fpMag x < fpMag y) : |fpVal x| < |fpVal y| := by
  rw [abs_fpVal_eq_fpScaled, abs_fpVal_eq_fpScaled, mul_lt_mul_iff_left₀ (by positivity), Nat.cast_lt]
  exact fpScaled_lt_of_fpMag_lt hy h

theorem abs_fpVal_fpClip (hx : Conditioned x) (hy : Conditioned y) :
    |fpVal (fpClip x y)| = min |fpVal x| |fpVal y| := by
  have hle : |fpVal y| ≤ |fpVal x| ∨ fpMag x < fpMag y := by
    obtain hlt | heq | hgt := lt_trichotomy (fpMag x) (fpMag y)
    · exact .inr hlt
    · rw [abs_fpVal_eq_fpScaled, abs_fpVal_eq_fpScaled, fpScaled_eq_of_fpMag_eq heq]
      exact .inl le_rfl
    · exact .inl (abs_fpVal_lt hx hgt).le
  unfold fpClip
  split
  case isTrue h => rw [min_eq_left (abs_fpVal_lt hy h).le]
  case isFalse h => rw [abs_fpVal_fpSetSign, min_eq_right (hle.resolve_right h)]

theorem fpMag_of_inf (hx : fpInf x = true) : fpMag x = 2 ^ 31 * 255 := by
  obtain ⟨he, hf⟩ := fpInf_iff.mp hx
  rw [fpMag_eq, he, hf]
  rfl

theorem fpMag_lt_of_finite (hx : fpFinite x) : fpMag x < 2 ^ 31 * 255 := by
  have hlt := fpExp_lt x
  have hfrac := (fpFrac x).isLt
  unfold fpFinite at hx
  rw [fpMag_eq]
  omega

theorem fpClip_inf_left (hx : fpInf x = true) (hy : fpNan y = false) : fpClip x y = fpSetSign (fpSign x) y := by
  refine if_neg ?_
  rw [fpMag_of_inf hx]
  cases hinf : fpInf y with
  | true => rw [fpMag_of_inf hinf]; exact lt_irrefl _
  | false => exact (fpMag_lt_of_finite (finite_of_not_nan_inf hy hinf)).not_gt

theorem fpClip_inf_right (hy : fpInf y = true) (hx : fpFinite x) : fpClip x y = x :=
  if_pos (by rw [fpMag_of_inf hy]; exact fpMag_lt_of_finite hx)

/-! ## The operations -/

theorem fltResult_select {t : State} {e : Elem} {n : RegNum} {m : AluMode} {v : Ext}
    (h : aluResult s t e n (fpSelect m x y v)) (hx : fpNan x = false) (hy : fpNan y = false) :
    fltResult s t e n v (fpSign v) false false false 0 := fltResult_exact (fpSelect_number v hx hy ▸ h)

/-- Settles O10: the operations give an operand with a sign of their own (`fpSelect_number`); which one MIN, MAX and
CLIP give is by the order of the values (`fpVal_fpMin`, `fpVal_fpMax`, `abs_fpVal_fpClip`). -/
theorem floatSelect : Obligations.FloatSelect := by
  unfold Obligations.FloatSelect
  intro s rn rx ry
  have hc (e : Elem) (r : RegNum) : Conditioned (fpOperand s e r) := conditioned_fpIn _ _
  refine ⟨?neg, ?abs, ?pass, ?copysign, ?min, ?max, ?clip⟩
  case neg =>
    refine gives_flt1 rfl fun e t h hx => ?_
    rw [← fpSign_fpNegate]
    exact fltResult_select h hx hx
  case abs =>
    refine gives_flt1 rfl fun e t h hx => ?_
    have habs : fpAbs (aluMode s e) (fpOperand s e rx) = _ := if_neg (by rw [hx]; decide)
    change aluResult s t e rn (fpAbs (aluMode s e) (fpOperand s e rx)) at h
    rw [habs, ← fpZero_fpSetSign false] at h
    exact h
  case pass => exact gives_flt1 rfl fun e t h hx => fltResult_select h hx hx
  case copysign =>
    refine gives_flt2 rfl fun e t h hx hy => ?_
    have hsel := fltResult_select h hx hy
    rwa [fpSign_fpSetSign] at hsel
  case min =>
    exact gives_flt2 rfl fun e t h hx hy => ⟨_, fpMin_mem _ _, fltResult_select h hx hy,
      fun _ _ => fpVal_fpMin (hc e rx) (hc e ry), fun hinf => (fpMin_inf hinf hy).1, fun hinf => (fpMin_inf hinf hx).2,
      fpSign_fpMin_zeros (hc e rx) (hc e ry)⟩
  case max =>
    exact gives_flt2 rfl fun e t h hx hy => ⟨_, fpMax_mem _ _, fltResult_select h hx hy,
      fun _ _ => fpVal_fpMax (hc e rx) (hc e ry), fun hinf => (fpMax_inf hinf hy).1, fun hinf => (fpMax_inf hinf hx).2,
      fpSign_fpMax_zeros (hc e rx) (hc e ry)⟩
  case clip =>
    exact gives_flt2 rfl fun e t h hx hy => ⟨_, fpSign_fpClip _ _, fltResult_select h hx hy,
      fun _ _ => abs_fpVal_fpClip (hc e rx) (hc e ry), fun hinf => fpClip_inf_left hinf hy, fpClip_inf_right⟩

end Sys2Proof.Machine
end

section
/-! Conversions (O11): FLOAT as an exact result of `fpRound`, FIX and TRUNC as a rounding of the scaled value to an
integer (45_alu_float.md R578 to R582). -/

namespace Sys2Proof.Machine

open Sys2Proof.Safety

variable {s t : State} {e : Elem} {n : RegNum} {x : Ext} {q : ℚ}

/-! ## FLOAT -/

theorem fpFloat_of_ne_zero (m : AluMode) {a : Word} (ha : a ≠ 0) (k : Int) :
    fpFloat m a k = fpRound m.trunc false (decide (a.toInt < 0)) a.toInt.natAbs k := by
  rw [← Word.getLsbD_31]
  exact if_neg ha

theorem fpFloat_zero (m : AluMode) (k : Int) : fpFloat m 0 k = .exact 0 := if_pos rfl

theorem toInt_ne_zero {a : Word} (ha : a ≠ 0) : a.toInt ≠ 0 := fun h => ha (BitVec.eq_of_toInt_eq (by rw [h]; rfl))

/-- FLOAT rounds the exact scaled value. -/
theorem fpFloat_roundsExact (m : AluMode) (a : Word) (k : Int) :
    RoundsExact m.trunc false (a.toInt * (2 : ℚ) ^ k) 0 (fpFloat m a k) := by
  by_cases ha : a = 0
  · subst ha
    have hzero : ((0 : Word).toInt : ℚ) * (2 : ℚ) ^ k = 0 := zero_mul _
    rw [hzero, fpFloat_zero]
    exact roundsExact_zero _ _ _
  · rw [fpFloat_of_ne_zero m ha, ← signFactor_natAbs a.toInt, mul_assoc]
    exact roundsExact_fpRound _ _ _ (Int.natAbs_ne_zero.mpr (toInt_ne_zero ha)) _ _

/-- The 31 places of a fraction hold every word. -/
theorem fpVal_fpFloat (m : AluMode) (a : Word) (k : Int) (hq : fpNormal (a.toInt * (2 : ℚ) ^ k)) :
    fpVal (fpFloat m a k).v = a.toInt * (2 : ℚ) ^ k := by
  by_cases ha : a = 0
  · subst ha
    rw [fpFloat_zero]
    exact (fpVal_of_zero rfl).trans (zero_mul _).symm
  · have hm := Int.natAbs_ne_zero.mpr (toInt_ne_zero ha)
    have hfits : a.toInt.natAbs.log2 ≤ fpPlaces false := by
      have hlow := a.le_toInt
      have hhigh := a.toInt_lt
      exact Nat.lt_succ_iff.mp ((Nat.log2_lt hm).mpr (show a.toInt.natAbs < 2 ^ 32 by omega))
    rw [← signFactor_natAbs a.toInt, mul_assoc] at hq ⊢
    rw [fpFloat_of_ne_zero m ha]
    refine fpVal_fpRound_of_fits _ _ _ _ hm hfits ?_
    unfold fpNormal at *
    rwa [abs_signFactor_mul] at hq

theorem fpNormal_toInt {a : Word} (ha : a ≠ 0) : fpNormal (a.toInt * (2 : ℚ) ^ (0 : Int)) := by
  have hlow : (1 : ℚ) ≤ |(a.toInt : ℚ)| := by exact_mod_cast Int.one_le_abs (toInt_ne_zero ha)
  have hhigh : |(a.toInt : ℚ)| ≤ 2 ^ 31 := by
    have hle : |a.toInt| ≤ 2 ^ 31 := abs_le.mpr ⟨a.le_toInt, a.toInt_lt.le⟩
    exact_mod_cast hle
  rw [zpow_zero, mul_one]
  constructor
  · refine le_trans ?_ hlow
    norm_num
  · refine hhigh.trans ?_
    norm_num

/-- FLOAT without a scale is exact. -/
theorem fpFloat_unscaled (m : AluMode) (a : Word) :
    (fpFloat m a 0).av = false ∧ (fpFloat m a 0).au = false ∧ fpFinite (fpFloat m a 0).v ∧
      fpVal (fpFloat m a 0).v = a.toInt := by
  by_cases ha : a = 0
  · subst ha
    rw [fpFloat_zero]
    exact ⟨rfl, rfl, by unfold fpFinite; decide, fpVal_of_zero rfl⟩
  · obtain ⟨⟨hfin, -⟩, hav, hau⟩ := (fpFloat_roundsExact m a 0).result.1 (fpNormal_toInt ha)
    refine ⟨hav, hau, hfin, ?_⟩
    rw [fpVal_fpFloat m a 0 (fpNormal_toInt ha), zpow_zero, mul_one]

/-! ## Rounding to a signed integer -/

/-- `i` is `q` rounded as the mode says. -/
def FixRounds (mode : FixMode) (i : Int) (q : ℚ) : Prop :=
  match mode with
  | .zero => |(i : ℚ)| ≤ |q| ∧ |(i : ℚ) - q| < 1 ∧ 0 ≤ i * q
  | .floor => (i : ℚ) ≤ q ∧ q < i + 1
  | .nearest => |(i : ℚ) - q| ≤ 1 / 2 ∧ (|(i : ℚ) - q| = 1 / 2 → i % 2 = 0)

theorem FixRounds.abs_le_natCast {mode : FixMode} {i : Int} (h : FixRounds mode i q) {k : Nat} (hq : |q| ≤ k) :
    |i| ≤ k := by
  obtain ⟨hlow, hhigh⟩ := abs_le.mp hq
  have hbound : -(k : ℚ) - 1 < i ∧ (i : ℚ) < k + 1 := by
    cases mode with
    | zero =>
      obtain ⟨hlow', hhigh'⟩ := abs_le.mp (h.1.trans hq)
      exact ⟨by linarith, by linarith⟩
    | floor =>
      obtain ⟨hlow', hhigh'⟩ := h
      exact ⟨by linarith, by linarith⟩
    | nearest =>
      obtain ⟨hlow', hhigh'⟩ := abs_le.mp h.1
      exact ⟨by linarith, by linarith⟩
  have hlow' : -(k : Int) - 1 < i := by exact_mod_cast hbound.1
  have hhigh' : i < (k : Int) + 1 := by exact_mod_cast hbound.2
  rw [abs_le]
  omega

/-- A magnitude with a sign. -/
theorem signed_natCast (b : Bool) (r : Nat) : ((if b then -(r : Int) else r : Int) : ℚ) = signFactor b * r := by
  cases b <;> simp [signFactor]

theorem fixRounds_zero (b : Bool) {r : Nat} {w : ℚ} (h : RoundsTo true r w) :
    FixRounds .zero (if b then -(r : Int) else r) (signFactor b * w) := by
  obtain ⟨hle, hlt⟩ := h
  have hr : (0 : ℚ) ≤ r := by positivity
  have hw := hr.trans hle
  show _ ∧ _ ∧ _
  rw [signed_natCast, abs_signFactor_mul, abs_signFactor_mul, ← mul_sub, abs_signFactor_mul, signFactor_mul_mul,
    abs_of_nonneg hr, abs_of_nonneg hw, abs_sub_comm, abs_of_nonneg (by linarith)]
  exact ⟨hle, by linarith, by positivity⟩

theorem fixRounds_nearest (b : Bool) {r : Nat} {w : ℚ} (h : RoundsTo false r w) :
    FixRounds .nearest (if b then -(r : Int) else r) (signFactor b * w) := by
  obtain ⟨hle, htie⟩ := h
  show _ ∧ _
  rw [signed_natCast, ← mul_sub, abs_signFactor_mul]
  refine ⟨hle, fun heq => ?_⟩
  have heven := htie heq
  split <;> omega

theorem fixRounds_floor_neg {m D : Nat} (hD : 0 < D) :
    FixRounds .floor (-((m + D - 1) / D : Nat)) (-((m : ℚ) / D)) := by
  have hDq : (0 : ℚ) < D := by exact_mod_cast hD
  obtain ⟨c, hc⟩ : ∃ c, c = (m + D - 1) / D := ⟨_, rfl⟩
  have hdiv := Nat.div_add_mod (m + D - 1) D
  have hmod := Nat.mod_lt (m + D - 1) hD
  rw [← hc] at hdiv ⊢
  have hlow : (m : ℚ) ≤ c * D := by
    have : m ≤ c * D := by rw [Nat.mul_comm]; omega
    exact_mod_cast this
  have hhigh : (c : ℚ) * D < m + D := by
    have : c * D < m + D := by rw [Nat.mul_comm]; omega
    exact_mod_cast this
  have hle : (m : ℚ) / D ≤ c := (div_le_iff₀ hDq).mpr hlow
  have hlt : (c : ℚ) - 1 < m / D := (lt_div_iff₀ hDq).mpr (by linarith)
  constructor <;> push_cast <;> linarith

/-- `roundInt` rounds as its mode says. -/
theorem roundInt_fixRounds (mode : FixMode) (b : Bool) (m sh : Nat) :
    FixRounds mode (roundInt mode b m sh) (signFactor b * (m / 2 ^ sh)) := by
  cases mode with
  | zero => exact fixRounds_zero b (shiftRound_roundsTo true m sh)
  | nearest => exact fixRounds_nearest b (shiftRound_roundsTo false m sh)
  | floor =>
    cases b with
    | false =>
      obtain ⟨hle, hlt⟩ := shiftRound_roundsTo true m sh
      rw [show signFactor false = 1 from rfl, one_mul]
      exact ⟨hle, hlt⟩
    | true =>
      have hneg := fixRounds_floor_neg (m := m) (show 0 < 2 ^ sh by positivity)
      rw [show signFactor true = -1 from rfl, neg_one_mul]
      push_cast at hneg
      exact hneg

/-- Below a half all shifts round alike. -/
theorem roundInt_small (mode : FixMode) (b : Bool) {m sh : Nat} (hm : m ≠ 0) (hsmall : 2 * m < 2 ^ sh) :
    roundInt mode b m sh = if mode = .floor ∧ b = true then -1 else 0 := by
  have hdiv : m / 2 ^ sh = 0 := Nat.div_eq_of_lt (by omega)
  have hmod : m % 2 ^ sh = m := Nat.mod_eq_of_lt (by omega)
  have hceil : (m + 2 ^ sh - 1) / 2 ^ sh = 1 := Nat.div_eq_of_lt_le (by omega) (by omega)
  have hnear : shiftRound false m sh = 0 := by
    unfold shiftRound
    dsimp only
    rw [hdiv, hmod, decide_eq_false (by omega), decide_eq_false (by omega)]
    rfl
  unfold roundInt
  cases mode <;> cases b <;> simp [hdiv, hceil, hnear]

/-- A shift beyond 40 rounds the significand of an operand as one by 40 does. -/
theorem roundInt_min (mode : FixMode) (b : Bool) {m : Nat} (hm : m ≠ 0) (hlt : m < 2 ^ 32) (sh : Nat) :
    roundInt mode b m (min sh 40) = roundInt mode b m sh := by
  obtain hle | hgt := le_or_gt sh 40
  · rw [min_eq_left hle]
  · have hpow : 2 ^ 40 ≤ 2 ^ sh := Nat.pow_le_pow_right (by decide) hgt.le
    rw [min_eq_right hgt.le, roundInt_small mode b hm (by omega), roundInt_small mode b hm (by omega)]

/-! ## The scaled operand -/

/-- An operand scaled by a power of two. -/
theorem fpVal_scaled (x : Ext) (k : Int) :
    fpVal x * (2 : ℚ) ^ k = signFactor (fpSign x) * (fpMant x * (2 : ℚ) ^ ((fpExp x : Int) + k - 158)) := by
  rw [fpVal_eq_signFactor, mul_assoc, mul_assoc, ← zpow_add₀ (by norm_num)]
  congr 3
  ring

theorem abs_scaled_bounds (hx : fpExp x ≠ 0) (k : Int) :
    (2 : ℚ) ^ ((fpExp x : Int) + k - 127) ≤ |fpVal x * (2 : ℚ) ^ k| ∧
      |fpVal x * (2 : ℚ) ^ k| < (2 : ℚ) ^ ((fpExp x : Int) + k - 126) := by
  obtain ⟨hlow, hhigh⟩ := abs_fpVal_bounds hx
  have hk : (0 : ℚ) < 2 ^ k := by positivity
  rw [abs_mul, abs_of_pos hk, show (fpExp x : Int) + k - 127 = fpExp x - 127 + k by ring,
    show (fpExp x : Int) + k - 126 = fpExp x - 126 + k by ring, zpow_add₀ (by norm_num), zpow_add₀ (by norm_num)]
  exact ⟨mul_le_mul_of_nonneg_right hlow hk.le, mul_lt_mul_of_pos_right hhigh hk⟩

theorem exponent_lt {i j : Int} (hi : (2 : ℚ) ^ i ≤ q) (hj : q < (2 : ℚ) ^ j) : i < j :=
  (zpow_lt_zpow_iff_right₀ one_lt_two).mp (hi.trans_lt hj)

/-! ## `toFix` (R578) -/

/-- An operand beyond the words overflows. -/
theorem toFix_overflow (m : AluMode) (mode : FixMode) {k : Int}
    (h : fpInf x = true ∨ (fpFinite x ∧ 2 ^ 31 ≤ |fpVal x * (2 : ℚ) ^ k|)) :
    toFix m mode x k = fixOverflow m (fpSign x) := by
  unfold toFix
  obtain hinf | ⟨hfin, hbig⟩ := h
  · rw [fpNan_of_inf hinf, fpZero_of_inf hinf, hinf]
    rfl
  · have hx : fpExp x ≠ 0 := fun hz => by
      rw [fpVal_of_zero hz] at hbig
      norm_num at hbig
    have hexp := exponent_lt (i := 31) (by exact_mod_cast hbig) (abs_scaled_bounds hx k).2
    rw [fpNan_of_finite hfin, fpZero_false_iff.mpr hx, decide_eq_true (show 157 < (fpExp x : Int) + k by omega),
      Bool.or_true]
    rfl

/-- An operand within the words is rounded to one; it underflows by its exponent. -/
theorem toFix_fits (m : AluMode) (mode : FixMode) {k : Int} (hfin : fpFinite x)
    (hq : |fpVal x * (2 : ℚ) ^ k| ≤ 2 ^ 31 - 1) :
    ∃ r : Word, FixRounds mode r.toInt (fpVal x * (2 : ℚ) ^ k) ∧
      toFix m mode x k = { v := r.toExt, av := false, au := decide (0 < |fpVal x * (2 : ℚ) ^ k| ∧
        |fpVal x * (2 : ℚ) ^ k| < (2 : ℚ) ^ (-126 : Int)), ai := false } := by
  by_cases hx : fpExp x = 0
  · refine ⟨0, ?_, ?_⟩
    · rw [fpVal_of_zero hx, zero_mul]
      cases mode <;> simp [FixRounds]
    · have hnone : ¬ (0 < |fpVal x * (2 : ℚ) ^ k| ∧ |fpVal x * (2 : ℚ) ^ k| < (2 : ℚ) ^ (-126 : Int)) := fun h => by
        rw [fpVal_of_zero hx, zero_mul, abs_zero] at h
        exact absurd h.1 (lt_irrefl 0)
      rw [decide_eq_false hnone]
      unfold toFix
      rw [fpNan_of_finite hfin, fpZero_iff.mpr hx]
      rfl
  · obtain ⟨hlow, hhigh⟩ := abs_scaled_bounds hx k
    obtain ⟨hm, hm'⟩ := fpMant_bounds hx
    have hpos : 0 < |fpVal x * (2 : ℚ) ^ k| := lt_of_lt_of_le (by positivity) hlow
    have hexp : (fpExp x : Int) + k ≤ 157 := by
      have := exponent_lt (j := 31) hlow (hq.trans_lt (by norm_num))
      omega
    have hsh : fpVal x * (2 : ℚ) ^ k =
        signFactor (fpSign x) * (fpMant x / 2 ^ (158 - ((fpExp x : Int) + k)).toNat) := by
      rw [fpVal_scaled, div_eq_mul_inv, ← zpow_natCast, ← zpow_neg, Int.toNat_of_nonneg (by omega), neg_sub]
    have hround := roundInt_fixRounds mode (fpSign x) (fpMant x) (158 - ((fpExp x : Int) + k)).toNat
    rw [← hsh, ← roundInt_min mode (fpSign x) (by omega) hm'] at hround
    have hunder : decide ((fpExp x : Int) + k < 1) = decide (0 < |fpVal x * (2 : ℚ) ^ k| ∧
        |fpVal x * (2 : ℚ) ^ k| < (2 : ℚ) ^ (-126 : Int)) := by
      rw [decide_eq_decide]
      refine ⟨fun h => ⟨hpos, hhigh.trans_le (zpow_le_zpow_right₀ one_le_two (by omega))⟩, fun ⟨_, h⟩ => ?_⟩
      have := exponent_lt hlow h
      omega
    have habs := abs_le.mp (hround.abs_le_natCast (k := 2 ^ 31 - 1) (by exact_mod_cast hq))
    refine ⟨.ofInt 32 (roundInt mode (fpSign x) (fpMant x) (min (158 - ((fpExp x : Int) + k)).toNat 40)), ?_, ?_⟩
    · rw [toInt_ofInt_of_fits32 (fits32_iff.mpr (by omega))]
      exact hround
    · have hne : roundInt mode (fpSign x) (fpMant x) (min (158 - ((fpExp x : Int) + k)).toNat 40) ≠ 2 ^ 31 := by omega
      unfold toFix
      rw [fpNan_of_finite hfin, fpZero_false_iff.mpr hx, fpInf_of_finite hfin, decide_eq_false (by omega), ← hunder]
      simp only [Bool.or_false, Bool.false_eq_true, if_false, if_neg hne]

/-! ## Fixed-point results -/

theorem toExt_word (r : Word) : r.toExt.word = r := by
  unfold Word.toExt Ext.word
  exact BitVec.extractLsb'_append_eq_left

theorem fpSign_toExt (r : Word) : fpSign r.toExt = r.getLsbD 31 := by
  unfold fpSign Word.toExt
  exact BitVec.getLsbD_append.trans (if_neg (by decide))

/-- A fixed-point result of a floating-point operation that is no invalid operation. -/
theorem fixOut_result {o : FpOut} {r : Word} (h : aluResult s t e n o.fixOut) (hv : o.v = r.toExt) (hav : o.av = false)
    (hai : o.ai = false) :
    t.reg e n = r.toExt ∧ aluFlagsAre t e (r == 0) (r.getLsbD 31) false false false false true ∧
      stuck s t e (bitIf o.au 0) := by
  have hout : o.fixOut = { r := r.toExt, f := fltFlags (r == 0) (r.getLsbD 31) false false false o.au } := by
    unfold FpOut.fixOut
    rw [hv, hav, hai, toExt_word, fpSign_toExt]
  have hsticky : bitIf o.au 0 ||| bitIf false 1 ||| bitIf false 5 = bitIf o.au 0 := by
    cases o.au <;> decide
  rw [hout] at h
  obtain ⟨hreg, hflags, hstuck⟩ := h
  exact ⟨hreg, hflags, hsticky ▸ hstuck⟩

variable {b : Bool} {k : Int}

/-- What the modes of FIX and TRUNC ask of the rounded integer. -/
theorem fixRounds_iff {i : Int} : FixRounds (if b then .zero else fixMode (aluMode s e)) i q ↔
    if b then |(i : ℚ)| ≤ |q| ∧ |(i : ℚ) - q| < 1 ∧ 0 ≤ i * q
    else if s.mode1 15 then (i : ℚ) ≤ q ∧ q < i + 1
    else |(i : ℚ) - q| ≤ 1 / 2 ∧ (|(i : ℚ) - q| = 1 / 2 → i % 2 = 0) := by
  cases b with
  | true => exact Iff.rfl
  | false =>
    have hmode : fixMode (aluMode s e) = if s.mode1 15 then .floor else .nearest := rfl
    rw [if_neg Bool.false_ne_true, if_neg Bool.false_ne_true, hmode]
    cases s.mode1 15 <;> exact Iff.rfl

/-- FIX or, where `b`, TRUNC of an operand within the words. -/
theorem fix_fits (h : aluResult s t e n (toFix (aluMode s e) (if b then .zero else fixMode (aluMode s e)) x k).fixOut)
    (hfin : fpFinite x) (hq : |fpVal x * (2 : ℚ) ^ k| ≤ 2 ^ 31 - 1) :
    ∃ r : Word,
      t.reg e n = r.toExt ∧ aluFlagsAre t e (r == 0) (r.getLsbD 31) false false false false true ∧
      stuck s t e (bitIf (decide (0 < |fpVal x * (2 : ℚ) ^ k| ∧ |fpVal x * (2 : ℚ) ^ k| < (2 : ℚ) ^ (-126 : Int))) 0) ∧
      (if b then |(r.toInt : ℚ)| ≤ |fpVal x * (2 : ℚ) ^ k| ∧ |(r.toInt : ℚ) - fpVal x * (2 : ℚ) ^ k| < 1 ∧
          0 ≤ r.toInt * (fpVal x * (2 : ℚ) ^ k)
        else if s.mode1 15 then (r.toInt : ℚ) ≤ fpVal x * (2 : ℚ) ^ k ∧ fpVal x * (2 : ℚ) ^ k < r.toInt + 1
        else |(r.toInt : ℚ) - fpVal x * (2 : ℚ) ^ k| ≤ 1 / 2 ∧
          (|(r.toInt : ℚ) - fpVal x * (2 : ℚ) ^ k| = 1 / 2 → r.toInt % 2 = 0)) := by
  obtain ⟨r, hround, heq⟩ := toFix_fits (aluMode s e) (if b then .zero else fixMode (aluMode s e)) hfin hq
  rw [heq] at h
  obtain ⟨hreg, hflags, hstuck⟩ := fixOut_result h rfl rfl rfl
  exact ⟨r, hreg, hflags, hstuck, fixRounds_iff.mp hround⟩

/-- FIX or TRUNC of an operand beyond the words: the nearer limit, or an invalid operation. -/
theorem fix_overflow {mode : FixMode} (h : aluResult s t e n (toFix (aluMode s e) mode x k).fixOut)
    (hx : fpInf x = true ∨ (fpFinite x ∧ 2 ^ 31 ≤ |fpVal x * (2 : ℚ) ^ k|)) :
    (t.astat e).val.getLsbD 1 = true ∧
      (s.mode1 13 = true → t.reg e n = if fpSign x then 0x8000000000 else 0x7FFFFFFF00) ∧
      (s.mode1 13 = false → t.reg e n = qnan (s.mode1 16) ∧ (t.astat e).val.getLsbD 5 = true) := by
  have hover : fixOverflow (aluMode s e) (fpSign x) = if s.mode1 13 then
      { v := if fpSign x then 0x8000000000 else 0x7FFFFFFF00, av := true, au := false, ai := false }
    else { v := qnan (s.mode1 16), av := true, au := false, ai := true } := rfl
  rw [toFix_overflow _ _ hx, hover] at h
  cases hsat : s.mode1 13 with
  | true =>
    rw [hsat] at h
    obtain ⟨hreg, ⟨-, -, hv, -⟩, -⟩ := h
    exact ⟨hv, fun _ => hreg, fun hf => absurd hf.symm Bool.false_ne_true⟩
  | false =>
    rw [hsat] at h
    obtain ⟨hreg, ⟨-, -, hv, -, -, hi, -⟩, -⟩ := h
    exact ⟨hv, fun hf => absurd hf Bool.false_ne_true, fun _ => ⟨hreg, hi⟩⟩

theorem float_exact {a : Word} (h : aluResult s t e n (fpFloat (aluMode s e) a 0).out) :
    ∃ v, fltResult s t e n v (fpSign v) false false false 0 ∧ fpFinite v ∧ fpVal v = a.toInt ∧ (a = 0 → v = 0) := by
  obtain ⟨hav, hau, hfin, hval⟩ := fpFloat_unscaled (aluMode s e) a
  have hres := fltResult_of_valid h ⟨rfl, (fpFloat_roundsExact _ a 0).ai⟩
  rw [hav, hau, show bitIf false 0 ||| bitIf false 1 = (0 : Word) by decide] at hres
  exact ⟨_, hres, hfin, hval, fun ha => by rw [ha, fpFloat_zero]; rfl⟩

/-- Settles O11: FLOAT rounds the exact scaled value, with room for every word (`fpVal_fpFloat`); FIX and TRUNC round it
to an integer (`toFix_fits`) or overflow (`toFix_overflow`). -/
theorem floatConvert : Obligations.FloatConvert := by
  unfold Obligations.FloatConvert
  intro s rn rx ry
  simp only [List.forall_mem_cons, List.not_mem_nil, IsEmpty.forall_iff, implies_true, and_true]
  refine ⟨⟨?float, ?floatShort⟩, ?floatBy, ?fix, ?fixBy, ?trunc, ?truncBy⟩
  case float | floatShort => exact gives_flt1 rfl fun _ _ h => float_exact h
  case floatBy =>
    refine gives_flt2 rfl fun e t h => ?_
    have hround := fpFloat_roundsExact (aluMode s e) (s.reg32 e rx) (s.reg32 e ry).toInt
    exact ⟨_, _, _, hround.result, fun ha => hround.zero (by rw [ha]; exact zero_mul _), fpVal_fpFloat _ _ _,
      fltResult_of_valid h ⟨rfl, hround.ai⟩⟩
  case fix =>
    exact gives_flt1 rfl fun e t h => ⟨fix_fits (b := false) h, fix_overflow h⟩
  case fixBy =>
    exact gives_flt2 rfl fun e t h => ⟨fix_fits (b := false) h, fix_overflow h⟩
  case trunc =>
    exact gives_flt1 rfl fun e t h => ⟨fix_fits (b := true) h, fix_overflow h⟩
  case truncBy =>
    exact gives_flt2 rfl fun e t h => ⟨fix_fits (b := true) h, fix_overflow h⟩

end Sys2Proof.Machine
end

section
/-! SCALB, MANT, LOGB and RND (O12): the exponent and the significand of an operand, moved or taken apart
(45_alu_float.md R574 to R577). -/

namespace Sys2Proof.Machine

open Sys2Proof.Safety

variable {s t : State} {e : Elem} {n : RegNum} {x : Ext}

/-! ## SCALB -/

theorem fpScalb_edge (m : AluMode) (k : Word) (hx : fpZero x = true ∨ fpInf x = true) : fpScalb m x k = .exact x := by
  unfold fpScalb
  obtain hz | hinf := hx
  · rw [fpNan_of_fpZero hz, hz]
    rfl
  · rw [fpNan_of_inf hinf, hinf, Bool.or_true]
    rfl

theorem fpScalb_usual (m : AluMode) (k : Word) (hfin : fpFinite x) (hx : fpZero x = false) :
    fpScalb m x k = if 254 < (fpExp x : Int) + k.toInt then .overflow m.trunc m.rnd32 (fpSign x)
      else if (fpExp x : Int) + k.toInt < 1 then .underflow (fpSign x)
      else .exact (fpPack (fpSign x) ((fpExp x : Int) + k.toInt).toNat (fpFrac x)) := by
  unfold fpScalb
  rw [fpNan_of_finite hfin, hx, fpInf_of_finite hfin]
  rfl

/-- A significand under another exponent. -/
theorem fpVal_scaled_pack {k : Int} (hx : fpZero x = false) (hlow : 1 ≤ (fpExp x : Int) + k)
    (hhigh : (fpExp x : Int) + k ≤ 254) :
    fpVal (fpPack (fpSign x) ((fpExp x : Int) + k).toNat (fpFrac x)) = fpVal x * (2 : ℚ) ^ k ∧
      fpFinite (fpPack (fpSign x) ((fpExp x : Int) + k).toNat (fpFrac x)) := by
  constructor
  · rw [fpVal_fpPack _ (by omega) (by omega), fpVal_scaled, fpMant_of_ne_zero (fpZero_false_iff.mp hx),
      Int.toNat_of_nonneg (by omega)]
  · unfold fpFinite
    rw [fpExp_fpPack _ (by omega)]
    omega

/-- SCALB overflows, underflows or is exact by the exponent, which bounds the scaled value. -/
theorem fpScalb_result (m : AluMode) (k : Word) (hfin : fpFinite x) (hx : fpZero x = false) :
    (fpScalb m x k).Valid (fpSign x) ∧
      ((2 : ℚ) ^ (-126 : Int) ≤ |fpVal x * (2 : ℚ) ^ k.toInt| → |fpVal x * (2 : ℚ) ^ k.toInt| < 2 ^ 128 →
        fpVal (fpScalb m x k).v = fpVal x * (2 : ℚ) ^ k.toInt ∧ fpFinite (fpScalb m x k).v ∧
          (fpScalb m x k).av = false ∧ (fpScalb m x k).au = false) ∧
      (2 ^ 128 ≤ |fpVal x * (2 : ℚ) ^ k.toInt| → fpScalb m x k = .overflow m.trunc m.rnd32 (fpSign x)) ∧
      (|fpVal x * (2 : ℚ) ^ k.toInt| < (2 : ℚ) ^ (-126 : Int) → fpScalb m x k = .underflow (fpSign x)) := by
  obtain ⟨hlow, hhigh⟩ := abs_scaled_bounds (fpZero_false_iff.mp hx) k.toInt
  have hover (h : (2 : ℚ) ^ 128 ≤ |fpVal x * (2 : ℚ) ^ k.toInt|) : 254 < (fpExp x : Int) + k.toInt := by
    have := exponent_lt (i := 128) (by exact_mod_cast h) hhigh
    omega
  have hnotOver (h : |fpVal x * (2 : ℚ) ^ k.toInt| < (2 : ℚ) ^ 128) : ¬ 254 < (fpExp x : Int) + k.toInt := by
    have := exponent_lt (j := 128) hlow (by exact_mod_cast h)
    omega
  have hunder (h : |fpVal x * (2 : ℚ) ^ k.toInt| < (2 : ℚ) ^ (-126 : Int)) : (fpExp x : Int) + k.toInt < 1 := by
    have := exponent_lt hlow h
    omega
  have hnotUnder (h : (2 : ℚ) ^ (-126 : Int) ≤ |fpVal x * (2 : ℚ) ^ k.toInt|) : ¬ (fpExp x : Int) + k.toInt < 1 := by
    have := exponent_lt h hhigh
    omega
  rw [fpScalb_usual m k hfin hx]
  refine ⟨?_, fun h1 h2 => ?_, fun h => if_pos (hover h), fun h => ?_⟩
  · split_ifs
    · exact ⟨fpSign_overflow _ _ _, rfl⟩
    · exact ⟨fpSign_fpZeroOf _, rfl⟩
    · exact ⟨fpSign_fpPack _ (by omega) _, rfl⟩
  · rw [if_neg (hnotOver h2), if_neg (hnotUnder h1)]
    have := hnotOver h2
    have := hnotUnder h1
    obtain ⟨hval, hfin'⟩ := fpVal_scaled_pack (k := k.toInt) hx (by omega) (by omega)
    exact ⟨hval, hfin', rfl, rfl⟩
  · have := hunder h
    rw [if_neg (by omega), if_pos this]

/-! ## MANT -/

theorem fpMantissa_finite (hfin : fpFinite x) :
    fpMantissa x = { r := Word.toExt (.ofNat 32 (fpMant x))
                     f := fltFlags ((BitVec.ofNat 32 (fpMant x)) == 0) false false (fpSign x) false false } := by
  unfold fpMantissa
  rw [fpNan_of_finite hfin, fpInf_of_finite hfin]
  rfl

theorem fpMant_lt (x : Ext) : fpMant x < 2 ^ 32 := by
  by_cases hx : fpExp x = 0
  · rw [fpMant_of_zero hx]
    decide
  · exact (fpMant_bounds hx).2

/-- MANT of a finite operand: its significand, and 0 of a zero. -/
theorem mantResult_finite (h : aluResult s t e n (fpMantissa x)) (hfin : fpFinite x) :
    ∃ r : Word, r.toNat = fpMant x ∧ t.reg e n = r.toExt ∧
      aluFlagsAre t e (fpZero x) false false false (fpSign x) false true ∧ stuck s t e 0 := by
  have hnat : (BitVec.ofNat 32 (fpMant x)).toNat = fpMant x := by
    rw [BitVec.toNat_ofNat, Nat.mod_eq_of_lt (fpMant_lt x)]
  have hz : (BitVec.ofNat 32 (fpMant x) == 0) = fpZero x := by
    rw [Bool.eq_iff_iff, beq_iff_eq, fpZero_iff, ← BitVec.toNat_inj, hnat]
    exact ⟨fun h0 => by_contra fun hx => fpMant_ne_zero hx h0, fpMant_of_zero⟩
  rw [fpMantissa_finite hfin, hz] at h
  obtain ⟨hreg, hflags, hstuck⟩ := h
  exact ⟨_, hnat, hreg, hflags, hstuck⟩

/-! ## LOGB -/

theorem fpLogb_inf (m : AluMode) (hx : fpInf x = true) :
    (fpLogb m x).fixOut =
      { r := if m.sat then 0x7FFFFFFF00 else 0x7F80000000, f := fltFlags false false true false false false } := by
  have heq : fpLogb m x =
      { v := if m.sat then 0x7FFFFFFF00 else 0x7F80000000, av := true, au := false, ai := false } := by
    unfold fpLogb
    rw [fpNan_of_inf hx, hx]
    rfl
  rw [heq]
  cases m.sat <;> decide

theorem fpLogb_zero (m : AluMode) (hx : fpZero x = true) :
    (fpLogb m x).fixOut =
      { r := if m.sat then 0x8000000000 else 0xFF80000000, f := fltFlags false true true false false false } := by
  have heq : fpLogb m x =
      { v := if m.sat then 0x8000000000 else 0xFF80000000, av := true, au := false, ai := false } := by
    unfold fpLogb
    rw [fpNan_of_fpZero hx, fpInf_of_fpZero hx, hx]
    rfl
  rw [heq]
  cases m.sat <;> decide

theorem fpLogb_usual (m : AluMode) (hfin : fpFinite x) (hx : fpZero x = false) :
    fpLogb m x = .exact (Word.toExt (.ofInt 32 ((fpExp x : Int) - 127))) := by
  unfold fpLogb
  rw [fpNan_of_finite hfin, fpInf_of_finite hfin, hx]
  rfl

/-- LOGB of an operand in range is its exponent. -/
theorem logbResult_usual (h : aluResult s t e n (fpLogb (aluMode s e) x).fixOut) (hfin : fpFinite x)
    (hx : fpZero x = false) :
    ∃ r : Word, t.reg e n = r.toExt ∧ aluFlagsAre t e (r == 0) (r.getLsbD 31) false false false false true ∧
      stuck s t e 0 ∧ (2 : ℚ) ^ r.toInt ≤ |fpVal x| ∧ |fpVal x| < (2 : ℚ) ^ (r.toInt + 1) := by
  have hlt := fpExp_lt x
  have hint : (BitVec.ofInt 32 ((fpExp x : Int) - 127)).toInt = fpExp x - 127 :=
    toInt_ofInt_of_fits32 (fits32_iff.mpr (by omega))
  rw [fpLogb_usual _ hfin hx] at h
  obtain ⟨hreg, hflags, hstuck⟩ := fixOut_result h rfl rfl rfl
  obtain ⟨hlow, hhigh⟩ := abs_fpVal_bounds (fpZero_false_iff.mp hx)
  refine ⟨_, hreg, hflags, hstuck, ?_⟩
  rw [hint, show (fpExp x : Int) - 127 + 1 = fpExp x - 126 by ring]
  exact ⟨hlow, hhigh⟩

/-! ## RND -/

theorem fpRnd_edge (m : AluMode) (hx : fpZero x = true ∨ fpInf x = true) : fpRnd m x = .exact x := by
  unfold fpRnd
  obtain hz | hinf := hx
  · rw [fpNan_of_fpZero hz, hz]
    rfl
  · rw [fpNan_of_inf hinf, hinf, Bool.or_true]
    rfl

theorem fpRnd_usual (m : AluMode) (hfin : fpFinite x) (hx : fpZero x = false) :
    fpRnd m x = fpRound m.trunc true (fpSign x) (fpMant x) (fpPow x) := by
  unfold fpRnd
  rw [fpNan_of_finite hfin, hx, fpInf_of_finite hfin]
  rfl

/-- Settles O12: SCALB moves the exponent (`fpScalb_result`), MANT and LOGB take significand and exponent, and RND is a
rounding of the operand's own value. -/
theorem floatScale : Obligations.FloatScale := by
  unfold Obligations.FloatScale
  intro s rn rx ry
  refine ⟨?scalb, ?mant, ?logb, ?rnd⟩
  case scalb =>
    refine gives_flt2 rfl fun e t h => ?_
    change aluResult s t e rn (fpScalb (aluMode s e) (fpOperand s e rx) (s.reg32 e ry)).out at h
    refine ⟨fun hx => fltResult_exact (fpScalb_edge _ _ hx ▸ h), fun ⟨hfin, hx⟩ => ?_⟩
    obtain ⟨hvalid, hexact, hover, hunder⟩ := fpScalb_result (aluMode s e) (s.reg32 e ry) hfin hx
    exact ⟨_, _, _, fltResult_of_valid h hvalid, hexact, fun hbig => by rw [hover hbig]; exact ⟨rfl, rfl, rfl⟩,
      fun hsmall => by rw [hunder hsmall]; exact ⟨rfl, rfl, rfl⟩⟩
  case mant =>
    refine gives_flt1 rfl fun e t h => ?_
    change aluResult s t e rn (fpMantissa (fpOperand s e rx)) at h
    refine ⟨fun hx => ?_, fun hinf => mantResult_bad h (by rw [hinf, Bool.or_true]), fun ⟨hfin, hx⟩ => ?_⟩
    · obtain ⟨r, hnat, hreg, hflags, hstuck⟩ := mantResult_finite h (fpFinite_of_fpZero hx)
      rw [fpMant_of_zero (fpZero_iff.mp hx)] at hnat
      rw [hx] at hflags
      have hr : r = 0 := BitVec.eq_of_toNat_eq hnat
      exact ⟨by rw [hreg, hr]; rfl, hflags, hstuck⟩
    · obtain ⟨r, hnat, hreg, hflags, hstuck⟩ := mantResult_finite h hfin
      rw [hx] at hflags
      exact ⟨r, hreg, hflags, hstuck, by rw [hnat, abs_fpVal]⟩
  case logb =>
    refine gives_flt1 rfl fun e t h => ?_
    change aluResult s t e rn (fpLogb (aluMode s e) (fpOperand s e rx)).fixOut at h
    refine ⟨fun hinf => ?_, fun hx => ?_, fun ⟨hfin, hx⟩ => logbResult_usual h hfin hx⟩
    · rw [fpLogb_inf _ hinf] at h
      exact h
    · rw [fpLogb_zero _ hx] at h
      exact h
  case rnd =>
    refine gives_flt1 rfl fun e t h => ?_
    change aluResult s t e rn (fpRnd (aluMode s e) (fpOperand s e rx)).out at h
    refine ⟨fun hx => fltResult_exact (fpRnd_edge _ hx ▸ h), fun ⟨hfin, hx⟩ => ?_⟩
    have hm := fpMant_ne_zero (fpZero_false_iff.mp hx)
    have hround := fpResult_fpRound (s.mode1 15) true (fpSign (fpOperand s e rx)) (fpPow (fpOperand s e rx)) hm
    rw [fpRnd_usual _ hfin hx] at h
    refine ⟨_, _, _, ?_, fltResult_of_valid h ⟨rfl, (fpRound_valid _ _ _ _ hm).ai⟩⟩
    rw [fpVal_eq_signFactor]
    exact hround

end Sys2Proof.Machine
end

section
/-! The seeds of RECIPS and RSQRTS (O13): every entry that a table may hold gives a seed of the stated accuracy
(45_alu_float.md R584, R585; log 11). -/

namespace Sys2Proof.Machine

open Sys2Proof.Safety

variable {s t : State} {e : Elem} {n : RegNum} {x : Ext}

/-! ## Entries of a table -/

/-- The least fraction of an entry from `lo`: a multiple of 256, so that it stays when the low byte is cut. -/
def seedLow (lo : Nat) : Nat := (lo + 255) / 256 * 256

theorem seedEntry_bounds {lo hi : Nat} (hle : seedLow lo ≤ hi) (hlt : hi < 2 ^ 31) (choice : Nat) :
    seedLow lo ≤ (seedEntry lo hi choice).toNat ∧ (seedEntry lo hi choice).toNat ≤ hi := by
  have hmod := Nat.mod_lt choice (show 0 < hi - seedLow lo + 1 by omega)
  have hnat : (seedEntry lo hi choice).toNat = seedLow lo + choice % (hi - seedLow lo + 1) := by
    show (BitVec.ofNat 31 (seedLow lo + choice % (hi - seedLow lo + 1))).toNat = _
    rw [BitVec.toNat_ofNat, Nat.mod_eq_of_lt (by omega)]
  omega

theorem mask_getLsbD (k : Nat) : (0x7FFFFF00 : BitVec 31).getLsbD k = decide (8 ≤ k ∧ k < 31) := by
  by_cases h : k < 31
  · interval_cases k <;> rfl
  · rw [BitVec.getLsbD_of_ge _ _ (by omega), decide_eq_false (by omega)]

/-- A fraction with its low byte cut. -/
theorem cut_toNat (f : BitVec 31) : (f &&& 0x7FFFFF00).toNat = f.toNat / 256 * 256 := by
  have hshift : f &&& (0x7FFFFF00 : BitVec 31) = (f >>> 8) <<< 8 := by
    apply BitVec.eq_of_getLsbD_eq
    intro k hk
    rw [BitVec.getLsbD_and, mask_getLsbD, BitVec.getLsbD_shiftLeft, BitVec.getLsbD_ushiftRight]
    by_cases h8 : k < 8
    · simp [h8]
    · simp [h8, hk, show 8 + (k - 8) = k by omega]
      omega
  have hf := f.isLt
  rw [hshift, BitVec.toNat_shiftLeft, BitVec.toNat_ushiftRight, Nat.shiftLeft_eq, Nat.shiftRight_eq_div_pow,
    Nat.mod_eq_of_lt (by omega)]

theorem fpSeed_fields (m : AluMode) (v : Ext) :
    fpSign (fpSeed m v) = fpSign v ∧ fpExp (fpSeed m v) = fpExp v ∧
      (fpFrac v).toNat / 256 * 256 ≤ (fpFrac (fpSeed m v)).toNat ∧ (fpFrac (fpSeed m v)).toNat ≤ (fpFrac v).toNat := by
  unfold fpSeed
  split
  · have hfrac : fpFrac (v &&& 0xFFFFFFFF00) = fpFrac v &&& 0x7FFFFF00 := by
      unfold fpFrac
      rw [BitVec.extractLsb'_and]
      rfl
    refine ⟨?_, ?_, ?_⟩
    · unfold fpSign
      rw [BitVec.getLsbD_and]
      exact Bool.and_true _
    · unfold fpExp
      rw [BitVec.extractLsb'_and, show (0xFFFFFFFF00 : Ext).extractLsb' 31 8 = BitVec.allOnes 8 from rfl,
        BitVec.and_allOnes]
    · rw [hfrac, cut_toNat]
      omega
  · exact ⟨rfl, rfl, Nat.div_mul_le_self _ _, le_rfl⟩

/-- A seed of an entry of a table: its sign and exponent, and a fraction in the range of the entry. -/
theorem fpSeed_entry (m : AluMode) (b : Bool) {ex : Nat} (hex : ex < 256) {lo hi : Nat} (hle : seedLow lo ≤ hi)
    (hlt : hi < 2 ^ 31) (choice : Nat) :
    fpSign (fpSeed m (fpPack b ex (seedEntry lo hi choice))) = b ∧
      fpExp (fpSeed m (fpPack b ex (seedEntry lo hi choice))) = ex ∧
      seedLow lo ≤ (fpFrac (fpSeed m (fpPack b ex (seedEntry lo hi choice)))).toNat ∧
      (fpFrac (fpSeed m (fpPack b ex (seedEntry lo hi choice)))).toNat ≤ hi := by
  obtain ⟨hs, he, hlow, hhigh⟩ := fpSeed_fields m (fpPack b ex (seedEntry lo hi choice))
  obtain ⟨hentry, hentry'⟩ := seedEntry_bounds hle hlt choice
  have hmod : seedLow lo % 256 = 0 := Nat.mul_mod_left _ _
  rw [fpFrac_fpPack b hex] at hlow hhigh
  rw [fpSign_fpPack b hex] at hs
  rw [fpExp_fpPack b hex] at he
  exact ⟨hs, he, by omega, by omega⟩

/-! ## RECIPS -/

/-- The least fraction of the entries of index `k` that is accurate for every operand with this index. -/
def recipsLow (k : Nat) : Nat := 255 * 2 ^ 31 / (128 + k) + 1 - 2 ^ 31

/-- The greatest one. -/
def recipsHigh (k : Nat) : Nat := min ((257 * 2 ^ 55 - 1) / ((129 + k) * 2 ^ 24 - 1) - 2 ^ 31) (2 ^ 31 - 1)

theorem recipsRom_eq (i : BitVec 7) :
    recipsRom i = seedEntry (recipsLow i.toNat) (recipsHigh i.toNat) (Config.recipsChoice i) := rfl

/-- No range is empty, and its ends times the least and the greatest operand are within 2^-8 of 1. -/
theorem recips_table : ∀ k < 128, seedLow (recipsLow k) ≤ recipsHigh k ∧ recipsHigh k < 2 ^ 31 ∧
    255 * 2 ^ 31 < (2 ^ 31 + seedLow (recipsLow k)) * (128 + k) ∧
    (2 ^ 31 + recipsHigh k) * ((129 + k) * 2 ^ 24 - 1) < 257 * 2 ^ 55 := by decide +kernel

/-- The index of an operand: the top of its fraction. -/
theorem recipsIndex_bounds (hx : fpExp x ≠ 0) :
    (128 + ((fpFrac x).extractLsb' 24 7).toNat) * 2 ^ 24 ≤ fpMant x ∧
      fpMant x ≤ (129 + ((fpFrac x).extractLsb' 24 7).toNat) * 2 ^ 24 - 1 := by
  have hfrac := (fpFrac x).isLt
  rw [fpMant_of_ne_zero hx, BitVec.extractLsb'_toNat, Nat.shiftRight_eq_div_pow]
  omega

theorem recips_accurate {F M k : Nat} (hk : k < 128) (hlow : 2 ^ 31 + seedLow (recipsLow k) ≤ F)
    (hhigh : F ≤ 2 ^ 31 + recipsHigh k) (hM : (128 + k) * 2 ^ 24 ≤ M) (hM' : M ≤ (129 + k) * 2 ^ 24 - 1) :
    255 * 2 ^ 55 < F * M ∧ F * M < 257 * 2 ^ 55 := by
  obtain ⟨-, -, hl, hh⟩ := recips_table k hk
  constructor
  · calc 255 * 2 ^ 55 = 255 * 2 ^ 31 * 2 ^ 24 := by norm_num
      _ < (2 ^ 31 + seedLow (recipsLow k)) * (128 + k) * 2 ^ 24 := Nat.mul_lt_mul_of_pos_right hl (by positivity)
      _ = (2 ^ 31 + seedLow (recipsLow k)) * ((128 + k) * 2 ^ 24) := Nat.mul_assoc _ _ _
      _ ≤ F * M := Nat.mul_le_mul hlow hM
  · exact (Nat.mul_le_mul hhigh hM').trans_lt hh

theorem fpRecips_zero (m : AluMode) (hx : fpZero x = true) :
    fpRecips m x = { r := fpInfOf (fpSign x), f := fltFlags false (fpSign x) true false false false } := by
  unfold fpRecips
  rw [fpNan_of_fpZero hx, hx]
  rfl

theorem fpRecips_great (m : AluMode) (hn : fpNan x = false) (hx : 252 < fpExp x) :
    fpRecips m x = { r := fpZeroOf (fpSign x), f := fltFlags true (fpSign x) false false false false } := by
  unfold fpRecips
  rw [hn, fpZero_false_iff.mpr (by omega)]
  exact if_pos hx

theorem fpRecips_usual (m : AluMode) (hx : fpZero x = false) (hle : fpExp x ≤ 252) :
    fpRecips m x =
      { r := fpSeed m (fpPack (fpSign x) (253 - fpExp x) (recipsRom ((fpFrac x).extractLsb' 24 7)))
        f := fltFlags false (fpSign x) false false false false } := by
  unfold fpRecips
  rw [fpNan_of_finite (show fpExp x ≠ 255 by omega), hx]
  exact if_neg (not_lt.mpr hle)

/-- The seed of a reciprocal, with its accuracy. -/
theorem recips_seed (m : AluMode) (hx : fpZero x = false) (hle : fpExp x ≤ 252) :
    fpSign (fpRecips m x).r = fpSign x ∧ fpExp (fpRecips m x).r = 253 - fpExp x ∧
      |fpVal (fpRecips m x).r * fpVal x - 1| < (2 : ℚ) ^ (-8 : Int) := by
  have hx0 := fpZero_false_iff.mp hx
  have hk : ((fpFrac x).extractLsb' 24 7).toNat < 128 := ((fpFrac x).extractLsb' 24 7).isLt
  obtain ⟨hrange, hmax, -, -⟩ := recips_table _ hk
  obtain ⟨hM, hM'⟩ := recipsIndex_bounds hx0
  rw [fpRecips_usual m hx hle, recipsRom_eq]
  obtain ⟨hs, he, hlow, hhigh⟩ := fpSeed_entry m (fpSign x) (show 253 - fpExp x < 256 by omega) hrange hmax
    (Config.recipsChoice ((fpFrac x).extractLsb' 24 7))
  dsimp only
  generalize fpSeed m _ = v at *
  have hv0 : fpExp v ≠ 0 := by omega
  have hmant := fpMant_of_ne_zero hv0
  obtain ⟨hge, hlt⟩ := recips_accurate hk (F := fpMant v) (by omega) (by omega) hM hM'
  have hgeq : (255 * 2 ^ 55 : ℚ) < fpMant v * fpMant x := by exact_mod_cast hge
  have hltq : (fpMant v * fpMant x : ℚ) < 257 * 2 ^ 55 := by exact_mod_cast hlt
  have hval : fpVal v * fpVal x = fpMant v * fpMant x * (2 : ℚ) ^ (-63 : Int) := by
    rw [fpVal_mul, hs, Bool.xor_self]
    unfold fpPow
    rw [he, Nat.cast_sub (by omega),
      show (((253 : Nat) : Int) - fpExp x - 158 + (fpExp x - 158)) = -63 by push_cast; ring]
    push_cast
    exact one_mul _
  refine ⟨hs, he, ?_⟩
  rw [hval, abs_lt]
  norm_num at hgeq hltq ⊢
  constructor <;> linarith

/-! ## RSQRTS -/

/-- The least fraction of the entries of index `j` that is accurate for every operand with this index, whose mantissa
counts `k` times. -/
def rsqrtsLow (j k : Nat) : Nat := isqrt (225 * 2 ^ 62 / ((64 + j) * k)) + 1 - 2 ^ 31

/-- The greatest one. -/
def rsqrtsHigh (j k : Nat) : Nat :=
  min (isqrt ((289 * 2 ^ 87 - 1) / (((65 + j) * 2 ^ 25 - 1) * k)) - 2 ^ 31) (2 ^ 31 - 1)

theorem rsqrtsRom_eq (i : BitVec 7) :
    rsqrtsRom i =
      seedEntry (rsqrtsLow (i.extractLsb' 0 6).toNat (if i.getLsbD 6 then 1 else 2))
        (rsqrtsHigh (i.extractLsb' 0 6).toNat (if i.getLsbD 6 then 1 else 2)) (Config.rsqrtsChoice i) := rfl

/-- No range is empty, and the squares of its ends times the least and the greatest operand are within the square of 1 ±
2^-4. -/
theorem rsqrts_table : ∀ j < 64, ∀ k ∈ [1, 2], seedLow (rsqrtsLow j k) ≤ rsqrtsHigh j k ∧ rsqrtsHigh j k < 2 ^ 31 ∧
    225 * 2 ^ 62 < (2 ^ 31 + seedLow (rsqrtsLow j k)) ^ 2 * ((64 + j) * k) ∧
    (2 ^ 31 + rsqrtsHigh j k) ^ 2 * (((65 + j) * 2 ^ 25 - 1) * k) < 289 * 2 ^ 87 := by decide +kernel

theorem rsqrts_accurate {F M j k : Nat} (hj : j < 64) (hk : k ∈ [1, 2]) (hlow : 2 ^ 31 + seedLow (rsqrtsLow j k) ≤ F)
    (hhigh : F ≤ 2 ^ 31 + rsqrtsHigh j k) (hM : (64 + j) * 2 ^ 25 ≤ M) (hM' : M ≤ (65 + j) * 2 ^ 25 - 1) :
    225 * 2 ^ 87 < F ^ 2 * (M * k) ∧ F ^ 2 * (M * k) < 289 * 2 ^ 87 := by
  obtain ⟨-, -, hl, hh⟩ := rsqrts_table j hj k hk
  constructor
  · calc 225 * 2 ^ 87 = 225 * 2 ^ 62 * 2 ^ 25 := by norm_num
      _ < (2 ^ 31 + seedLow (rsqrtsLow j k)) ^ 2 * ((64 + j) * k) * 2 ^ 25 :=
        Nat.mul_lt_mul_of_pos_right hl (by positivity)
      _ = (2 ^ 31 + seedLow (rsqrtsLow j k)) ^ 2 * ((64 + j) * 2 ^ 25 * k) := by ring
      _ ≤ F ^ 2 * (M * k) := Nat.mul_le_mul (Nat.pow_le_pow_left hlow 2) (Nat.mul_le_mul_right k hM)
  · exact (Nat.mul_le_mul (Nat.pow_le_pow_left hhigh 2) (Nat.mul_le_mul_right k hM')).trans_lt hh

/-- The index of an operand: whether its exponent is even, and the top of its fraction. -/
def rsqrtsIndex (x : Ext) : BitVec 7 := BitVec.ofNat 1 (fpExp x) ++ (fpFrac x).extractLsb' 25 6

theorem rsqrtsIndex_low (x : Ext) : (rsqrtsIndex x).extractLsb' 0 6 = (fpFrac x).extractLsb' 25 6 :=
  BitVec.extractLsb'_append_eq_right

theorem rsqrtsIndex_high (x : Ext) : (if (rsqrtsIndex x).getLsbD 6 then 1 else 2) = 2 - fpExp x % 2 := by
  have hbit : (rsqrtsIndex x).getLsbD 6 = decide (fpExp x % 2 = 1) := by
    unfold rsqrtsIndex
    rw [BitVec.getLsbD_append, if_neg (by decide), BitVec.getLsbD_ofNat]
    simp [Nat.testBit_zero]
  rw [hbit]
  by_cases h : fpExp x % 2 = 1
  · rw [decide_eq_true h, if_pos rfl, h]
  · rw [decide_eq_false h, if_neg Bool.false_ne_true]
    omega

theorem rsqrtsIndex_bounds (hx : fpExp x ≠ 0) :
    (64 + ((fpFrac x).extractLsb' 25 6).toNat) * 2 ^ 25 ≤ fpMant x ∧
      fpMant x ≤ (65 + ((fpFrac x).extractLsb' 25 6).toNat) * 2 ^ 25 - 1 := by
  have hfrac := (fpFrac x).isLt
  rw [fpMant_of_ne_zero hx, BitVec.extractLsb'_toNat, Nat.shiftRight_eq_div_pow]
  omega

theorem fpRsqrts_zero (m : AluMode) (hx : fpZero x = true) :
    fpRsqrts m x = { r := fpInfOf (fpSign x), f := fltFlags false (fpSign x) true false false false } := by
  unfold fpRsqrts
  rw [fpNan_of_fpZero hx, hx, Bool.not_true, Bool.and_false]
  rfl

theorem fpRsqrts_negative (m : AluMode) (hs : fpSign x = true) (hx : fpZero x = false) :
    fpRsqrts m x = nanOut m.rnd32 false false := by
  unfold fpRsqrts
  rw [hs, hx, Bool.not_false, Bool.and_true, Bool.or_true]
  rfl

theorem fpRsqrts_usual (m : AluMode) (hs : fpSign x = false) (hx : fpZero x = false) (hfin : fpFinite x) :
    fpRsqrts m x =
      { r := fpSeed m (fpPack false (-(((fpExp x : Int) - 127) / 2) - 1 + 127).toNat (rsqrtsRom (rsqrtsIndex x)))
        f := fltFlags false false false false false false } := by
  unfold fpRsqrts
  rw [fpNan_of_finite hfin, hs, hx, fpInf_of_finite hfin]
  rfl

/-- The seed of a reciprocal square root, with its accuracy. -/
theorem rsqrts_seed (m : AluMode) (hs : fpSign x = false) (hx : fpZero x = false) (hfin : fpFinite x) :
    fpSign (fpRsqrts m x).r = false ∧ (fpExp (fpRsqrts m x).r : Int) - 127 = -(((fpExp x : Int) - 127) / 2) - 1 ∧
      (1 - (2 : ℚ) ^ (-4 : Int)) ^ 2 < fpVal (fpRsqrts m x).r ^ 2 * fpVal x ∧
      fpVal (fpRsqrts m x).r ^ 2 * fpVal x < (1 + (2 : ℚ) ^ (-4 : Int)) ^ 2 := by
  have hx0 := fpZero_false_iff.mp hx
  have hexp := fpExp_lt x
  have hj : ((fpFrac x).extractLsb' 25 6).toNat < 64 := ((fpFrac x).extractLsb' 25 6).isLt
  have hk : 2 - fpExp x % 2 ∈ [1, 2] := by
    simp only [List.mem_cons, List.not_mem_nil, or_false]
    omega
  obtain ⟨hrange, hmax, -, -⟩ := rsqrts_table _ hj _ hk
  obtain ⟨hM, hM'⟩ := rsqrtsIndex_bounds hx0
  rw [fpRsqrts_usual m hs hx hfin, rsqrtsRom_eq, rsqrtsIndex_low, rsqrtsIndex_high]
  obtain ⟨hsign, he, hlow, hhigh⟩ := fpSeed_entry m false
    (show (-(((fpExp x : Int) - 127) / 2) - 1 + 127).toNat < 256 by omega) hrange hmax
    (Config.rsqrtsChoice (rsqrtsIndex x))
  dsimp only
  generalize fpSeed m _ = v at *
  have he' : (fpExp v : Int) = -(((fpExp x : Int) - 127) / 2) - 1 + 127 := by omega
  have hv0 : fpExp v ≠ 0 := by omega
  have hmant := fpMant_of_ne_zero hv0
  obtain ⟨hge, hlt⟩ := rsqrts_accurate hj hk (F := fpMant v) (by omega) (by omega) hM hM'
  have hgeq : (225 * 2 ^ 87 : ℚ) < fpMant v ^ 2 * (fpMant x * (2 - fpExp x % 2 : Nat)) := by exact_mod_cast hge
  have hltq : (fpMant v ^ 2 * (fpMant x * (2 - fpExp x % 2 : Nat)) : ℚ) < 289 * 2 ^ 87 := by exact_mod_cast hlt
  have hpow : ((2 - fpExp x % 2 : Nat) : ℚ) * (2 : ℚ) ^ (-95 : Int) =
      (2 : ℚ) ^ ((fpExp v : Int) - 158) * (2 : ℚ) ^ ((fpExp v : Int) - 158) * (2 : ℚ) ^ ((fpExp x : Int) - 158) := by
    rw [← zpow_add₀ (by norm_num), ← zpow_add₀ (by norm_num)]
    obtain h | h : fpExp x % 2 = 0 ∨ fpExp x % 2 = 1 := by omega
    · rw [h, show (fpExp v : Int) - 158 + (fpExp v - 158) + (fpExp x - 158) = -94 by omega]
      norm_num
    · rw [h, show (fpExp v : Int) - 158 + (fpExp v - 158) + (fpExp x - 158) = -95 by omega]
      norm_num
  have hval : fpVal v ^ 2 * fpVal x = fpMant v ^ 2 * (fpMant x * (2 - fpExp x % 2 : Nat)) * (2 : ℚ) ^ (-95 : Int) := by
    rw [fpVal_eq_signFactor v, fpVal_eq_signFactor x, hsign, hs, show signFactor false = 1 from rfl, mul_assoc,
      mul_assoc (fpMant x : ℚ), hpow]
    ring
  refine ⟨hsign, by omega, ?_⟩
  rw [hval]
  norm_num at hgeq hltq ⊢
  constructor <;> linarith

/-- Settles O13: whatever entries the tables hold, the seeds are accurate (`recips_seed`, `rsqrts_seed`), and special
operands give what R584 and R585 say. -/
theorem floatSeeds : Obligations.FloatSeeds := by
  unfold Obligations.FloatSeeds
  intro s rn rx
  constructor
  · refine gives_flt1 rfl fun e t h => ?_
    change aluResult s t e rn (fpRecips (aluMode s e) (fpOperand s e rx)) at h
    refine ⟨fun hx => ?_, fun hn hx => ?_, fun hx hle => ?_⟩
    · rw [fpRecips_zero _ hx] at h
      exact h
    · rw [fpRecips_great _ hn hx] at h
      exact h
    · obtain ⟨hs, he, hacc⟩ := recips_seed (aluMode s e) hx hle
      obtain ⟨hreg, hflags, hstuck⟩ := h
      rw [← hreg] at hs he hacc
      rw [fpRecips_usual _ hx hle] at hflags hstuck
      exact ⟨hs, he, hacc, hflags, hstuck⟩
  · refine gives_flt1 rfl fun e t h => ?_
    change aluResult s t e rn (fpRsqrts (aluMode s e) (fpOperand s e rx)) at h
    refine ⟨fun hx => ?_, fun hx => ?_, fun hs hx => ?_, fun hs hx hfin => ?_⟩
    · rw [fpRsqrts_zero _ hx] at h
      exact h
    · have hinf : fpRsqrts (aluMode s e) (fpInfOf false) =
          { r := 0, f := fltFlags true false false false false false } := rfl
      change fpOperand s e rx = fpInfOf false at hx
      rw [hx, hinf] at h
      exact h
    · obtain ⟨hreg, hai, -, -, -, hstuck⟩ := nanResult h (fpRsqrts_negative _ hs hx)
      exact ⟨hreg, hai, hstuck⟩
    · obtain ⟨hsign, he, hlow, hhigh⟩ := rsqrts_seed (aluMode s e) hs hx hfin
      obtain ⟨hreg, hflags, hstuck⟩ := h
      rw [← hreg] at hsign he hlow hhigh
      rw [fpRsqrts_usual _ hs hx hfin] at hflags hstuck
      exact ⟨hsign, he, hlow, hhigh, hflags, hstuck⟩

end Sys2Proof.Machine
end

section
/-! The fixed-point multiplier (O14 to O16): an 80-bit result and its flags by its value, the operations as their exact
values rounded or saturated, and the parts of a result register (46_multiplier.md R610 to R640). -/

namespace Sys2Proof.Safety

open Sys2Proof.Machine

theorem SameUnit.mr {s t : State} {e : Elem} (h : SameUnit s t e) (bg : Bool) : t.mr e bg = s.mr e bg := by
  obtain ⟨hpe, -, -⟩ := h.elem
  unfold State.mr
  rw [h.mode1, hpe]

end Sys2Proof.Safety

namespace Sys2Proof.Machine

open Sys2Proof.Safety

variable {s : State}

/-! ## The parts of a bit vector as numbers -/

section

variable {n k : Nat} (r : BitVec (n + k))

theorem append_extractLsb' : r.extractLsb' k n ++ r.extractLsb' 0 k = r := by
  rw [BitVec.extractLsb'_append_extractLsb'_eq_extractLsb' (Nat.zero_add k).symm, BitVec.extractLsb'_eq_self]

theorem toNat_extractLsb'_low : (r.extractLsb' 0 k).toNat = r.toNat % 2 ^ k := by
  rw [BitVec.extractLsb'_toNat, Nat.shiftRight_zero]

theorem toNat_extractLsb'_top : (r.extractLsb' k n).toNat = r.toNat / 2 ^ k := by
  rw [BitVec.extractLsb'_toNat, Nat.shiftRight_eq_div_pow]
  exact Nat.mod_eq_of_lt (Nat.div_lt_of_lt_mul ((Nat.pow_add 2 n k).trans (mul_comm _ _) ▸ r.isLt))

/-- A signed number is its top bits, signed, and its low bits. -/
theorem toInt_eq_top_low (hn : n ≠ 0) :
    r.toInt = 2 ^ k * (r.extractLsb' k n).toInt + (r.extractLsb' 0 k).toNat := by
  conv_lhs => rw [← append_extractLsb' r]
  rw [BitVec.toInt_append, if_neg (by simpa using hn)]

theorem toInt_extractLsb'_top (hn : n ≠ 0) : (r.extractLsb' k n).toInt = r.toInt / 2 ^ k := by
  have hlow : ((r.extractLsb' 0 k).toNat : Int) < 2 ^ k := by exact_mod_cast (r.extractLsb' 0 k).isLt
  rw [toInt_eq_top_low r hn, Int.mul_add_ediv_left _ _ (by positivity), Int.ediv_eq_zero_of_lt (by omega) hlow,
    add_zero]

theorem toNat_append_eq {n k : Nat} (x : BitVec n) (y : BitVec k) : (x ++ y).toNat = x.toNat * 2 ^ k + y.toNat := by
  rw [BitVec.toNat_append, ← Nat.shiftLeft_add_eq_or_of_lt y.isLt, Nat.shiftLeft_eq]

theorem toExt_toNat_mod (w : Word) : w.toExt.toNat % 2 ^ 8 = 0 := by
  unfold Word.toExt
  rw [toNat_append_eq, BitVec.toNat_zero, add_zero, Nat.mul_mod_left]

theorem extractLsb'_top_eq_zero : r.extractLsb' k n = 0#n ↔ r.toNat < 2 ^ k := by
  rw [← BitVec.toNat_inj, toNat_extractLsb'_top, BitVec.toNat_zero, Nat.div_eq_zero_iff_lt (by positivity)]

/-- The top bits are all copies of the sign of a number that fits the bits below and one of them. -/
theorem extractLsb'_top_eq_signs (hn : n ≠ 0) :
    r.extractLsb' k n = 0#n ∨ r.extractLsb' k n = BitVec.allOnes n ↔ -(2 ^ k) ≤ r.toInt ∧ r.toInt < 2 ^ k := by
  have hk : (0 : Int) < 2 ^ k := by positivity
  have hle := Int.le_ediv_iff_mul_le (a := -1) (b := r.toInt) hk
  have hlt := Int.ediv_lt_iff_lt_mul (a := r.toInt) (b := 1) hk
  rw [← BitVec.toInt_inj, ← BitVec.toInt_inj, toInt_extractLsb'_top r hn, BitVec.toInt_zero, BitVec.toInt_allOnes,
    if_pos (Nat.pos_of_ne_zero hn)]
  omega

end

/-! ## Flags (R612) -/

/-- Bits above the 32-bit result, and its sign where it is signed, are copies of one bit unless the result overflows. -/
theorem mulTop_eq (r : Acc) (signed frac : Bool) : mulTop r signed frac = !mulOverflows signed frac r := by
  rw [Bool.eq_iff_iff, Bool.not_eq_true', ← Bool.not_eq_true]
  unfold mulTop mulOverflows
  cases frac <;> cases signed <;>
    simp only [Bool.false_eq_true, if_true, if_false, Bool.or_eq_true, beq_iff_eq, decide_eq_true_eq]
  case false.false => exact (extractLsb'_top_eq_zero (n := 48) (k := 32) r).trans Nat.not_le.symm
  case true.false => exact (extractLsb'_top_eq_zero (n := 16) (k := 64) r).trans Nat.not_le.symm
  case false.true =>
    refine (extractLsb'_top_eq_signs (n := 49) (k := 31) r (by decide)).trans ?_
    omega
  case true.true =>
    refine (extractLsb'_top_eq_signs (n := 17) (k := 63) r (by decide)).trans ?_
    omega

theorem mulFixFlags_mu (r : Acc) (signed frac mv : Bool) :
    (mulFixFlags r signed frac mv).mu = mulUnderflows signed frac r := by
  have hhigh : (r.extractLsb' 32 48 == 0 || (signed && r.extractLsb' 32 48 == BitVec.allOnes 48)) =
      if signed then decide (-(2 ^ 32) ≤ r.toInt ∧ r.toInt < 2 ^ 32) else decide (r.toNat < 2 ^ 32) := by
    rw [Bool.eq_iff_iff]
    cases signed with
    | false => simpa using extractLsb'_top_eq_zero (n := 48) (k := 32) r
    | true => simpa using extractLsb'_top_eq_signs (n := 48) (k := 32) r (by decide)
  unfold mulFixFlags mulUnderflows
  dsimp only
  rw [hhigh, Bool.and_assoc, Bool.and_assoc, Bool.and_comm (if signed then _ else _)]

/-- The flags of a fixed-point result by its value. -/
theorem mulFixFlags_eq (r : Acc) (signed frac mv : Bool) :
    mulFixFlags r signed frac mv =
      { mn := r.getLsbD 79, mv := mv && mulOverflows signed frac r, mu := mulUnderflows signed frac r, mi := false
        sticky := bitIf (mv && mulOverflows signed frac r) 6 } := by
  rw [← mulFixFlags_mu r signed frac mv]
  unfold mulFixFlags
  rw [mulTop_eq, Bool.not_not]

/-! ## Rounding and products (R611, R613, R615, R620) -/

theorem toInt_mod_two_pow_32 (v : Acc) : v.toInt % 2 ^ 32 = (v.extractLsb' 0 32).toNat := by
  have hlow := (v.extractLsb' 0 32).isLt
  rw [toInt_eq_top_low (n := 48) (k := 32) v (by decide)]
  omega

/-- A 48-bit number above 32 zero bits. -/
theorem ofInt_append_zero (d : Int) : BitVec.ofInt 48 d ++ 0#32 = BitVec.ofInt 80 (d * 2 ^ 32) := by
  apply BitVec.eq_of_toNat_eq
  rw [BitVec.toNat_append, BitVec.toNat_ofInt, BitVec.toNat_ofInt, BitVec.toNat_zero, Nat.or_zero, Nat.shiftLeft_eq]
  omega

theorem getLsbD_zero_ofInt (d : Int) : (BitVec.ofInt 48 d).getLsbD 0 = decide (d % 2 = 1) := by
  rw [BitVec.getLsbD, Nat.testBit_zero, BitVec.toNat_ofInt, decide_eq_decide]
  omega

/-- Rounding at bit 32 adds one to the bits above where it goes up. -/
theorem round80_eq (v : Acc) : round80 v = .ofInt 80 (roundAt32 v.toInt) := by
  have hlow := toInt_mod_two_pow_32 v
  have hhigh : v.extractLsb' 32 48 = BitVec.ofInt 48 (v.toInt / 2 ^ 32) := by
    rw [← toInt_extractLsb'_top (n := 48) (k := 32) v (by decide), BitVec.ofInt_toInt]
  have hup : (decide (0x80000000 < (v.extractLsb' 0 32).toNat) ||
      (v.extractLsb' 0 32 == 0x80000000 && (v.extractLsb' 32 48).getLsbD 0)) =
      decide (2 ^ 31 < v.toInt % 2 ^ 32 ∨ v.toInt % 2 ^ 32 = 2 ^ 31 ∧ v.toInt / 2 ^ 32 % 2 = 1) := by
    rw [hhigh, getLsbD_zero_ofInt, hlow, Bool.eq_iff_iff]
    simp only [Bool.or_eq_true, Bool.and_eq_true, beq_iff_eq, decide_eq_true_eq, ← BitVec.toNat_inj,
      show BitVec.toNat (0x80000000 : Word) = 2 ^ 31 from rfl]
    omega
  unfold round80 roundAt32
  dsimp only
  rw [hup, hhigh]
  split
  case isTrue h =>
    rw [decide_eq_true_eq] at h
    rw [show (1 : BitVec 48) = BitVec.ofInt 48 1 from rfl, ← BitVec.ofInt_add, ofInt_append_zero]
    congr 1
    split <;> omega
  case isFalse h =>
    rw [decide_eq_true_eq] at h
    rw [ofInt_append_zero]
    congr 1
    split <;> omega

theorem product80_eq (md : MulMod) (x y : Word) : product80 md x y = .ofInt 80 (mulExact md x y) := by
  unfold product80 mulExact
  dsimp only
  split
  · rw [mul_comm]
  · rw [mul_one]

theorem multiply_eq (md : MulMod) (sub : Bool) (acc : Acc) (x y : Word) :
    multiply md sub acc x y = mulResult md sub acc (mulExact md x y) := by
  have hsum : (if sub then acc - product80 md x y else acc + product80 md x y) =
      .ofInt 80 (if sub then acc.toInt - mulExact md x y else acc.toInt + mulExact md x y) := by
    rw [product80_eq]
    split
    · rw [sub_eq_add_neg acc.toInt, BitVec.ofInt_add, BitVec.ofInt_toInt, BitVec.ofInt_neg, BitVec.sub_eq_add_neg]
    · rw [BitVec.ofInt_add, BitVec.ofInt_toInt]
  unfold multiply mulResult
  dsimp only
  rw [hsum, round80_eq]

/-! ## Saturation (R632) -/

/-- The least value of a saturation format. -/
def satLow (fmt : SatMod) : Int := if fmt.signed then -(2 ^ (if fmt.frac then 63 else 31)) else 0

/-- The greatest value of a saturation format. -/
def satHigh (fmt : SatMod) : Int :=
  (if fmt.signed then 2 ^ (if fmt.frac then 63 else 31) else 2 ^ (if fmt.frac then 64 else 32)) - 1

/-- The value of a result register in a saturation format, as the nearest value of the format. -/
def satValue (fmt : SatMod) (r : Acc) : Acc :=
  .ofInt 80 (max (satLow fmt) (min (satHigh fmt) (if fmt.signed then r.toInt else r.toNat)))

theorem max_min_sub_one_eq {low bound v : Int} (h : low < bound) :
    max low (min (bound - 1) v) = if bound ≤ v then bound - 1 else if v < low then low else v := by
  split_ifs <;> omega

theorem satValue_signed {fmt : SatMod} {b : Nat} {r : Acc} (h : fmt.signed = true)
    (hb : (if fmt.frac then 63 else 31) = b) :
    satValue fmt r = if (2 : Int) ^ b ≤ r.toInt then .ofInt 80 (2 ^ b - 1)
      else if r.toInt < -(2 ^ b) then .ofInt 80 (-(2 ^ b)) else r := by
  have hpos : (0 : Int) < 2 ^ b := by positivity
  unfold satValue satLow satHigh
  rw [h, hb, if_pos rfl, if_pos rfl, if_pos rfl, max_min_sub_one_eq (by omega), apply_ite (BitVec.ofInt 80),
    apply_ite (BitVec.ofInt 80), BitVec.ofInt_toInt]

theorem satValue_unsigned {fmt : SatMod} {b : Nat} {r : Acc} (h : fmt.signed = false)
    (hb : (if fmt.frac then 64 else 32) = b) :
    satValue fmt r = if 2 ^ b ≤ r.toNat then .ofNat 80 (2 ^ b - 1) else r := by
  have hcast : (2 : Int) ^ b = (2 ^ b : Nat) := by norm_cast
  have hpos : 0 < 2 ^ b := by positivity
  unfold satValue satLow satHigh
  rw [h, hb, if_neg Bool.false_ne_true, if_neg Bool.false_ne_true, if_neg Bool.false_ne_true,
    max_min_sub_one_eq (by positivity), if_neg (by omega : ¬ (r.toNat : Int) < 0), hcast]
  split
  case isTrue h => rw [if_pos (by exact_mod_cast h), ← Nat.cast_one, ← Nat.cast_sub hpos, BitVec.ofInt_natCast]
  case isFalse h => rw [if_neg (by exact_mod_cast h), BitVec.ofInt_natCast, BitVec.ofNat_toNat, BitVec.setWidth_eq]

theorem saturate80_eq (fmt : SatMod) (r : Acc) : saturate80 fmt r = satValue fmt r := by
  cases fmt with
  | si => exact (satValue_signed (b := 31) rfl rfl).symm
  | sf => exact (satValue_signed (b := 63) rfl rfl).symm
  | ui => exact (satValue_unsigned (b := 32) rfl rfl).symm
  | uf => exact (satValue_unsigned (b := 64) rfl rfl).symm

/-! ## Results in registers -/

@[simp] theorem State.setMr_astat (t : State) (e e' : Elem) (bg : Bool) (v : Acc) :
    (t.setMr e bg v).astat e' = t.astat e' := by
  unfold State.setMr
  split <;> exact State.setPe_astat _ _ _ _

@[simp] theorem State.setMr_stky (t : State) (e e' : Elem) (bg : Bool) (v : Acc) :
    (t.setMr e bg v).stky e' = t.stky e' := by
  unfold State.setMr
  split <;> exact State.setPe_stky _ _ _ _

/-- The flags of a fixed-point result, of the element whose STKY the write of the result has left. -/
theorem mulFixFlagsAre_of_write {t u : State} {e : Elem} {r : Acc} {signed frac mv : Bool}
    (ht : t.stky e = s.stky e) (hu : SameUnit (writeMulFlags e (mulFixFlags r signed frac mv) t) u e) :
    mulFixFlagsAre s u e r signed frac mv := by
  have hflags := writeMulFlags_flags e (mulFixFlags r signed frac mv) t
  have hstuck := writeMulFlags_stuck e (mulFixFlags r signed frac mv) t
  unfold mulFixFlagsAre mulFlagsAre
  unfold mulFlagsAre at hflags
  unfold stuck at hstuck ⊢
  rw [hu.astat, hu.stky, hstuck, ht]
  rw [mulFixFlags_eq] at hflags ⊢
  exact ⟨hflags, rfl⟩

/-- A fixed-point result `r` to a data register: the half that the format takes, and the flags of all of it. -/
theorem gives_putMulReg {i : Instr} {c : Compute} {n : RegNum} {r : Elem → Acc} {signed frac mv : Bool}
    (hexec : exec i s = computeOnly c s) (hwf : c.wellFormed = true)
    (hc : ∀ e t, computeElem s e c t = putMulReg e n (r e) signed frac mv t) :
    gives i s fun t => onRunning s fun e =>
      t.reg e n = (mulHalf frac (r e)).toExt ∧ mulFixFlagsAre s t e (r e) signed frac mv := by
  refine gives_compute hexec hwf fun e t u ht hu => ?_
  rw [hc] at hu
  refine ⟨?_, mulFixFlagsAre_of_write (by rw [State.setReg32, State.setReg_stky, ht.stky]) hu⟩
  rw [hu.reg, putMulReg, writeMulFlags_reg, State.setReg32, State.setReg_reg]
  rfl

/-- A fixed-point result `r` to a result register, with its flags. -/
theorem gives_putMulAcc {i : Instr} {c : Compute} {bg : Bool} {r : Elem → Acc} {signed frac mv : Bool}
    (hexec : exec i s = computeOnly c s) (hwf : c.wellFormed = true)
    (hc : ∀ e t, computeElem s e c t = putMulAcc e bg (r e) signed frac mv t) :
    gives i s fun t => onRunning s fun e => t.mr e bg = r e ∧ mulFixFlagsAre s t e (r e) signed frac mv := by
  refine gives_compute hexec hwf fun e t u ht hu => ?_
  rw [hc] at hu
  refine ⟨?_, mulFixFlagsAre_of_write (by rw [State.setMr_stky, ht.stky]) hu⟩
  rw [hu.mr, putMulAcc, writeMulFlags_mr, State.setMr_mr]

/-! ## Multiplies -/

/-- The value that a multiply to a data register leaves of the exact product `p`. -/
def mulRegValue (s : State) (e : Elem) (op : MulRegOp) (md : MulMod) (p : Int) : Acc :=
  match op with
  | .mul => mulResult md false 0 p
  | .addF => mulResult md false (s.mr e false) p
  | .addB => mulResult md false (s.mr e true) p
  | .subF => mulResult md true (s.mr e false) p
  | .subB => mulResult md true (s.mr e true) p

theorem mulToReg_eq (s : State) (e : Elem) (op : MulRegOp) (md : MulMod) (n x y : RegNum) (t : State) :
    mulToReg s e op md n x y t =
      putMulReg e n (mulRegValue s e op md (mulExact md (s.reg32 e x) (s.reg32 e y))) md.signed md.frac true t := by
  unfold mulToReg mulRegValue
  cases op <;> dsimp only <;> rw [multiply_eq]

theorem gives_mulReg {i : Instr} (op : MulRegOp) {md : MulMod} {n x y : RegNum}
    (hexec : exec i s = computeOnly (.mulReg op md n x y) s) :
    gives i s fun t => onRunning s fun e =>
      t.reg e n = (mulHalf md.frac (mulRegValue s e op md (mulExact md (s.reg32 e x) (s.reg32 e y)))).toExt ∧
        mulFixFlagsAre s t e (mulRegValue s e op md (mulExact md (s.reg32 e x) (s.reg32 e y))) md.signed md.frac true :=
  gives_putMulReg hexec rfl fun e t => mulToReg_eq s e op md n x y t

/-- The value that a multiply to a result register leaves of the exact product `p`. -/
def mulAccValue (s : State) (e : Elem) (op : MulAccOp) (md : MulMod) (p : Int) : Acc :=
  match op with
  | .mulF | .mulB => mulResult md false 0 p
  | .addF => mulResult md false (s.mr e false) p
  | .addB => mulResult md false (s.mr e true) p
  | .subF => mulResult md true (s.mr e false) p
  | .subB => mulResult md true (s.mr e true) p

/-- The result register is MRB. -/
def accBackground : MulAccOp → Bool
  | .mulF | .addF | .subF => false
  | .mulB | .addB | .subB => true

theorem mulToAcc_eq (s : State) (e : Elem) (op : MulAccOp) (md : MulMod) (x y : RegNum) (t : State) :
    mulToAcc s e op md x y t = putMulAcc e (accBackground op)
      (mulAccValue s e op md (mulExact md (s.reg32 e x) (s.reg32 e y))) md.signed md.frac true t := by
  unfold mulToAcc mulAccValue accBackground
  cases op <;> dsimp only <;> rw [multiply_eq]

theorem gives_mulAcc {i : Instr} (op : MulAccOp) {md : MulMod} {x y : RegNum}
    (hexec : exec i s = computeOnly (.mulAcc op md x y) s) :
    gives i s fun t => onRunning s fun e =>
      t.mr e (accBackground op) = mulAccValue s e op md (mulExact md (s.reg32 e x) (s.reg32 e y)) ∧
        mulFixFlagsAre s t e (mulAccValue s e op md (mulExact md (s.reg32 e x) (s.reg32 e y))) md.signed md.frac true :=
  gives_putMulAcc hexec rfl fun e t => mulToAcc_eq s e op md x y t

/-- Settles O14: every form leaves its half of the exact value (`mulToReg_eq`); an SSI product is not doubled. -/
theorem multiplyToRegister : Obligations.MultiplyToRegister := by
  unfold Obligations.MultiplyToRegister
  intro s rn rx ry md
  have hshort : ∀ x y : Word, x.toInt * y.toInt = mulExact .ssi x y := fun x y => (mul_one (x.toInt * y.toInt)).symm
  simp only [List.forall_mem_cons, List.not_mem_nil, IsEmpty.forall_iff, implies_true, and_true, hshort]
  exact ⟨gives_mulReg .mul rfl, gives_mulReg .addF rfl, gives_mulReg .addB rfl, gives_mulReg .subF rfl,
    gives_mulReg .subB rfl, gives_mulReg .mul rfl⟩

/-- Settles O15: every form leaves the exact value (`mulToAcc_eq`). -/
theorem multiplyToAccumulator : Obligations.MultiplyToAccumulator := by
  unfold Obligations.MultiplyToAccumulator
  intro s rx ry md
  simp only [List.forall_mem_cons, List.not_mem_nil, IsEmpty.forall_iff, implies_true, and_true]
  exact ⟨gives_mulAcc .mulF rfl, gives_mulAcc .mulB rfl, gives_mulAcc .addF rfl, gives_mulAcc .addB rfl,
    gives_mulAcc .subF rfl, gives_mulAcc .subB rfl⟩

/-! ## Saturation, rounding and clearing -/

theorem gives_satReg {i : Instr} {bg : Bool} {fmt : SatMod} {n : RegNum}
    (hexec : exec i s = computeOnly (.satReg bg fmt n) s) :
    gives i s fun t => onRunning s fun e =>
      t.reg e n = (mulHalf fmt.frac (satValue fmt (s.mr e bg))).toExt ∧
        mulFixFlagsAre s t e (satValue fmt (s.mr e bg)) fmt.signed fmt.frac false :=
  gives_putMulReg hexec rfl fun e _ => by rw [← saturate80_eq]; rfl

theorem gives_satAcc {i : Instr} {bg : Bool} {fmt : SatMod} (hexec : exec i s = computeOnly (.satAcc bg fmt) s) :
    gives i s fun t => onRunning s fun e =>
      t.mr e bg = satValue fmt (s.mr e bg) ∧
        mulFixFlagsAre s t e (satValue fmt (s.mr e bg)) fmt.signed fmt.frac false :=
  gives_putMulAcc hexec rfl fun e _ => by rw [← saturate80_eq]; rfl

theorem gives_rndReg {i : Instr} {bg sgn : Bool} {n : RegNum}
    (hexec : exec i s = computeOnly (.rndReg bg sgn n) s) :
    gives i s fun t => onRunning s fun e =>
      t.reg e n = (mulHalf true (.ofInt 80 (roundAt32 (s.mr e bg).toInt))).toExt ∧
        mulFixFlagsAre s t e (.ofInt 80 (roundAt32 (s.mr e bg).toInt)) sgn true true :=
  gives_putMulReg hexec rfl fun e _ => by rw [← round80_eq]; rfl

theorem gives_rndAcc {i : Instr} {bg sgn : Bool} (hexec : exec i s = computeOnly (.rndAcc bg sgn) s) :
    gives i s fun t => onRunning s fun e =>
      t.mr e bg = .ofInt 80 (roundAt32 (s.mr e bg).toInt) ∧
        mulFixFlagsAre s t e (.ofInt 80 (roundAt32 (s.mr e bg).toInt)) sgn true true :=
  gives_putMulAcc hexec rfl fun e _ => by rw [← round80_eq]; rfl

/-- A write of a result register alone: `q` of its new value, and no flag. -/
theorem gives_setMr {i : Instr} {c : Compute} {bg : Bool} {v : Elem → Acc} {q : State → Elem → Prop}
    (hexec : exec i s = computeOnly c s) (hwf : c.wellFormed = true)
    (hc : ∀ e t, computeElem s e c t = t.setMr e bg (v e)) (hq : ∀ e t, t.mr e bg = v e → q t e) :
    gives i s fun t => onRunning s fun e => q t e ∧ (t.astat e).val = (s.astat e).val ∧ stuck s t e 0 := by
  refine gives_compute hexec hwf fun e t u ht hu => ?_
  rw [hc] at hu
  refine ⟨hq e u (by rw [hu.mr, State.setMr_mr]), by rw [hu.astat, State.setMr_astat, ht.astat], ?_⟩
  rw [stuck, hu.stky, State.setMr_stky, ht.stky]
  exact BitVec.or_zero.symm

theorem gives_clrAcc {i : Instr} {bg : Bool} (hexec : exec i s = computeOnly (.clrAcc bg) s) :
    gives i s fun t => onRunning s fun e =>
      t.mr e bg = 0 ∧ (t.astat e).val = (s.astat e).val ∧ stuck s t e 0 :=
  gives_setMr hexec rfl (fun _ _ => rfl) fun _ _ h => h

/-! ## Parts of a result register (R640) -/

/-- MR0 of MRF or of MRB. -/
def mr0 (bg : Bool) : MrPart := if bg then .mr0b else .mr0f

/-- MR1 of MRF or of MRB. -/
def mr1 (bg : Bool) : MrPart := if bg then .mr1b else .mr1f

/-- MR2 of MRF or of MRB. -/
def mr2 (bg : Bool) : MrPart := if bg then .mr2b else .mr2f

section

variable (bg : Bool) (m : Acc) (d : Word)

theorem mr0_background : (mr0 bg).background = bg := by cases bg <;> rfl

theorem mr1_background : (mr1 bg).background = bg := by cases bg <;> rfl

theorem mr2_background : (mr2 bg).background = bg := by cases bg <;> rfl

theorem toNat_mrRead_mr0 : (mrRead (mr0 bg) m).toNat = m.toNat % 2 ^ 32 := by
  have hread : mrRead (mr0 bg) m = m.extractLsb' 0 32 := by cases bg <;> rfl
  rw [hread, BitVec.extractLsb'_toNat, Nat.shiftRight_zero]

theorem toNat_mrRead_mr1 : (mrRead (mr1 bg) m).toNat = m.toNat / 2 ^ 32 % 2 ^ 32 := by
  have hread : mrRead (mr1 bg) m = m.extractLsb' 32 32 := by cases bg <;> rfl
  rw [hread, BitVec.extractLsb'_toNat, Nat.shiftRight_eq_div_pow]

theorem toInt_mrRead_mr2 : (mrRead (mr2 bg) m).toInt = m.toInt / 2 ^ 64 := by
  have hread : mrRead (mr2 bg) m = (m.extractLsb' 64 16).signExtend 32 := by cases bg <;> rfl
  rw [hread, BitVec.toInt_signExtend_of_le (by decide), toInt_extractLsb'_top (n := 16) (k := 64) m (by decide)]

theorem toNat_mrWrite_mr0 : (mrWrite (mr0 bg) d m).toNat = m.toNat / 2 ^ 32 * 2 ^ 32 + d.toNat := by
  have hwrite : mrWrite (mr0 bg) d m = m.extractLsb' 32 48 ++ d := by cases bg <;> rfl
  rw [hwrite, toNat_append_eq, toNat_extractLsb'_top (n := 48) (k := 32) m]

theorem toInt_mrWrite_mr1 : (mrWrite (mr1 bg) d m).toInt = d.toInt * 2 ^ 32 + m.toNat % 2 ^ 32 := by
  have hwrite : mrWrite (mr1 bg) d m = d.signExtend 48 ++ m.extractLsb' 0 32 := by cases bg <;> rfl
  rw [hwrite, BitVec.toInt_append, if_neg (by decide), BitVec.toInt_signExtend_of_le (by decide),
    toNat_extractLsb'_low (n := 48) (k := 32) m, mul_comm]
  norm_cast

theorem toNat_mrWrite_mr2 :
    (mrWrite (mr2 bg) d m).toNat = d.toNat % 2 ^ 16 * 2 ^ 64 + m.toNat % 2 ^ 64 := by
  have hwrite : mrWrite (mr2 bg) d m = d.extractLsb' 0 16 ++ m.extractLsb' 0 64 := by cases bg <;> rfl
  rw [hwrite, toNat_append_eq, toNat_extractLsb'_low (n := 16) (k := 16) d, toNat_extractLsb'_low (n := 16) (k := 64) m]

end

/-- A part of a result register to a data register: `q` of the word read, and no flag. -/
theorem gives_mrGet {i : Instr} {sel : MrPart} {bg : Bool} {n : RegNum} {q : State → Elem → Prop}
    (hexec : exec i s = computeOnly (.mrGet sel n) s) (hbg : sel.background = bg)
    (hq : ∀ e t, (t.reg e n).word = mrRead sel (s.mr e bg) → q t e) :
    gives i s fun t => onRunning s fun e => (q t e ∧ (t.reg e n).toNat % 2 ^ 8 = 0) ∧
      (t.astat e).val = (s.astat e).val ∧ stuck s t e 0 := by
  subst hbg
  refine gives_compute hexec rfl fun e t u ht hu => ?_
  change SameUnit (t.setReg e n (mrRead sel (s.mr e sel.background)).toExt) u e at hu
  have hreg : u.reg e n = (mrRead sel (s.mr e sel.background)).toExt := by rw [hu.reg, State.setReg_reg]
  refine ⟨⟨hq e u (by rw [hreg, toExt_word]), by rw [hreg, toExt_toNat_mod]⟩,
    by rw [hu.astat, State.setReg_astat, ht.astat], ?_⟩
  rw [stuck, hu.stky, State.setReg_stky, ht.stky]
  exact BitVec.or_zero.symm

/-- A data register to a part of a result register: `q` of the new value of the register, and no flag. -/
theorem gives_mrSet {i : Instr} {sel : MrPart} {bg : Bool} {n : RegNum} {q : State → Elem → Prop}
    (hexec : exec i s = computeOnly (.mrSet sel n) s) (hbg : sel.background = bg)
    (hq : ∀ e t, t.mr e bg = mrWrite sel (s.reg32 e n) (s.mr e bg) → q t e) :
    gives i s fun t => onRunning s fun e => q t e ∧ (t.astat e).val = (s.astat e).val ∧ stuck s t e 0 := by
  subst hbg
  exact gives_setMr hexec rfl (fun _ _ => rfl) hq

/-- Settles O16: SAT by `saturate80_eq`, RND by `round80_eq`, the transfers by the number that each part reads and
leaves. -/
theorem resultRegisters : Obligations.ResultRegisters := by
  unfold Obligations.ResultRegisters
  constructor
  · intro s rn fmt sgn
    simp only [List.forall_mem_cons, List.not_mem_nil, IsEmpty.forall_iff, implies_true, and_true]
    exact ⟨⟨gives_satReg rfl, gives_satReg rfl⟩, ⟨gives_satAcc rfl, gives_satAcc rfl⟩,
      ⟨gives_rndReg rfl, gives_rndReg rfl⟩, ⟨gives_rndAcc rfl, gives_rndAcc rfl⟩,
      gives_clrAcc rfl, gives_clrAcc rfl⟩
  · intro s rn p hp
    obtain ⟨bg, rfl⟩ : ∃ bg, p = (bg, mr0 bg, mr1 bg, mr2 bg) := by
      obtain rfl | rfl : p = _ ∨ p = _ := by simpa using hp
      · exact ⟨false, rfl⟩
      · exact ⟨true, rfl⟩
    dsimp only
    exact ⟨gives_mrGet rfl (mr0_background bg) fun _ _ h => (congrArg BitVec.toNat h).trans (toNat_mrRead_mr0 bg _),
      gives_mrGet rfl (mr1_background bg) fun _ _ h => (congrArg BitVec.toNat h).trans (toNat_mrRead_mr1 bg _),
      gives_mrGet rfl (mr2_background bg) fun _ _ h => (congrArg BitVec.toInt h).trans (toInt_mrRead_mr2 bg _),
      gives_mrSet rfl (mr0_background bg) fun _ _ h => (congrArg BitVec.toNat h).trans (toNat_mrWrite_mr0 bg _ _),
      gives_mrSet rfl (mr1_background bg) fun _ _ h => (congrArg BitVec.toInt h).trans (toInt_mrWrite_mr1 bg _ _),
      gives_mrSet rfl (mr2_background bg) fun _ _ h => (congrArg BitVec.toNat h).trans (toNat_mrWrite_mr2 bg _ _)⟩

end Sys2Proof.Machine
end

section
/-! Computes and immediate shifts as one: an operation done on each running element, each reading the state before the
instruction, with the results of the shifter (47_shifter.md R650, R690). -/

namespace Sys2Proof.Safety

open Sys2Proof.Machine

variable {s t u : State} {e e' : Elem}

/-- `f` changes nothing but the units, and of them only its own element. -/
def Local (f : Elem → State → State) : Prop := ∀ e e' t, e' ≠ e → SameUnit t (f e t) e'

/-- An operation done on each running element does to it what it does to it alone. -/
theorem gives_onElems {i : Instr} {f : Elem → State → State} {q : State → Elem → Prop}
    (hexec : exec i s = .next (onElems s .open f s)) (hf : Local f)
    (h : ∀ e t u, SameUnit s t e → SameUnit (f e t) u e → q u e) : gives i s fun t => onRunning s (q t) := by
  refine ⟨_, hexec, ?_⟩
  have hx := h .x s
  cases hsimd : s.simd with
  | false =>
    rw [onElems_x (by rw [hsimd]; rfl)]
    exact ⟨hx _ (.refl s .x) (.refl _ .x), fun hy => by rw [hsimd] at hy; cases hy⟩
  | true =>
    have hboth : onElems s .open f s = f .y (f .x s) := by
      unfold onElems
      rw [hsimd]
      rfl
    rw [hboth]
    exact ⟨hx _ (.refl s .x) (hf _ _ _ (by decide)), fun _ => h .y _ _ (hf _ _ _ (by decide)) (.refl _ .y)⟩

theorem local_putShf (n : RegNum) (o : Elem → ShfOut) : Local fun e => putShf e n (o e) := fun e _ t hne =>
  ⟨(onlyUnits.refl t).putShf e _ _, (elemSame.refl t _).putShf hne _ _⟩

theorem local_bitTest (x : Elem → Word) (p : Elem → Int) : Local fun e => bitTest e (x e) (p e) := fun e _ t hne =>
  ⟨(onlyUnits.refl t).bitTest e _ _, (elemSame.refl t _).shfFlags hne _ _ _⟩

theorem local_bitDeposit (v : State) (x : Elem → Word) (n : Elem → Nat) :
    Local fun e => bitDeposit v e (x e) (n e) := fun e _ t hne =>
  ⟨(onlyUnits.refl t).bitDeposit v e _ _, (elemSame.refl t _).bitDeposit hne v _ _⟩

theorem local_bitExtract (v : State) (nu : Bool) (rn : RegNum) (n : Elem → Nat) :
    Local fun e => bitExtract v e nu rn (n e) := fun e _ t hne =>
  ⟨(onlyUnits.refl t).bitExtract v e _ _ _, (elemSame.refl t _).bitExtract hne v _ _ _⟩

theorem local_readPointer (v : State) (rn : RegNum) : Local fun e => readPointer v e rn := fun e _ t hne =>
  ⟨(onlyUnits.refl t).readPointer v e _, ((elemSame.refl t _).setReg hne _ _).shfFlags hne _ _ _⟩

theorem local_writePointer (s : State) (v : Elem → BitVec 7) : Local fun e => writePointer s e (v e) :=
  fun e _ t hne => ⟨(onlyUnits.refl t).writePointer s e _, ((elemSame.refl t _).setFifo hne _ _).shfFlags hne _ _ _⟩

/-! ## Results of the shifter -/

/-- The flags of the shifter, of the element whose STKY the writes before them have left. -/
theorem shfFlags_of_write {sz sv ss : Bool} (ht : t.stky e = s.stky e)
    (hu : SameUnit (writeShfFlags e sz sv ss t) u e) : shfFlagsAre u e sz sv ss ∧ stuck s u e 0 := by
  obtain ⟨hflags, hstuck⟩ := writeShfFlags_flags e sz sv ss t
  unfold shfFlagsAre at hflags ⊢
  unfold stuck at hstuck ⊢
  rw [hu.astat, hu.stky, hstuck, ht]
  exact ⟨hflags, rfl⟩

/-- A result of the shifter with its flags, of the element whose other registers the operation has left. -/
theorem shfResult_of_write {n : RegNum} {r : Word} {sz sv ss : Bool} (hreg : t.reg e n = r.toExt)
    (ht : t.stky e = s.stky e) (hu : SameUnit (writeShfFlags e sz sv ss t) u e) : shfResult s u e n r sz sv ss :=
  ⟨by rw [hu.reg, writeShfFlags_reg, hreg], shfFlags_of_write ht hu⟩

/-- A shifter operation leaves its result and its flags in each running element. -/
theorem gives_putShf {i : Instr} {n : RegNum} {o : Elem → ShfOut} {q : State → Elem → Prop}
    (hexec : exec i s = .next (onElems s .open (fun e => putShf e n (o e)) s))
    (hq : ∀ e t, shfResult s t e n (o e).r (o e).sz (o e).sv (o e).ss → q t e) :
    gives i s fun t => onRunning s (q t) :=
  gives_onElems hexec (local_putShf n o) fun e t u ht hu => by
    refine hq e u (shfResult_of_write (t := t.setReg32 e n (o e).r) ?_ ?_ hu)
    · exact State.setReg_reg t e n _
    · rw [State.setReg32, State.setReg_stky, ht.stky]

end Sys2Proof.Safety
end

section
/-! Shifts and single bits (O17, O18): every bit of a shifted word comes from one bit of the operand (47_shifter.md R651
to R660). -/

namespace Sys2Proof.Machine

open Sys2Proof.Safety

variable {s : State} {i : Instr} {n : RegNum} {x : Elem → Word} {k : Elem → Int}

/-! ## The bits of a shifted word -/

/-- Bit `j` comes from bit `j - n`, and from beyond the operand comes 0. -/
theorem lsh_getLsbD (a : Word) (n : Int) {j : Nat} (hj : j < 32) :
    (lsh a n).getLsbD j = (decide (n ≤ j) && a.getLsbD (j - n).toNat) := by
  have hbeyond : ¬ ((j : Int) - n).toNat < 32 → a.getLsbD (j - n).toNat = false := fun h =>
    BitVec.getLsbD_of_ge a _ (by omega)
  unfold lsh
  split_ifs with hpos hfar hfar
  · rw [BitVec.ofNat_eq_ofNat, BitVec.getLsbD_zero, decide_eq_false (by omega), Bool.false_and]
  · rw [BitVec.getLsbD_shiftLeft, decide_eq_true hj, Bool.true_and, show ((j : Int) - n).toNat = j - n.toNat by omega]
    congr 1
    rw [Bool.eq_iff_iff, Bool.not_eq_true', decide_eq_false_iff_not, decide_eq_true_iff]
    omega
  · rw [BitVec.ofNat_eq_ofNat, BitVec.getLsbD_zero, hbeyond (by omega), Bool.and_false]
  · rw [BitVec.getLsbD_ushiftRight, decide_eq_true (by omega), Bool.true_and]
    congr 1
    omega

/-- Bit `j` comes from bit `j - n`, and from above the operand comes its sign. -/
theorem ash_getLsbD (a : Word) (n : Int) {j : Nat} (hj : j < 32) :
    (ash a n).getLsbD j = (decide (n ≤ j) && a.getLsbD (min 31 (j - n).toNat)) := by
  have hsshift (m : Nat) : (a.sshiftRight m).getLsbD j = a.getLsbD (min 31 (m + j)) := by
    rw [BitVec.getLsbD_sshiftRight, decide_eq_false (by omega : ¬ 32 ≤ j), Bool.not_false, Bool.true_and]
    split
    · rw [min_eq_right (by omega)]
    · rw [min_eq_left (by omega)]
      exact BitVec.msb_eq_getLsbD_last a
  unfold ash
  split_ifs with hpos hfar
  · rw [lsh_getLsbD a n hj, min_eq_right (by omega)]
  · rw [hsshift, decide_eq_true (by omega), Bool.true_and, min_eq_left (by omega), min_eq_left (by omega)]
  · rw [hsshift, decide_eq_true (by omega), Bool.true_and]
    congr 2
    omega

theorem rotl_getLsbD (a : Word) (n : Int) {j : Nat} (hj : j < 32) :
    (rotl a n).getLsbD j = a.getLsbD (((j : Int) - n) % 32).toNat := by
  unfold rotl
  rw [BitVec.getLsbD_rotateLeft, cond_eq_ite]
  simp only [decide_eq_true_eq]
  split
  · congr 1
    omega
  · rw [decide_eq_true hj, Bool.true_and]
    congr 1
    omega

/-! ## Shifts -/

theorem gives_lshift
    (hexec : exec i s = .next (onElems s .open (fun e => putShf e n (shf2 .lshift (x e) (s.reg32 e n) (k e))) s)) :
    gives i s fun t => onRunning s fun e =>
      ∃ r : Word, shfResult s t e n r (r == 0) (decide (0 < k e)) false ∧
        (0 ≤ k e → ∀ j < 32, r.getLsbD j = (decide (k e ≤ j) && (x e).getLsbD (j - (k e).toNat))) ∧
        (k e ≤ 0 → ∀ j < 32, r.getLsbD j = (x e).getLsbD (j + (-k e).toNat)) := by
  refine gives_putShf hexec fun e t h => ⟨lsh (x e) (k e), h, fun hk j hj => ?_, fun hk j hj => ?_⟩
  · rw [lsh_getLsbD _ _ hj, show ((j : Int) - k e).toNat = j - (k e).toNat by omega]
  · rw [lsh_getLsbD _ _ hj, decide_eq_true (by omega), Bool.true_and,
      show ((j : Int) - k e).toNat = j + (-k e).toNat by omega]

theorem gives_ashift
    (hexec : exec i s = .next (onElems s .open (fun e => putShf e n (shf2 .ashift (x e) (s.reg32 e n) (k e))) s)) :
    gives i s fun t => onRunning s fun e =>
      ∃ r : Word, shfResult s t e n r (r == 0) (decide (0 < k e)) false ∧
        (0 ≤ k e → ∀ j < 32, r.getLsbD j = (decide (k e ≤ j) && (x e).getLsbD (j - (k e).toNat))) ∧
        (k e ≤ 0 → ∀ j < 32, r.getLsbD j = (x e).getLsbD (min 31 (j + (-k e).toNat))) := by
  refine gives_putShf hexec fun e t h => ⟨ash (x e) (k e), h, fun hk j hj => ?_, fun hk j hj => ?_⟩
  · rw [ash_getLsbD _ _ hj, show min 31 ((j : Int) - k e).toNat = j - (k e).toNat by omega]
  · rw [ash_getLsbD _ _ hj, decide_eq_true (by omega), Bool.true_and,
      show ((j : Int) - k e).toNat = j + (-k e).toNat by omega]

theorem gives_rot
    (hexec : exec i s = .next (onElems s .open (fun e => putShf e n (shf2 .rot (x e) (s.reg32 e n) (k e))) s)) :
    gives i s fun t => onRunning s fun e =>
      ∃ r : Word, shfResult s t e n r (r == 0) false false ∧
        ∀ j < 32, r.getLsbD j = (x e).getLsbD (((j : Int) - k e) % 32).toNat :=
  gives_putShf hexec fun e _ h => ⟨rotl (x e) (k e), h, fun _ hj => rotl_getLsbD _ _ hj⟩

/-- Settles O17: by a register or by an immediate, every bit of a shift comes from one bit of the operand
(`lsh_getLsbD`, `ash_getLsbD`, `rotl_getLsbD`). -/
theorem shifts : Obligations.Shifts := by
  unfold Obligations.Shifts
  intro s rn rx ry data
  simp only [List.forall_mem_cons, List.not_mem_nil, IsEmpty.forall_iff, implies_true, and_true]
  exact ⟨⟨gives_lshift rfl, gives_lshift rfl⟩, ⟨gives_ashift rfl, gives_ashift rfl⟩, gives_rot rfl, gives_rot rfl⟩

/-! ## Single bits -/

theorem bitMask_getLsbD (p : Int) {j : Nat} (hj : j < 32) : (bitMask p).getLsbD j = decide (p = j) := by
  unfold bitMask
  split_ifs with h
  · rw [BitVec.getLsbD_shiftLeft, BitVec.getLsbD_one, Bool.eq_iff_iff]
    simp only [Bool.and_eq_true, Bool.not_eq_true', decide_eq_true_eq, decide_eq_false_iff_not]
    omega
  · rw [BitVec.ofNat_eq_ofNat, BitVec.getLsbD_zero, decide_eq_false (by omega)]

/-- What BCLR, BSET and BTGL make of a bit; the shifts make nothing of one. -/
def singleBit : ShiftOp → Option (Bool → Bool)
  | .bclr => some fun _ => false
  | .bset => some fun _ => true
  | .btgl => some fun b => !b
  | _ => none

/-- A single bit changed, with the flags of the operation. -/
theorem shf2_bit {op : ShiftOp} {c : Bool → Bool} (hop : singleBit op = some c) (a z : Word) (p : Int) :
    ∃ r : Word, shf2 op a z p = { r := r, sz := r == 0, sv := decide (31 < p), ss := false } ∧
      ∀ j < 32, r.getLsbD j = if p = j then c (a.getLsbD j) else a.getLsbD j := by
  cases op with
  | lshift | orLshift | ashift | orAshift | rot => cases hop
  | bclr =>
    cases hop
    refine ⟨a &&& ~~~bitMask p, rfl, fun j hj => ?_⟩
    rw [BitVec.getLsbD_and, BitVec.getLsbD_not, bitMask_getLsbD p hj, decide_eq_true hj]
    by_cases h : p = j <;> simp [h]
  | bset =>
    cases hop
    refine ⟨a ||| bitMask p, rfl, fun j hj => ?_⟩
    rw [BitVec.getLsbD_or, bitMask_getLsbD p hj]
    by_cases h : p = j <;> simp [h]
  | btgl =>
    cases hop
    refine ⟨a ^^^ bitMask p, rfl, fun j hj => ?_⟩
    rw [BitVec.getLsbD_xor, bitMask_getLsbD p hj]
    by_cases h : p = j <;> simp [h]

theorem gives_singleBit {op : ShiftOp} {c : Bool → Bool} (hop : singleBit op = some c)
    (hexec : exec i s = .next (onElems s .open (fun e => putShf e n (shf2 op (x e) (s.reg32 e n) (k e))) s)) :
    gives i s fun t => onRunning s fun e =>
      ∃ r : Word, shfResult s t e n r (r == 0) (decide (31 < k e)) false ∧
        ∀ j < 32, r.getLsbD j = if k e = j then c ((x e).getLsbD j) else (x e).getLsbD j :=
  gives_putShf hexec fun e t h => by
    obtain ⟨r, hr, hbits⟩ := shf2_bit hop (x e) (s.reg32 e n) (k e)
    rw [hr] at h
    exact ⟨r, h, hbits⟩

/-- The test of a bit: none is set outside the word. -/
theorem bitTest_eq (a : Word) (p : Int) :
    ((a &&& bitMask p) == 0) = decide (¬ (0 ≤ p ∧ a.getLsbD p.toNat = true)) := by
  rw [Bool.eq_iff_iff, beq_iff_eq, decide_eq_true_iff]
  constructor
  · intro hzero ⟨hpos, hbit⟩
    have hlt : p.toNat < 32 := BitVec.lt_of_getLsbD hbit
    have hand : (a &&& bitMask p).getLsbD p.toNat = true := by
      rw [BitVec.getLsbD_and, hbit, bitMask_getLsbD p hlt, Bool.true_and, decide_eq_true (by omega)]
    rw [hzero] at hand
    exact absurd hand (by rw [BitVec.ofNat_eq_ofNat, BitVec.getLsbD_zero]; decide)
  · intro hclear
    apply BitVec.eq_of_getLsbD_eq
    intro j hj
    rw [BitVec.getLsbD_and, bitMask_getLsbD p hj, BitVec.ofNat_eq_ofNat, BitVec.getLsbD_zero]
    by_cases hp : p = j
    · subst hp
      simpa using hclear
    · rw [decide_eq_false hp, Bool.and_false]

theorem gives_bitTest (hexec : exec i s = .next (onElems s .open (fun e => bitTest e (x e) (k e)) s)) :
    gives i s fun t => onRunning s fun e =>
      shfFlagsAre t e (decide (¬ (0 ≤ k e ∧ (x e).getLsbD (k e).toNat = true))) (decide (31 < k e)) false ∧
        stuck s t e 0 :=
  gives_onElems hexec (local_bitTest x k) fun e t u ht hu => by
    rw [← bitTest_eq]
    exact shfFlags_of_write ht.stky hu

/-! ## Shifts onto the destination -/

theorem gives_orLshift
    (hexec : exec i s = .next (onElems s .open (fun e => putShf e n (shf2 .orLshift (x e) (s.reg32 e n) (k e))) s)) :
    gives i s fun t => onRunning s fun e =>
      ∃ r : Word, shfResult s t e n (s.reg32 e n ||| r) (r == 0) (decide (0 < k e)) false ∧
        ∀ j : Nat, j < 32 → r.getLsbD j = (decide (0 ≤ (j : Int) - k e) &&
          (if 31 < (j : Int) - k e then false && (x e).getLsbD 31 else (x e).getLsbD ((j : Int) - k e).toNat)) := by
  refine gives_putShf hexec fun e t h => ⟨lsh (x e) (k e), h, fun j hj => ?_⟩
  simp only [lsh_getLsbD _ _ hj, Int.sub_nonneg]
  split
  · rw [BitVec.getLsbD_of_ge _ _ (by omega), Bool.false_and]
  · rfl

theorem gives_orAshift
    (hexec : exec i s = .next (onElems s .open (fun e => putShf e n (shf2 .orAshift (x e) (s.reg32 e n) (k e))) s)) :
    gives i s fun t => onRunning s fun e =>
      ∃ r : Word, shfResult s t e n (s.reg32 e n ||| r) (r == 0) (decide (0 < k e)) false ∧
        ∀ j : Nat, j < 32 → r.getLsbD j = (decide (0 ≤ (j : Int) - k e) &&
          (if 31 < (j : Int) - k e then true && (x e).getLsbD 31 else (x e).getLsbD ((j : Int) - k e).toNat)) := by
  refine gives_putShf hexec fun e t h => ⟨ash (x e) (k e), h, fun j hj => ?_⟩
  simp only [ash_getLsbD _ _ hj, Int.sub_nonneg]
  split
  · rw [min_eq_left (by omega), Bool.true_and]
  · rw [min_eq_right (by omega)]

/-- Settles O18: a bit of a mask is at its position (`bitMask_getLsbD`), and the ORed shifts are the shifts of O17. -/
theorem bitOperations : Obligations.BitOperations := by
  unfold Obligations.BitOperations
  intro s rn rx ry data
  simp only [List.forall_mem_cons, List.not_mem_nil, IsEmpty.forall_iff, implies_true, and_true]
  exact ⟨⟨gives_singleBit (op := .bclr) rfl rfl, gives_singleBit (op := .bset) rfl rfl,
      gives_singleBit (op := .btgl) rfl rfl, gives_singleBit (op := .bclr) rfl rfl,
      gives_singleBit (op := .bset) rfl rfl, gives_singleBit (op := .btgl) rfl rfl⟩,
    ⟨gives_bitTest rfl, gives_bitTest rfl⟩,
    gives_orLshift rfl, gives_orLshift rfl, gives_orAshift rfl, gives_orAshift rfl⟩

end Sys2Proof.Machine
end

section
/-! Fields (O19): deposited and extracted bit by bit (47_shifter.md R651, R661 to R666). -/

namespace Sys2Proof.Machine

open Sys2Proof.Safety

/-! ## Bits of a field -/

theorem lowOnes_getLsbD (n : Nat) {j : Nat} (hj : j < 32) :
    (BitVec.ofNat 32 (2 ^ n - 1)).getLsbD j = decide (j < n) := by
  rw [BitVec.getLsbD_ofNat, Nat.testBit_two_pow_sub_one, decide_eq_true hj, Bool.true_and]

theorem lowBits_getLsbD (a : Word) (n j : Nat) : (lowBits a n).getLsbD j = (decide (j < n) && a.getLsbD j) := by
  by_cases hj : j < 32
  · unfold lowBits
    split_ifs with hn
    · rw [decide_eq_true (by omega), Bool.true_and]
    · rw [BitVec.getLsbD_and, lowOnes_getLsbD n hj, Bool.and_comm]
  · rw [BitVec.getLsbD_of_ge _ _ (by omega), BitVec.getLsbD_of_ge a _ (by omega), Bool.and_false]

theorem highMask_getLsbD (n : Nat) {j : Nat} (hj : j < 32) : (highMask n).getLsbD j = decide (n ≤ j) := by
  unfold highMask
  split_ifs with hn
  · rw [BitVec.ofNat_eq_ofNat, BitVec.getLsbD_zero, decide_eq_false (by omega)]
  · rw [BitVec.getLsbD_not, lowOnes_getLsbD n hj, decide_eq_true hj, Bool.true_and, ← decide_not]
    simp only [Nat.not_lt]

section

variable (a : Word) (pos len : Nat) {j : Nat}

theorem deposit_getLsbD (hj : j < 32) :
    (deposit a pos len).getLsbD j = (decide (pos ≤ j) && decide (j < pos + len) && a.getLsbD (j - pos)) := by
  unfold deposit
  rw [lsh_getLsbD _ _ hj, lowBits_getLsbD, show ((j : Int) - pos).toNat = j - pos by omega, ← Bool.and_assoc]
  congr 1
  rw [Bool.eq_iff_iff]
  simp only [Bool.and_eq_true, decide_eq_true_eq]
  omega

theorem extract_getLsbD (hj : j < 32) :
    (extract a pos len).getLsbD j = (decide (j < len) && a.getLsbD (pos + j)) := by
  unfold extract
  rw [lowBits_getLsbD, lsh_getLsbD _ _ hj, decide_eq_true (by omega : -(pos : Int) ≤ j), Bool.true_and,
    show ((j : Int) - -(pos : Int)).toNat = pos + j by omega]

/-- Signs from bit `top` up, where the field has a sign: at bit `sign` of the operand. -/
theorem signed_getLsbD (r : Word) (top sign : Nat) (hj : j < 32) :
    (if 1 ≤ len ∧ pos + len ≤ 32 ∧ a.getLsbD sign = true then r ||| highMask top else r).getLsbD j =
      (r.getLsbD j || (decide (1 ≤ len) && decide (pos + len ≤ 32) && decide (top ≤ j) && a.getLsbD sign)) := by
  by_cases h : 1 ≤ len ∧ pos + len ≤ 32 ∧ a.getLsbD sign = true
  · obtain ⟨hlen, hfit, hsign⟩ := h
    rw [if_pos ⟨hlen, hfit, hsign⟩, BitVec.getLsbD_or, highMask_getLsbD top hj, decide_eq_true hlen,
      decide_eq_true hfit, hsign, Bool.and_true, Bool.true_and, Bool.true_and]
  · rw [if_neg h, Bool.eq_iff_iff]
    simp only [Bool.or_eq_true, Bool.and_eq_true, decide_eq_true_eq]
    tauto

theorem depositSe_getLsbD (hj : j < 32) :
    (depositSe a pos len).getLsbD j =
      ((deposit a pos len).getLsbD j || (decide (1 ≤ len) && decide (pos + len ≤ j) && a.getLsbD (len - 1))) := by
  unfold depositSe
  rw [signed_getLsbD a pos len _ _ _ hj]
  congr 2
  rw [Bool.eq_iff_iff]
  simp only [Bool.and_eq_true, decide_eq_true_eq]
  omega

theorem extractSe_getLsbD (hj : j < 32) :
    (extractSe a pos len).getLsbD j =
      ((extract a pos len).getLsbD j || (decide (1 ≤ len) && decide (len ≤ j) && a.getLsbD (pos + len - 1))) := by
  unfold extractSe
  rw [signed_getLsbD a pos len _ _ _ hj]
  congr 1
  by_cases hfit : pos + len ≤ 32
  · rw [decide_eq_true hfit, Bool.and_true]
  · rw [BitVec.getLsbD_of_ge a (pos + len - 1) (by omega), Bool.and_false, Bool.and_false]

end

/-! ## Operations on fields -/

/-- The place of a field: bits 5 to 0 (R651 (b)). -/
def fieldAt (v : BitVec 12) : Nat := v.toNat % 64

/-- The length of a field: bits 11 to 6 (R651 (b)). -/
def fieldLength (v : BitVec 12) : Nat := v.toNat / 64

theorem shfField_codes (v : BitVec 12) :
    (v.extractLsb' 0 6).toNat = fieldAt v ∧ (v.extractLsb' 6 6).toNat = fieldLength v :=
  ⟨toNat_extractLsb'_low (n := 6) (k := 6) v, toNat_extractLsb'_top (n := 6) (k := 6) v⟩

/-- The deposit that ORs onto the destination when `or` and extends the sign when `se`. -/
def depositOp : Bool → Bool → FieldOp
  | false, false => .fdep
  | true, false => .orFdep
  | false, true => .fdepSe
  | true, true => .orFdepSe

/-- The extract that extends the sign when `se`. -/
def extractOp (se : Bool) : FieldOp := if se then .fextSe else .fext

theorem shfField_deposit (or se : Bool) (a z : Word) (v : BitVec 12) :
    ∃ r : Word, shfField (depositOp or se) a z v =
        { r := r, sz := r == 0, sv := decide (32 < fieldAt v + fieldLength v), ss := false } ∧
      ∀ j < 32, r.getLsbD j = ((or && z.getLsbD j) ||
        (decide (fieldAt v ≤ j) && decide (j < fieldAt v + fieldLength v) && a.getLsbD (j - fieldAt v)) ||
        (se && decide (1 ≤ fieldLength v) && decide (fieldAt v + fieldLength v ≤ j) &&
          a.getLsbD (fieldLength v - 1))) := by
  obtain ⟨hat, hlen⟩ := shfField_codes v
  refine ⟨(shfField (depositOp or se) a z v).r, ?_, fun j hj => ?_⟩
  · rw [Nat.add_comm, ← hat, ← hlen]
    rfl
  · cases or <;> cases se <;>
      simp only [shfField, depositOp, hat, hlen, BitVec.getLsbD_or, depositSe_getLsbD _ _ _ hj,
        deposit_getLsbD _ _ _ hj, Bool.true_and, Bool.false_and, Bool.false_or, Bool.or_false, Bool.or_assoc]

theorem shfField_extract (se : Bool) (a z : Word) (v : BitVec 12) :
    ∃ r : Word, shfField (extractOp se) a z v =
        { r := r, sz := r == 0, sv := decide (32 < fieldAt v + fieldLength v), ss := false } ∧
      ∀ j < 32, r.getLsbD j = ((decide (j < fieldLength v) && a.getLsbD (fieldAt v + j)) ||
        (se && decide (1 ≤ fieldLength v) && decide (fieldLength v ≤ j) &&
          a.getLsbD (fieldAt v + fieldLength v - 1))) := by
  obtain ⟨hat, hlen⟩ := shfField_codes v
  refine ⟨(shfField (extractOp se) a z v).r, ?_, fun j hj => ?_⟩
  · rw [Nat.add_comm, ← hat, ← hlen]
    rfl
  · cases se <;>
      simp [shfField, extractOp, hat, hlen, extractSe_getLsbD _ _ _ hj, extract_getLsbD _ _ _ hj]

section

variable {s : State} {i : Instr} {n x : RegNum} {v : Elem → BitVec 12}

theorem gives_deposit (or se : Bool)
    (hexec : exec i s = .next (onElems s .open
      (fun e => putShf e n (shfField (depositOp or se) (s.reg32 e x) (s.reg32 e n) (v e))) s)) :
    gives i s fun t => onRunning s fun e =>
      ∃ r : Word, shfResult s t e n r (r == 0) (decide (32 < fieldAt (v e) + fieldLength (v e))) false ∧
        ∀ j < 32, r.getLsbD j = ((or && (s.reg32 e n).getLsbD j) ||
          (decide (fieldAt (v e) ≤ j) && decide (j < fieldAt (v e) + fieldLength (v e)) &&
            (s.reg32 e x).getLsbD (j - fieldAt (v e))) ||
          (se && decide (1 ≤ fieldLength (v e)) && decide (fieldAt (v e) + fieldLength (v e) ≤ j) &&
            (s.reg32 e x).getLsbD (fieldLength (v e) - 1))) :=
  gives_putShf hexec fun e t h => by
    obtain ⟨r, hr, hbits⟩ := shfField_deposit or se (s.reg32 e x) (s.reg32 e n) (v e)
    rw [hr] at h
    exact ⟨r, h, hbits⟩

theorem gives_extract (se : Bool)
    (hexec : exec i s = .next (onElems s .open
      (fun e => putShf e n (shfField (extractOp se) (s.reg32 e x) (s.reg32 e n) (v e))) s)) :
    gives i s fun t => onRunning s fun e =>
      ∃ r : Word, shfResult s t e n r (r == 0) (decide (32 < fieldAt (v e) + fieldLength (v e))) false ∧
        ∀ j < 32, r.getLsbD j =
          ((decide (j < fieldLength (v e)) && (s.reg32 e x).getLsbD (fieldAt (v e) + j)) ||
            (se && decide (1 ≤ fieldLength (v e)) && decide (fieldLength (v e) ≤ j) &&
              (s.reg32 e x).getLsbD (fieldAt (v e) + fieldLength (v e) - 1))) :=
  gives_putShf hexec fun e t h => by
    obtain ⟨r, hr, hbits⟩ := shfField_extract se (s.reg32 e x) (s.reg32 e n) (v e)
    rw [hr] at h
    exact ⟨r, h, hbits⟩

end

/-- Settles O19: by a register or by an immediate, the bits of every form are those of its deposit or extract
(`shfField_deposit`, `shfField_extract`). -/
theorem fieldOperations : Obligations.FieldOperations := by
  unfold Obligations.FieldOperations
  intro s rn rx ry imm
  have hcode (w : Word) : w.extractLsb' 0 12 = w.setWidth 12 :=
    BitVec.eq_of_toNat_eq (by rw [BitVec.extractLsb'_toNat, BitVec.toNat_setWidth, Nat.shiftRight_zero])
  simp only [List.forall_mem_cons, List.not_mem_nil, IsEmpty.forall_iff, implies_true, and_true, hcode]
  exact ⟨⟨gives_deposit false false rfl, gives_deposit true false rfl, gives_deposit false true rfl,
      gives_deposit true true rfl, gives_deposit false false rfl, gives_deposit true false rfl,
      gives_deposit false true rfl, gives_deposit true true rfl⟩,
    gives_extract false rfl, gives_extract true rfl, gives_extract false rfl, gives_extract true rfl⟩

end Sys2Proof.Machine
end

section
/-! The bit FIFO (O21): deposits behind the valid bits, extracts off the top, and the write pointer (47_shifter.md
R680 to R684). -/

namespace Sys2Proof.Machine

open Sys2Proof.Safety

variable {s : State} {i : Instr}

/-! ## The FIFO of the state -/

@[simp] theorem State.setFifo_bff (t : State) (e : Elem) (b : Long) (p : BitVec 7) :
    ((t.setFifo e b p).pe e).bff = b := by
  unfold State.setFifo
  rw [State.setPe_pe]

@[simp] theorem State.setFifo_bffwrp (t : State) (e : Elem) (b : Long) (p : BitVec 7) :
    ((t.setFifo e b p).pe e).bffwrp = p := by
  unfold State.setFifo
  rw [State.setPe_pe]

@[simp] theorem State.setFifo_stky (t : State) (e : Elem) (b : Long) (p : BitVec 7) :
    (t.setFifo e b p).stky e = t.stky e := State.setPe_stky _ _ _ _

@[simp] theorem State.setFifo_reg (t : State) (e : Elem) (b : Long) (p : BitVec 7) (n : RegNum) :
    (t.setFifo e b p).reg e n = t.reg e n := by
  unfold State.reg State.setFifo
  rw [State.setPe_altReg, State.setPe_pe]

@[simp] theorem writeShfFlags_pe (e e' : Elem) (sz sv ss : Bool) (t : State) :
    (writeShfFlags e sz sv ss t).pe e' = t.pe e' := State.setAstat_pe _ _ _ _

/-- A length is the low six bits of its operand. -/
theorem toNat_low6 {w : Nat} (v : BitVec w) : (v.extractLsb' 0 6).toNat = v.toNat % 64 := by
  rw [BitVec.extractLsb'_toNat, Nat.shiftRight_zero]

/-! ## Deposits (R681) -/

/-- Where the FIFO has room, the low `n` bits of `a` stand behind its `wp` valid bits. -/
theorem deposited_getLsbD (b : Long) (a : Word) {n wp j : Nat} (hroom : wp + n ≤ 64) (hj : j < 64) :
    (b ||| (lowBits a n).setWidth 64 <<< (64 - wp - n)).getLsbD j =
      (b.getLsbD j || (decide (64 ≤ j + wp + n) && decide (j + wp < 64) && a.getLsbD (j + wp + n - 64))) := by
  rw [BitVec.getLsbD_or, BitVec.getLsbD_shiftLeft, BitVec.getLsbD_setWidth, lowBits_getLsbD,
    show j - (64 - wp - n) = j + wp + n - 64 by omega, ← Bool.and_assoc, ← Bool.and_assoc]
  congr 2
  rw [Bool.eq_iff_iff]
  simp only [Bool.and_eq_true, Bool.not_eq_true', decide_eq_true_eq, decide_eq_false_iff_not]
  omega

/-- A deposit writes the FIFO and the flags; what it writes to the FIFO is known where there is room. -/
theorem bitDeposit_eq (s : State) (e : Elem) (a : Word) (n : Nat) (t : State) :
    ∃ b p, bitDeposit s e a n t =
        writeShfFlags e false (decide (32 < n ∨ 64 < (s.pe e).bffwrp.toNat + n)) false (t.setFifo e b p) ∧
      (n ≤ 32 → (s.pe e).bffwrp.toNat + n ≤ 64 →
        b = (s.pe e).bff ||| (lowBits a n).setWidth 64 <<< (64 - (s.pe e).bffwrp.toNat - n) ∧
          p = (s.pe e).bffwrp + .ofNat 7 n) := by
  unfold bitDeposit
  dsimp only
  split
  case isTrue h => exact ⟨_, _, by rw [decide_eq_true h], fun _ _ => by omega⟩
  case isFalse h => exact ⟨_, _, by rw [decide_eq_false h], fun _ _ => ⟨rfl, rfl⟩⟩

theorem gives_bitDeposit {w : Nat} {a : Elem → Word} {v : Elem → BitVec w}
    (hexec : exec i s = .next (onElems s .open (fun e => bitDeposit s e (a e) ((v e).extractLsb' 0 6).toNat) s)) :
    gives i s fun t => onRunning s fun e =>
      let n := (v e).toNat % 64
      let wp := (s.pe e).bffwrp.toNat
      shfFlagsAre t e false (decide (32 < n ∨ 64 < wp + n)) false ∧ stuck s t e 0 ∧
        (n ≤ 32 → wp + n ≤ 64 → (t.pe e).bffwrp.toNat = wp + n ∧ ∀ j < 64, (t.pe e).bff.getLsbD j =
          ((s.pe e).bff.getLsbD j ||
            (decide (64 ≤ j + wp + n) && decide (j + wp < 64) && (a e).getLsbD (j + wp + n - 64)))) :=
  gives_onElems hexec (local_bitDeposit s a _) fun e t u ht hu => by
    obtain ⟨b, p, heq, hwritten⟩ := bitDeposit_eq s e (a e) ((v e).toNat % 64) t
    rw [toNat_low6, heq] at hu
    obtain ⟨hflags, hstuck⟩ := shfFlags_of_write (s := s) (by rw [State.setFifo_stky, ht.stky]) hu
    obtain ⟨hpe, -, -⟩ := hu.elem
    refine ⟨hflags, hstuck, fun hn hroom => ?_⟩
    obtain ⟨rfl, rfl⟩ := hwritten hn hroom
    rw [hpe, writeShfFlags_pe, State.setFifo_bff, State.setFifo_bffwrp]
    refine ⟨?_, fun j hj => deposited_getLsbD _ _ hroom hj⟩
    rw [BitVec.toNat_add, BitVec.toNat_ofNat]
    omega

/-! ## Extracts (R682) -/

theorem toNat_top_bits (b : Long) {n : Nat} (hn : n ≤ 32) :
    ((b >>> (64 - n)).setWidth 32).toNat = b.toNat / 2 ^ (64 - n) := by
  have hfits : b.toNat / 2 ^ (64 - n) < 2 ^ 32 := by
    have hpow : 2 ^ (64 - n) * 2 ^ n = 2 ^ 64 := by rw [← Nat.pow_add, Nat.sub_add_cancel (by omega)]
    calc b.toNat / 2 ^ (64 - n) < 2 ^ n := Nat.div_lt_of_lt_mul (by rw [hpow]; exact b.isLt)
      _ ≤ 2 ^ 32 := Nat.pow_le_pow_right (by decide) hn
  rw [BitVec.toNat_setWidth, BitVec.toNat_ushiftRight, Nat.shiftRight_eq_div_pow, Nat.mod_eq_of_lt hfits]

/-- The bits that an extract reads: the top `n`, or any value (R682). -/
def topBits (s : State) (e : Elem) (n : Nat) : Word :=
  if 32 < n ∨ 64 < (s.pe e).bffwrp.toNat then freeExtract s e else ((s.pe e).bff >>> (64 - n)).setWidth 32

/-- The FIFO is as `p` after an extract that leaves it, and without its top `n` bits after one that takes them. -/
def FifoExtracted (p q : Pe) (takes : Bool) (n : Nat) : Prop :=
  (takes = true → n ≤ 32 → n ≤ p.bffwrp.toNat → p.bffwrp.toNat ≤ 64 →
      q.bffwrp.toNat = p.bffwrp.toNat - n ∧ q.bff.toNat = p.bff.toNat * 2 ^ n % 2 ^ 64) ∧
    (takes = false → q.bffwrp = p.bffwrp ∧ q.bff = p.bff)

/-- An extract that takes its bits writes the FIFO; what it writes there is known where the FIFO holds them. -/
theorem bitExtract_takes (s : State) (e : Elem) (rn : RegNum) (n : Nat) (t : State) :
    ∃ b p, bitExtract s e false rn n t =
        writeShfFlags e (topBits s e n == 0) (decide (32 < n) || decide ((s.pe e).bffwrp.toNat < n)) false
          ((t.setReg32 e rn (topBits s e n)).setFifo e b p) ∧
      (n ≤ 32 → n ≤ (s.pe e).bffwrp.toNat → (s.pe e).bffwrp.toNat ≤ 64 →
        b = (s.pe e).bff <<< n ∧ p = (s.pe e).bffwrp - .ofNat 7 n) := by
  have heq : bitExtract s e false rn n t =
      writeShfFlags e (topBits s e n == 0) (decide (32 < n) || decide ((s.pe e).bffwrp.toNat < n)) false
        (if decide (32 < n) || decide ((s.pe e).bffwrp.toNat < n) || decide (64 < (s.pe e).bffwrp.toNat)
          then (t.setReg32 e rn (topBits s e n)).setFifo e (freeFifo s e) (freePointer s e)
          else (t.setReg32 e rn (topBits s e n)).setFifo e ((s.pe e).bff <<< n) ((s.pe e).bffwrp - .ofNat 7 n)) := rfl
  rw [heq]
  split
  case isTrue h =>
    simp only [Bool.or_eq_true, decide_eq_true_eq] at h
    exact ⟨_, _, rfl, fun _ _ _ => by omega⟩
  case isFalse => exact ⟨_, _, rfl, fun _ _ _ => ⟨rfl, rfl⟩⟩

/-- An extract writes a register, the flags and, where it takes the bits, the FIFO. -/
theorem bitExtract_eq {s t : State} {e : Elem} (ht : SameUnit s t e) (takes : Bool) (rn : RegNum) (n : Nat) :
    ∃ v, bitExtract s e (!takes) rn n t =
        writeShfFlags e (topBits s e n == 0) (decide (32 < n ∨ (s.pe e).bffwrp.toNat < n)) false v ∧
      v.reg e rn = (topBits s e n).toExt ∧ v.stky e = s.stky e ∧ FifoExtracted (s.pe e) (v.pe e) takes n := by
  obtain ⟨hpe, -, hstky⟩ := ht.elem
  have hreg : (t.setReg32 e rn (topBits s e n)).reg e rn = (topBits s e n).toExt := State.setReg_reg _ _ _ _
  have hkept : (t.setReg32 e rn (topBits s e n)).stky e = s.stky e := (State.setReg_stky _ _ _ _ _).trans hstky
  rw [Bool.decide_or]
  cases takes with
  | false =>
    refine ⟨t.setReg32 e rn (topBits s e n), rfl, hreg, hkept, fun h => (by cases h), fun _ => ?_⟩
    rw [← hpe]
    exact ⟨State.setReg_bffwrp _ _ _ _ _, State.setReg_bff _ _ _ _ _⟩
  | true =>
    obtain ⟨b, p, heq, htaken⟩ := bitExtract_takes s e rn n t
    refine ⟨_, heq, by rw [State.setFifo_reg, hreg], by rw [State.setFifo_stky, hkept], fun _ hn hle hwp => ?_,
      fun h => (by cases h)⟩
    obtain ⟨rfl, rfl⟩ := htaken hn hle hwp
    rw [State.setFifo_bff, State.setFifo_bffwrp, BitVec.toNat_shiftLeft, Nat.shiftLeft_eq, BitVec.toNat_sub,
      BitVec.toNat_ofNat]
    exact ⟨by omega, rfl⟩

theorem gives_bitExtract (takes : Bool) {w : Nat} {rn : RegNum} {v : Elem → BitVec w}
    (hexec : exec i s =
      .next (onElems s .open (fun e => bitExtract s e (!takes) rn ((v e).extractLsb' 0 6).toNat) s)) :
    gives i s fun t => onRunning s fun e =>
      let n := (v e).toNat % 64
      let wp := (s.pe e).bffwrp.toNat
      ∃ r : Word, shfResult s t e rn r (r == 0) (decide (32 < n ∨ wp < n)) false ∧
        (n ≤ 32 → wp ≤ 64 → r.toNat = (s.pe e).bff.toNat / 2 ^ (64 - n)) ∧
        FifoExtracted (s.pe e) (t.pe e) takes n :=
  gives_onElems hexec (local_bitExtract s (!takes) rn _) fun e t u ht hu => by
    obtain ⟨t', heq, hreg, hstky, hfifo⟩ := bitExtract_eq ht takes rn ((v e).toNat % 64)
    rw [toNat_low6, heq] at hu
    obtain ⟨hpe, -, -⟩ := hu.elem
    rw [hpe, writeShfFlags_pe]
    refine ⟨topBits s e ((v e).toNat % 64), shfResult_of_write hreg hstky hu, fun hn hwp => ?_, hfifo⟩
    rw [topBits, if_neg (by omega), toNat_top_bits _ hn]

/-! ## The write pointer (R683, R684) -/

theorem gives_writePointer {v : Elem → BitVec 7}
    (hexec : exec i s = .next (onElems s .open (fun e => writePointer s e (v e)) s)) :
    gives i s fun t => onRunning s fun e =>
      (t.pe e).bffwrp = v e ∧ (t.pe e).bff = (s.pe e).bff ∧ shfFlagsAre t e false (decide (64 < (v e).toNat)) false ∧
        stuck s t e 0 :=
  gives_onElems hexec (local_writePointer s v) fun e t u ht hu => by
    obtain ⟨hpe, -, -⟩ := hu.elem
    rw [hpe]
    unfold writePointer
    rw [writeShfFlags_pe, State.setFifo_bffwrp, State.setFifo_bff]
    exact ⟨rfl, rfl, shfFlags_of_write (by rw [State.setFifo_stky, ht.stky]) hu⟩

theorem gives_readPointer {rn : RegNum}
    (hexec : exec i s = .next (onElems s .open (fun e => readPointer s e rn) s)) :
    gives i s fun t => onRunning s fun e => shfResult s t e rn ((s.pe e).bffwrp.setWidth 32) false false false :=
  gives_onElems hexec (local_readPointer s rn) fun _ _ _ ht hu =>
    shfResult_of_write (State.setReg_reg _ _ _ _) ((State.setReg_stky _ _ _ _ _).trans ht.stky) hu

/-- Settles O21: a deposit by `deposited_getLsbD`, an extract by `bitExtract_eq`, the pointer by its own operations. -/
theorem bitFifo : Obligations.BitFifo := by
  unfold Obligations.BitFifo
  intro s rn rx ry imm data
  refine ⟨?deposits, ?extracts, ?writes, gives_readPointer rfl⟩
  case deposits =>
    simp only [List.forall_mem_cons, List.not_mem_nil, IsEmpty.forall_iff, implies_true, and_true]
    exact ⟨gives_bitDeposit rfl, gives_bitDeposit rfl⟩
  case extracts =>
    intro p hp
    simp only [List.mem_cons, List.not_mem_nil, or_false] at hp
    obtain rfl | rfl | rfl | rfl := hp
    · exact gives_bitExtract true rfl
    · exact gives_bitExtract false rfl
    · exact gives_bitExtract true rfl
    · exact gives_bitExtract false rfl
  case writes =>
    simp only [List.forall_mem_cons, List.not_mem_nil, IsEmpty.forall_iff, implies_true, and_true]
    refine ⟨gives_writePointer rfl, ?_⟩
    have himm := gives_writePointer (s := s) (i := .bffwrpImm data) (v := fun _ => data.extractLsb' 0 7) rfl
    rwa [BitVec.extractLsb'_eq_self] at himm

end Sys2Proof.Machine
end

section
/-! Leading bits and the 16-bit floating-point format (O20): FPACK rounds to it, FUNPACK is exact and FPACK undoes it
(47_shifter.md R667 to R676). -/

namespace Sys2Proof.Machine

open Sys2Proof.Safety

variable {s : State} {i : Instr} {n x : RegNum}

/-! ## Leading bits (R667 to R670) -/

/-- Of the low `m` bits of a word the top `k` are `b`, and no more. -/
def Leads (a : Word) (b : Bool) (m k : Nat) : Prop :=
  k ≤ m ∧ (∀ j < m, m ≤ j + k → a.getLsbD j = b) ∧ (k < m → a.getLsbD (m - 1 - k) = !b)

theorem leads_leadZerosFrom (a : Word) (m : Nat) : Leads a false m (leadZerosFrom a m) := by
  induction m with
  | zero => exact ⟨le_rfl, fun j hj => by omega, fun h => (lt_irrefl _ h).elim⟩
  | succ m ih =>
    obtain ⟨hle, hbits, hnext⟩ := ih
    unfold leadZerosFrom
    split
    case isTrue hone => exact ⟨by omega, fun j hj hlead => by omega, fun _ => hone⟩
    case isFalse hzero =>
      refine ⟨by omega, fun j hj hlead => ?_, fun h => ?_⟩
      · obtain rfl | hlt : j = m ∨ j < m := by omega
        · exact Bool.eq_false_iff.mpr hzero
        · exact hbits j hlt (by omega)
      · rw [show m + 1 - 1 - (leadZerosFrom a m + 1) = m - 1 - leadZerosFrom a m by omega]
        exact hnext (by omega)

theorem leads_lead (a : Word) (b : Bool) : Leads a b 32 (lead a b) := by
  have h := leads_leadZerosFrom (if b then ~~~a else a) 32
  cases b with
  | false => exact h
  | true =>
    obtain ⟨hle, hbits, hnext⟩ := h
    refine ⟨hle, fun j hj hlead => ?_, fun hlt => ?_⟩
    · have hbit := hbits j hj hlead
      rw [if_pos rfl, BitVec.getLsbD_not, decide_eq_true hj, Bool.true_and, Bool.not_eq_false'] at hbit
      exact hbit
    · have hbit := hnext hlt
      rw [if_pos rfl, BitVec.getLsbD_not, decide_eq_true (by omega), Bool.true_and] at hbit
      exact Bool.not_eq_eq_eq_not.mp hbit

theorem gives_shf1 {op : ShiftOp1} {q : State → Elem → Prop}
    (hexec : exec i s = computeOnly (.shf1 op n x) s)
    (hq : ∀ e t, let o := shf1 op ((s.astatEff e).getLsbD 1) (s.reg32 e x)
      shfResult s t e n o.r o.sz o.sv o.ss → q t e) :
    gives i s fun t => onRunning s (q t) :=
  gives_putShf (o := fun e => shf1 op ((s.astatEff e).getLsbD 1) (s.reg32 e x)) hexec hq

/-- LEFTZ and LEFTO leave the count of leading `b`. -/
theorem gives_leads {op : ShiftOp1} {b : Bool} (hexec : exec i s = computeOnly (.shf1 op n x) s)
    (hop : ∀ av a, shf1 op av a =
      { r := .ofNat 32 (lead a b), sz := decide (a.getLsbD 31 = !b), sv := decide (lead a b = 32), ss := false }) :
    gives i s fun t => onRunning s fun e => ∃ k, Leads (s.reg32 e x) b 32 k ∧
      shfResult s t e n (.ofNat 32 k) (decide ((s.reg32 e x).getLsbD 31 = !b)) (decide (k = 32)) false :=
  gives_shf1 hexec fun e t h => by
    rw [hop] at h
    exact ⟨_, leads_lead _ b, h⟩

section

variable (av : Bool) (a : Word)

theorem shf1_leftz : shf1 .leftz av a =
    { r := .ofNat 32 (lead a false), sz := decide (a.getLsbD 31 = !false), sv := decide (lead a false = 32)
      ss := false } := by
  rw [Bool.not_false, Bool.decide_eq_true]
  rfl

theorem shf1_lefto : shf1 .lefto av a =
    { r := .ofNat 32 (lead a true), sz := decide (a.getLsbD 31 = !true), sv := decide (lead a true = 32)
      ss := false } := by
  rw [Bool.not_true, Bool.decide_eq_false]
  rfl

/-- The exponent by the count of leading signs. -/
theorem shf1_exp : ∃ k, Leads a (a.getLsbD 31) 32 k ∧ shf1 .exp av a =
    { r := .ofInt 32 (1 - k), sz := decide (k = 1), sv := false, ss := a.getLsbD 31 } := by
  refine ⟨_, leads_lead a _, ?_⟩
  have hone (k : Nat) : decide (k = 1) = decide (1 - (k : Int) = 0) := by
    rw [decide_eq_decide]
    omega
  rw [hone]
  rfl

theorem shf1_expEx_clear : shf1 .expEx false a = shf1 .exp av a := by
  unfold shf1
  dsimp only
  rw [if_neg Bool.false_ne_true, Bool.false_xor]

theorem shf1_expEx_set : shf1 .expEx true a = { r := 1, sz := false, sv := false, ss := !a.getLsbD 31 } := by
  unfold shf1
  dsimp only
  rw [if_pos rfl, Bool.true_xor]
  rfl

end

/-! ## Fields of a word and of a 16-bit value -/

theorem toNat_extractLsb'_bit {w : Nat} (v : BitVec w) (k : Nat) :
    (v.extractLsb' k 1).toNat = (v.getLsbD k).toNat := by
  rw [BitVec.extractLsb'_toNat, Nat.shiftRight_eq_div_pow, BitVec.getLsbD, Nat.toNat_testBit, pow_one]

/-- The exponent of a short-word floating-point pattern. -/
def wordExp (a : Word) : Nat := (a.extractLsb' 23 8).toNat

/-- Its fraction. -/
def wordFrac (a : Word) : Nat := (a.extractLsb' 0 23).toNat

theorem wordFrac_lt (a : Word) : wordFrac a < 2 ^ 23 := (a.extractLsb' 0 23).isLt

theorem word_fields {a : Word} {b : Bool} {e f : Nat} (h : a.toNat = 2 ^ 31 * b.toNat + (2 ^ 23 * e + f))
    (he : e < 2 ^ 8) (hf : f < 2 ^ 23) : a.getLsbD 31 = b ∧ wordExp a = e ∧ wordFrac a = f := by
  unfold wordExp wordFrac
  refine ⟨toNat_injective _ _ ?_, ?_, ?_⟩
  · rw [← toNat_extractLsb'_bit, BitVec.extractLsb'_toNat, Nat.shiftRight_eq_div_pow]
    have hb := b.toNat_le
    omega
  · rw [BitVec.extractLsb'_toNat, Nat.shiftRight_eq_div_pow]
    omega
  · rw [BitVec.extractLsb'_toNat, Nat.shiftRight_eq_div_pow]
    omega

theorem toExt_toNat (a : Word) : a.toExt.toNat = a.toNat * 2 ^ 8 := by
  unfold Word.toExt
  rw [toNat_append_eq, BitVec.toNat_zero, add_zero]

theorem fpExp_toExt (a : Word) : fpExp a.toExt = wordExp a := by
  unfold fpExp wordExp
  rw [BitVec.extractLsb'_toNat, BitVec.extractLsb'_toNat, toExt_toNat, Nat.shiftRight_eq_div_pow,
    Nat.shiftRight_eq_div_pow]
  omega

theorem fpFrac_toExt (a : Word) : (fpFrac a.toExt).toNat = wordFrac a * 2 ^ 8 := by
  unfold fpFrac wordFrac
  rw [BitVec.extractLsb'_toNat, BitVec.extractLsb'_toNat, toExt_toNat, Nat.shiftRight_zero, Nat.shiftRight_zero]
  omega

theorem fpVal_toExt {a : Word} (he : wordExp a ≠ 0) :
    fpVal a.toExt =
      signFactor (a.getLsbD 31) * ((2 ^ 23 + wordFrac a : Nat) * (2 : ℚ) ^ ((wordExp a : Int) - 150)) := by
  rw [← fpExp_toExt] at he ⊢
  rw [fpVal_eq_signFactor, fpSign_toExt, fpMant_of_ne_zero he, fpFrac_toExt,
    show (fpExp a.toExt : Int) - 150 = 8 + (fpExp a.toExt - 158) by ring, zpow_add₀ (by norm_num)]
  push_cast
  ring

theorem abs_fpVal_toExt {a : Word} (he : wordExp a ≠ 0) :
    |fpVal a.toExt| = (2 ^ 23 + wordFrac a : Nat) * (2 : ℚ) ^ ((wordExp a : Int) - 150) := by
  rw [fpVal_toExt he, abs_signFactor_mul, abs_of_nonneg (by positivity)]

/-- The magnitude of a 16-bit value with exponent `e` and fraction `r`; a fraction of 2048 is the next exponent with
fraction 0. -/
def halfMag (e r : Nat) : ℚ := (if e = 0 then (r : ℚ) else r + 2048) * (2 : ℚ) ^ ((max e 1 : Int) - 18)

theorem halfMag_carry (e : Nat) : halfMag (e + 1) 0 = halfMag e 2048 := by
  unfold halfMag
  rw [if_neg (by omega), max_eq_left (by push_cast; omega)]
  obtain rfl | he := Nat.eq_zero_or_pos e
  · norm_num
  · rw [if_neg (by omega), max_eq_left (by omega),
      show ((e + 1 : Nat) : Int) - 18 = 1 + ((e : Int) - 18) by push_cast; ring, zpow_add₀ (by norm_num)]
    norm_num
    ring

theorem halfVal_eq (h : BitVec 16) :
    halfVal h = signFactor (h.getLsbD 15) * halfMag (h.extractLsb' 11 4).toNat (h.extractLsb' 0 11).toNat :=
  mul_assoc _ _ _

theorem half_toNat (h : BitVec 16) :
    h.toNat = 2 ^ 15 * (h.getLsbD 15).toNat + (2048 * (h.extractLsb' 11 4).toNat + (h.extractLsb' 0 11).toNat) := by
  have hlt := h.isLt
  rw [← toNat_extractLsb'_bit]
  simp only [BitVec.extractLsb'_toNat, Nat.shiftRight_eq_div_pow]
  omega

theorem halfVal_of_toNat {h : BitVec 16} {b : Bool} {e r : Nat} (hh : h.toNat = 2 ^ 15 * b.toNat + (2048 * e + r))
    (hr : r ≤ 2048) (hlt : 2048 * e + r < 2 ^ 15) : halfVal h = signFactor b * halfMag e r := by
  have hfields := half_toNat h
  have he' := (h.extractLsb' 11 4).isLt
  have hf' := (h.extractLsb' 0 11).isLt
  have hsign : h.getLsbD 15 = b := toNat_injective _ _ (by omega)
  rw [halfVal_eq, hsign]
  rw [hsign] at hfields
  obtain rfl | hlt := Nat.eq_or_lt_of_le hr
  · rw [show (h.extractLsb' 11 4).toNat = e + 1 by omega, show (h.extractLsb' 0 11).toNat = 0 by omega, halfMag_carry]
  · rw [show (h.extractLsb' 11 4).toNat = e by omega, show (h.extractLsb' 0 11).toNat = r by omega]

/-! ## FPACK (R675) -/

/-- The 15 bits of a magnitude rounded to the 16-bit format, beyond its range 2 ^ 15. -/
def halfRounded (e f : Nat) : Nat :=
  if 120 < e then 2048 * (e - 120) + shiftRound false f 12 else shiftRound false (2 ^ 23 + f) (133 - e)

/-- The magnitude rounded is `z` places, without those of a hidden bit, at the exponent `e - 120`. -/
theorem halfRounded_spec {e f : Nat} (he : 110 ≤ e) (hf : f < 2 ^ 23) :
    ∃ (r : Nat) (z : ℚ), r ≤ 2048 ∧ halfRounded e f = 2048 * (e - 120) + r ∧ RoundsTo false r z ∧ z ≤ 2048 ∧
      ((2 ^ 23 + f : Nat) : ℚ) * (2 : ℚ) ^ ((e : Int) - 150) =
        ((if e - 120 = 0 then 0 else 2048) + z) * (2 : ℚ) ^ ((max (e - 120 : Nat) 1 : Int) - 18) := by
  unfold halfRounded
  by_cases h : 120 < e
  · have hround := shiftRound_roundsTo false f 12
    have hz : (f : ℚ) / 2 ^ 12 ≤ (2048 : Nat) := by
      rw [div_le_iff₀ (by positivity)]
      exact_mod_cast hf.le
    refine ⟨_, _, hround.le_of_le hz, if_pos h, hround, by exact_mod_cast hz, ?_⟩
    rw [if_neg (by omega), max_eq_left (by omega),
      show ((e - 120 : Nat) : Int) - 18 = 12 + ((e : Int) - 150) by omega, zpow_add₀ (by norm_num)]
    push_cast
    ring
  · have hround := shiftRound_roundsTo false (2 ^ 23 + f) (133 - e)
    have hz : ((2 ^ 23 + f : Nat) : ℚ) / 2 ^ (133 - e) ≤ (2048 : Nat) := by
      have hpow : 2 ^ 13 ≤ 2 ^ (133 - e) := Nat.pow_le_pow_right (by decide) (by omega)
      rw [div_le_iff₀ (by positivity)]
      exact_mod_cast (show 2 ^ 23 + f ≤ 2048 * 2 ^ (133 - e) by omega)
    refine ⟨_, _, hround.le_of_le hz, by rw [if_neg h, show e - 120 = 0 by omega, mul_zero, zero_add], hround,
      by exact_mod_cast hz, ?_⟩
    rw [show e - 120 = 0 by omega, if_pos rfl, zero_add, div_mul_eq_mul_div, eq_div_iff (by positivity), mul_assoc,
      ← zpow_natCast, ← zpow_add₀ (by norm_num)]
    congr 2
    push_cast [Nat.cast_sub (show e ≤ 133 by omega)]
    norm_num

section

variable (a : Word)

/-- The sign of a word above 15 bits. -/
def signedHalf (m : BitVec 15) : BitVec 16 := a.extractLsb' 31 1 ++ m

theorem signedHalf_toNat (m : BitVec 15) : (signedHalf a m).toNat = 2 ^ 15 * (a.getLsbD 31).toNat + m.toNat := by
  unfold signedHalf
  rw [toNat_append_eq, toNat_extractLsb'_bit, mul_comm]

theorem signedHalf_getLsbD (m : BitVec 15) : (signedHalf a m).getLsbD 15 = a.getLsbD 31 := by
  have hfields := half_toNat (signedHalf a m)
  have he := ((signedHalf a m).extractLsb' 11 4).isLt
  have hf := ((signedHalf a m).extractLsb' 0 11).isLt
  have hm := m.isLt
  rw [signedHalf_toNat] at hfields
  exact toNat_injective _ _ (by omega)

theorem signedHalf_low (m : BitVec 15) : (signedHalf a m).extractLsb' 0 15 = m := by
  have hm := m.isLt
  apply BitVec.eq_of_toNat_eq
  rw [BitVec.extractLsb'_toNat, signedHalf_toNat, Nat.shiftRight_zero]
  omega

variable {a}

theorem fpackOf_tiny (he : wordExp a ≤ 109) : fpackOf a = (signedHalf a 0, false) := by
  have h135 : ¬ 135 < wordExp a := by omega
  have h120 : ¬ 120 < wordExp a := by omega
  have h109 : ¬ 109 < wordExp a := by omega
  exact (if_neg h135).trans ((if_neg h120).trans (if_neg h109))

theorem fpackOf_huge (he : 135 < wordExp a) : fpackOf a = (signedHalf a 0x7FFF, true) := if_pos he

theorem fpackOf_near (hlow : 110 ≤ wordExp a) (hhigh : wordExp a ≤ 135) :
    fpackOf a = if 2 ^ 15 ≤ halfRounded (wordExp a) (wordFrac a) then (signedHalf a 0x7FFF, true)
      else (signedHalf a (.ofNat 15 (halfRounded (wordExp a) (wordFrac a))), false) := by
  refine (if_neg (show ¬ 135 < wordExp a by omega)).trans ?_
  by_cases h : 120 < wordExp a
  · have hcode : halfRounded (wordExp a) (wordFrac a) =
        shiftRound false (wordFrac a) 12 + (wordExp a - 120) * 2048 := by
      rw [halfRounded, if_pos h, add_comm, mul_comm]
    rw [hcode]
    exact if_pos h
  · obtain ⟨r, -, hr, hcode, -⟩ := halfRounded_spec hlow (wordFrac_lt a)
    rw [if_neg (show ¬ 2 ^ 15 ≤ halfRounded (wordExp a) (wordFrac a) by omega), halfRounded, if_neg h]
    exact (if_neg h).trans (if_pos (show 109 < wordExp a by omega))

/-- The magnitude beyond which FPACK overflows: halfway from the largest of the format to the next. -/
theorem halfRounded_overflow (hlow : 110 ≤ wordExp a) (hhigh : wordExp a ≤ 135) :
    2 ^ 15 ≤ halfRounded (wordExp a) (wordFrac a) ↔ 512 - (2 : ℚ) ^ (-4 : Int) ≤ |fpVal a.toExt| := by
  obtain ⟨r, z, hr, hcode, hround, hz, hval⟩ := halfRounded_spec hlow (wordFrac_lt a)
  obtain ⟨hnear, htie⟩ : |(r : ℚ) - z| ≤ 1 / 2 ∧ (|(r : ℚ) - z| = 1 / 2 → r % 2 = 0) := hround
  rw [hcode, abs_fpVal_toExt (by omega), hval]
  obtain htop | hbelow : wordExp a - 120 = 15 ∨ wordExp a - 120 < 15 := by omega
  · rw [htop, if_neg (by decide), show (max ((15 : Nat) : Int) 1 - 18) = -3 from rfl]
    rw [abs_le] at hnear
    constructor
    · intro h
      have hr' : r = 2048 := by omega
      rw [hr'] at hnear
      norm_num at hnear ⊢
      linarith
    · intro h
      by_contra hlt
      have hr' : r ≤ 2047 := by omega
      have hrq : (r : ℚ) ≤ 2047 := by exact_mod_cast hr'
      norm_num at h
      have hreq : (r : ℚ) = 2047 := by linarith
      have hodd := htie (by rw [hreq, abs_of_nonpos (by linarith)]; linarith)
      have : r = 2047 := by exact_mod_cast hreq
      omega
  · have hpow : (2 : ℚ) ^ ((max (wordExp a - 120 : Nat) 1 : Int) - 18) ≤ (2 : ℚ) ^ (-4 : Int) :=
      zpow_le_zpow_right₀ (by norm_num) (by omega)
    have hsum : (if wordExp a - 120 = 0 then (0 : ℚ) else 2048) + z ≤ 4096 := by split <;> linarith
    have hle := mul_le_mul hsum hpow (by positivity) (by norm_num)
    have hbound : (4096 : ℚ) * (2 : ℚ) ^ (-4 : Int) < 512 - (2 : ℚ) ^ (-4 : Int) := by norm_num
    exact ⟨fun h => by omega, fun h => absurd h (not_le.mpr (hle.trans_lt hbound))⟩

/-- What FPACK leaves of a value, with overflow `ov`. -/
def FpackResult (a : Word) (h : BitVec 16) (ov : Bool) : Prop :=
  h.getLsbD 15 = a.getLsbD 31 ∧ (wordExp a ≤ 109 → h.extractLsb' 0 15 = 0 ∧ ov = false) ∧
    (110 ≤ wordExp a → |fpVal a.toExt| < 512 - (2 : ℚ) ^ (-4 : Int) →
      ov = false ∧ |halfVal h - fpVal a.toExt| ≤ (2 : ℚ) ^ (max ((wordExp a : Int) - 120) 1 - 19)) ∧
    (512 - (2 : ℚ) ^ (-4 : Int) ≤ |fpVal a.toExt| → h.extractLsb' 0 15 = 0x7FFF ∧ ov = true)

theorem abs_fpVal_toExt_of_tiny (he : wordExp a ≤ 109) : |fpVal a.toExt| < 512 - (2 : ℚ) ^ (-4 : Int) := by
  rw [← fpExp_toExt] at he
  by_cases hz : fpExp a.toExt = 0
  · rw [fpVal_of_zero hz]
    norm_num
  · calc |fpVal a.toExt| < (2 : ℚ) ^ ((fpExp a.toExt : Int) - 126) := (abs_fpVal_bounds hz).2
      _ ≤ (2 : ℚ) ^ (-17 : Int) := zpow_le_zpow_right₀ (by norm_num) (by omega)
      _ < 512 - (2 : ℚ) ^ (-4 : Int) := by norm_num

theorem abs_fpVal_toExt_of_huge (he : 135 < wordExp a) : 512 - (2 : ℚ) ^ (-4 : Int) ≤ |fpVal a.toExt| := by
  rw [← fpExp_toExt] at he
  calc 512 - (2 : ℚ) ^ (-4 : Int) ≤ (2 : ℚ) ^ (9 : Int) := by norm_num
    _ ≤ (2 : ℚ) ^ ((fpExp a.toExt : Int) - 127) := zpow_le_zpow_right₀ (by norm_num) (by omega)
    _ ≤ |fpVal a.toExt| := (abs_fpVal_bounds (by omega)).1

/-- A value in range is rounded to within half a last place. -/
theorem halfRounded_error (hlow : 110 ≤ wordExp a) (hfits : halfRounded (wordExp a) (wordFrac a) < 2 ^ 15) :
    |halfVal (signedHalf a (.ofNat 15 (halfRounded (wordExp a) (wordFrac a)))) - fpVal a.toExt| ≤
      (2 : ℚ) ^ (max ((wordExp a : Int) - 120) 1 - 19) := by
  obtain ⟨r, z, hr, hcode, hround, -, hval⟩ := halfRounded_spec hlow (wordFrac_lt a)
  rw [hcode] at hfits ⊢
  have hnat : (signedHalf a (.ofNat 15 (2048 * (wordExp a - 120) + r))).toNat =
      2 ^ 15 * (a.getLsbD 31).toNat + (2048 * (wordExp a - 120) + r) := by
    rw [signedHalf_toNat, BitVec.toNat_ofNat, Nat.mod_eq_of_lt hfits]
  have hmag : halfMag (wordExp a - 120) r =
      ((if wordExp a - 120 = 0 then 0 else 2048) + r) * (2 : ℚ) ^ ((max (wordExp a - 120 : Nat) 1 : Int) - 18) := by
    unfold halfMag
    split <;> ring
  have hexp : (max ((wordExp a - 120 : Nat) : Int) 1) = max ((wordExp a : Int) - 120) 1 := by omega
  rw [halfVal_of_toNat hnat hr hfits, fpVal_toExt (by omega), hval, hmag, ← mul_sub, abs_signFactor_mul, ← sub_mul,
    add_sub_add_left_eq_sub, abs_mul, abs_of_pos (a := (2 : ℚ) ^ _) (by positivity), hexp,
    show max ((wordExp a : Int) - 120) 1 - 18 = 1 + (max ((wordExp a : Int) - 120) 1 - 19) by ring,
    zpow_add₀ (by norm_num), zpow_one, ← mul_assoc]
  refine mul_le_of_le_one_left (by positivity) ?_
  have hnear : |(r : ℚ) - z| ≤ 1 / 2 := hround.1
  linarith

theorem fpackOf_result (a : Word) : FpackResult a (fpackOf a).1 (fpackOf a).2 := by
  unfold FpackResult
  obtain htiny | hnear | hhuge : wordExp a ≤ 109 ∨ (110 ≤ wordExp a ∧ wordExp a ≤ 135) ∨ 135 < wordExp a := by omega
  · rw [fpackOf_tiny htiny]
    exact ⟨signedHalf_getLsbD a _, fun _ => ⟨signedHalf_low a _, rfl⟩, fun h => by omega,
      fun h => absurd h (not_le.mpr (abs_fpVal_toExt_of_tiny htiny))⟩
  · obtain ⟨hlow, hhigh⟩ := hnear
    rw [fpackOf_near hlow hhigh, ← not_le, ← halfRounded_overflow hlow hhigh]
    split
    case isTrue hover =>
      exact ⟨signedHalf_getLsbD a _, fun h => by omega, fun _ h => absurd hover h, fun _ => ⟨signedHalf_low a _, rfl⟩⟩
    case isFalse hfits =>
      exact ⟨signedHalf_getLsbD a _, fun h => by omega,
        fun _ _ => ⟨rfl, halfRounded_error hlow (not_le.mp hfits)⟩, fun h => absurd h hfits⟩
  · rw [fpackOf_huge hhuge]
    exact ⟨signedHalf_getLsbD a _, fun h => by omega,
      fun _ h => absurd (abs_fpVal_toExt_of_huge hhuge) (not_le.mpr h), fun _ => ⟨signedHalf_low a _, rfl⟩⟩

end

/-! ## FUNPACK (R676) -/

section

variable (h : BitVec 16)

/-- The exponent of a 16-bit value. -/
def halfExp : Nat := (h.extractLsb' 11 4).toNat

/-- Its fraction. -/
def halfFrac : Nat := (h.extractLsb' 0 11).toNat

theorem halfExp_lt : halfExp h < 2 ^ 4 := (h.extractLsb' 11 4).isLt

theorem halfFrac_lt : halfFrac h < 2 ^ 11 := (h.extractLsb' 0 11).isLt

/-- The leading zeros of a number that is not 0 bring its top bit to the top. -/
theorem leadZerosFrom_normalizes {m : Nat} {v : Word} (hv : v.toNat ≠ 0) (hlt : v.toNat < 2 ^ m) :
    leadZerosFrom v m < m ∧ 2 ^ (m - 1) ≤ v.toNat * 2 ^ leadZerosFrom v m ∧
      v.toNat * 2 ^ leadZerosFrom v m < 2 ^ m := by
  obtain ⟨hle, hbits, hnext⟩ := leads_leadZerosFrom v m
  generalize leadZerosFrom v m = k at *
  have hsmall : v.toNat < 2 ^ (m - k) := by
    refine Nat.lt_pow_two_of_testBit _ fun j hj => ?_
    obtain hjm | hjm : j < m ∨ m ≤ j := by omega
    · exact hbits j hjm (by omega)
    · exact Nat.testBit_lt_two_pow (hlt.trans_le (Nat.pow_le_pow_right (by decide) hjm))
  have hk : k < m := by
    by_contra hge
    rw [show m - k = 0 by omega, pow_zero] at hsmall
    omega
  have hgreat : 2 ^ (m - 1 - k) ≤ v.toNat := Nat.ge_two_pow_of_testBit (hnext hk)
  refine ⟨hk, ?_, ?_⟩
  · calc 2 ^ (m - 1) = 2 ^ (m - 1 - k) * 2 ^ k := by rw [← Nat.pow_add, Nat.sub_add_cancel (by omega)]
      _ ≤ v.toNat * 2 ^ k := Nat.mul_le_mul_right _ hgreat
  · calc v.toNat * 2 ^ k < 2 ^ (m - k) * 2 ^ k := Nat.mul_lt_mul_of_pos_right hsmall (by positivity)
      _ = 2 ^ m := by rw [← Nat.pow_add, Nat.sub_add_cancel hle]

/-- The fields of the word that FUNPACK gives: those of a normal number, of a zero, or of a denormal number whose
fraction is normalized by `k` places. -/
theorem funpackOf_fields :
    (halfExp h ≠ 0 ∧ (funpackOf h).toNat =
        2 ^ 31 * (h.getLsbD 15).toNat + (2 ^ 23 * (halfExp h + 120) + 2 ^ 12 * halfFrac h)) ∨
      (halfExp h = 0 ∧ halfFrac h = 0 ∧ (funpackOf h).toNat = 2 ^ 31 * (h.getLsbD 15).toNat) ∨
      (halfExp h = 0 ∧ ∃ k ≤ 10, 2 ^ 23 ≤ halfFrac h * 2 ^ (13 + k) ∧ halfFrac h * 2 ^ (13 + k) < 2 ^ 24 ∧
        (funpackOf h).toNat =
          2 ^ 31 * (h.getLsbD 15).toNat + (2 ^ 23 * (120 - k) + (halfFrac h * 2 ^ (13 + k) - 2 ^ 23))) := by
  have hsign := toNat_extractLsb'_bit h 15
  have hexp := halfExp_lt h
  have hfrac := halfFrac_lt h
  by_cases he : halfExp h ≠ 0
  · refine .inl ⟨he, ?_⟩
    have hword : funpackOf h =
        h.extractLsb' 15 1 ++ BitVec.ofNat 8 (halfExp h + 120) ++ h.extractLsb' 0 11 ++ (0#12) := if_pos he
    rw [hword, toNat_append_eq, toNat_append_eq, toNat_append_eq, hsign, BitVec.toNat_ofNat, BitVec.toNat_zero]
    unfold halfFrac
    omega
  · refine .inr ?_
    by_cases hf : h.extractLsb' 0 11 = 0
    · refine .inl ⟨not_not.mp he, by rw [halfFrac, hf]; rfl, ?_⟩
      have hword : funpackOf h = h.extractLsb' 15 1 ++ (0#31) := (if_neg he).trans (if_pos hf)
      rw [hword, toNat_append_eq, hsign, BitVec.toNat_zero]
      omega
    · have hne : ((h.extractLsb' 0 11).setWidth 32).toNat = halfFrac h := by
        rw [BitVec.toNat_setWidth]
        exact Nat.mod_eq_of_lt (hfrac.trans (by decide))
      have hf0 : halfFrac h ≠ 0 := fun h0 => hf (BitVec.eq_of_toNat_eq h0)
      obtain ⟨hk, hlow, hhigh⟩ := leadZerosFrom_normalizes (m := 11) (by rwa [hne]) (by rwa [hne])
      have hword : funpackOf h = h.extractLsb' 15 1 ++
          BitVec.ofNat 8 (120 - leadZerosFrom ((h.extractLsb' 0 11).setWidth 32) 11) ++
          BitVec.ofNat 23 (halfFrac h * 2 ^ (13 + leadZerosFrom ((h.extractLsb' 0 11).setWidth 32) 11)) :=
        (if_neg he).trans (if_neg hf)
      rw [hne] at hlow hhigh
      generalize leadZerosFrom ((h.extractLsb' 0 11).setWidth 32) 11 = k at *
      have hshift : halfFrac h * 2 ^ (13 + k) = halfFrac h * 2 ^ k * 2 ^ 13 := by ring
      refine .inr ⟨not_not.mp he, k, by omega, by omega, by omega, ?_⟩
      rw [hword, toNat_append_eq, toNat_append_eq, hsign, BitVec.toNat_ofNat, BitVec.toNat_ofNat]
      omega

theorem shiftRound_mul_two_pow (trunc : Bool) (m k : Nat) : shiftRound trunc (m * 2 ^ k) k = m := by
  have hpos : 0 < 2 ^ k := by positivity
  unfold shiftRound
  simp [hpos.ne]

/-- FUNPACK is exact. -/
theorem fpVal_funpackOf : fpVal (funpackOf h).toExt = halfVal h ∧ (funpackOf h).getLsbD 31 = h.getLsbD 15 := by
  have he := halfExp_lt h
  have hf := halfFrac_lt h
  have hval : halfVal h = signFactor (h.getLsbD 15) * halfMag (halfExp h) (halfFrac h) := halfVal_eq h
  obtain ⟨hnormal, hnat⟩ | ⟨hzero, hfrac, hnat⟩ | ⟨hzero, k, hk, hlow, hhigh, hnat⟩ := funpackOf_fields h
  · obtain ⟨hsign, hexp, hfrac⟩ := word_fields hnat (by omega) (by omega)
    refine ⟨?_, hsign⟩
    rw [fpVal_toExt (by omega), hsign, hexp, hfrac, hval, halfMag, if_neg hnormal, max_eq_left (by omega),
      show ((halfExp h + 120 : Nat) : Int) - 150 = -12 + ((halfExp h : Int) - 18) by omega, zpow_add₀ (by norm_num)]
    push_cast
    ring
  · obtain ⟨hsign, hexp, -⟩ := word_fields (e := 0) (f := 0) (by omega) (by omega) (by omega)
    refine ⟨?_, hsign⟩
    rw [fpVal_of_zero (by rw [fpExp_toExt, hexp]), hval, hzero, hfrac]
    simp [halfMag]
  · obtain ⟨hsign, hexp, hfrac⟩ := word_fields hnat (by omega) (by omega)
    refine ⟨?_, hsign⟩
    rw [fpVal_toExt (by omega), hsign, hexp, hfrac, hval, halfMag, if_pos hzero, hzero, Nat.add_sub_cancel' hlow,
      show ((120 - k : Nat) : Int) - 150 = -17 - (13 + k : Nat) by omega, zpow_sub₀ (by norm_num), zpow_natCast]
    push_cast
    rw [mul_assoc (halfFrac h : ℚ), mul_div_cancel₀ _ (by positivity)]
    rfl

/-- FPACK of what FUNPACK gives is what was unpacked. -/
theorem fpackOf_funpackOf : fpackOf (funpackOf h) = (h, false) := by
  have he := halfExp_lt h
  have hf := halfFrac_lt h
  have hsign := (fpVal_funpackOf h).2
  have hback (q : Nat) (hq : q = 2048 * halfExp h + halfFrac h) : signedHalf (funpackOf h) (.ofNat 15 q) = h := by
    apply BitVec.eq_of_toNat_eq
    rw [signedHalf_toNat, BitVec.toNat_ofNat, Nat.mod_eq_of_lt (by omega), hsign, hq]
    exact (half_toNat h).symm
  have hnear (hlow : 110 ≤ wordExp (funpackOf h)) (hhigh : wordExp (funpackOf h) ≤ 135)
      (hq : halfRounded (wordExp (funpackOf h)) (wordFrac (funpackOf h)) = 2048 * halfExp h + halfFrac h) :
      fpackOf (funpackOf h) = (h, false) := by
    rw [fpackOf_near hlow hhigh, if_neg (by omega), hback _ hq]
  obtain ⟨hnormal, hnat⟩ | ⟨hzero, hfrac, hnat⟩ | ⟨hzero, k, hk, hlow, hhigh, hnat⟩ := funpackOf_fields h
  · obtain ⟨-, hexp, hfrac⟩ := word_fields hnat (by omega) (by omega)
    refine hnear (by omega) (by omega) ?_
    rw [hexp, hfrac, halfRounded, if_pos (by omega), mul_comm (2 ^ 12), shiftRound_mul_two_pow, Nat.add_sub_cancel]
  · obtain ⟨-, hexp, -⟩ := word_fields (e := 0) (f := 0) (by omega) (by omega) (by omega)
    have hhalf : signedHalf (funpackOf h) 0 = h := hback 0 (by omega)
    rw [fpackOf_tiny (by omega), hhalf]
  · obtain ⟨-, hexp, hfrac⟩ := word_fields hnat (by omega) (by omega)
    refine hnear (by omega) (by omega) ?_
    rw [hexp, hfrac, halfRounded, if_neg (by omega), Nat.add_sub_cancel' hlow, show 133 - (120 - k) = 13 + k by omega,
      shiftRound_mul_two_pow, hzero, mul_zero, zero_add]

end

/-! ## The operations -/

theorem onRunning_imp₂ {s t : State} {p q r : Elem → Prop} (hp : onRunning s p) (hq : onRunning t q)
    (hsimd : t.simd = s.simd) (h : ∀ e, p e → q e → r e) : onRunning s r := by
  obtain ⟨hpx, hpy⟩ := hp
  obtain ⟨hqx, hqy⟩ := hq
  exact ⟨h .x hpx hqx, fun hs => h .y (hpy hs) (hqy (hsimd.trans hs))⟩

theorem simd_of_compute {c : Compute} {t : State} (hexec : exec i s = computeOnly c s) (ht : exec i s = .next t) :
    t.simd = s.simd := by
  have hunits := doCompute_units s .open c s t (hexec.symm.trans ht)
  rw [hunits]
  rfl

/-- EXP, and EXP (EX) with AV clear, leave 1 less the count of leading signs. -/
theorem exp_result {t : State} {e : Elem} {av : Bool} {a : Word}
    (h : shfResult s t e n (shf1 .exp av a).r (shf1 .exp av a).sz (shf1 .exp av a).sv (shf1 .exp av a).ss) :
    ∃ k, Leads a (a.getLsbD 31) 32 k ∧
      shfResult s t e n (.ofInt 32 (1 - k)) (decide (k = 1)) false (a.getLsbD 31) := by
  obtain ⟨k, hk, hexp⟩ := shf1_exp av a
  rw [hexp] at h
  exact ⟨k, hk, h⟩

/-- FPACK of the register that FUNPACK has left: its own operand, the low half of the register unpacked. -/
theorem gives_fpack_of_funpack (s : State) (rn rx : RegNum) :
    gives (.funpack rn rx) s fun t => gives (.fpack rn rn) t fun u => onRunning s fun e =>
      u.reg e rn = Word.toExt (((s.reg32 e rx).extractLsb' 0 16).setWidth 32) := by
  obtain ⟨t, ht, hunpacked⟩ := gives_shf1 (i := .funpack rn rx) (s := s) rfl fun _ _ h => h
  have hpack : gives (.fpack rn rn) t fun u => onRunning t fun e =>
      shfResult t u e rn ((fpackOf (t.reg32 e rn)).1.setWidth 32) false (fpackOf (t.reg32 e rn)).2 false :=
    gives_shf1 rfl fun _ _ h => h
  have hsimd : t.simd = s.simd := simd_of_compute (c := .shf1 .funpack rn rx) rfl ht
  refine ⟨t, ht, hpack.imp fun u hpacked => onRunning_imp₂ hunpacked hpacked hsimd fun e hr hh => ?_⟩
  obtain ⟨hunpack, -⟩ := hr
  obtain ⟨hreg, -⟩ := hh
  have hword : t.reg32 e rn = funpackOf ((s.reg32 e rx).extractLsb' 0 16) := by
    rw [State.reg32, hunpack, toExt_word]
    rfl
  rw [hreg, hword, fpackOf_funpackOf]

/-- Settles O20: the count of leading bits by `leads_lead`, FPACK by `fpackOf_result`, FUNPACK by `fpVal_funpackOf`, and
FPACK after FUNPACK by `fpackOf_funpackOf`. -/
theorem leadingBitsAndShortFloats : Obligations.LeadingBitsAndShortFloats := by
  unfold Obligations.LeadingBitsAndShortFloats
  constructor
  · intro s rn rx
    simp only [List.forall_mem_cons, List.not_mem_nil, IsEmpty.forall_iff, implies_true, and_true]
    refine ⟨⟨gives_leads rfl shf1_leftz, gives_leads rfl shf1_lefto⟩, gives_shf1 rfl fun _ _ h => exp_result h,
      gives_shf1 rfl fun e t h => ⟨fun hav => ?_, fun hav => ?_⟩⟩
    · rw [hav, shf1_expEx_clear false] at h
      exact exp_result h
    · rw [hav, shf1_expEx_set] at h
      exact h
  · intro s rn rx
    refine ⟨gives_shf1 rfl fun e t h => ?_, gives_shf1 rfl fun e t h => ?_, gives_fpack_of_funpack s rn rx⟩
    · obtain ⟨hsign, htiny, hnear, hover⟩ := fpackOf_result (s.reg32 e rx)
      rw [← fpExp_toExt] at htiny hnear
      exact ⟨_, _, h, by rw [hsign, fpSign_toExt], htiny, hnear, hover⟩
    · obtain ⟨hval, hsign⟩ := fpVal_funpackOf ((s.reg32 e rx).extractLsb' 0 16)
      exact ⟨_, h, hsign, hval⟩

end Sys2Proof.Machine
end

section
/-! Several operations in one instruction (O22 to O24): each operation as its effect on the view of one element, so that two
of them in one instruction are the two effects in turn (48_multifunction.md R700 to R711). -/

namespace Sys2Proof.Safety

open Sys2Proof.Machine

variable {s t m a : State} {e : Elem}

/-! ## An element as its operations see it -/

/-- The data registers of the selected set, the result registers, ASTAT and STKY of an element. -/
@[ext] structure ElemView where
  reg : RegNum → Ext
  mr : Bool → Acc
  astat : Word
  stky : Word

def viewOf (t : State) (e : Elem) : ElemView := ⟨t.reg e, t.mr e, (t.astat e).val, (t.stky e).val⟩

theorem SameUnit.view (h : SameUnit s t e) : viewOf t e = viewOf s e := by
  unfold viewOf
  rw [funext h.reg, funext h.mr, h.astat, h.stky]

/-- What an operation does to an element: data registers and result registers written, the flags `mask` of ASTAT taken from
`flags`, and sticky bits set. -/
structure Effect where
  regs : RegNum → Option Ext
  accs : Bool → Option Acc
  flags : Word
  mask : Word
  sticky : Word

def Effect.on (x : Effect) (v : ElemView) : ElemView where
  reg n := (x.regs n).getD (v.reg n)
  mr bg := (x.accs bg).getD (v.mr bg)
  astat := mergeBits v.astat x.flags x.mask
  stky := v.stky ||| x.sticky

/-- One register written, and no other. -/
def single {α β : Type} [DecidableEq α] (n : α) (v : β) : α → Option β := fun k => if k = n then some v else none

/-- The effect of an ALU operation. -/
def aluEffect (regs : RegNum → Option Ext) (f : AluFlags) : Effect := ⟨regs, fun _ => none, f.word, aluMask, f.sticky⟩

/-- The effect of a multiplier operation. -/
def mulEffect (regs : RegNum → Option Ext) (accs : Bool → Option Acc) (f : MulFlags) : Effect :=
  ⟨regs, accs, f.word, mulMask, f.sticky⟩

/-- The effect of a dual add and subtract: both results, and the flags of both. -/
def dualEffect (ra rs : RegNum) (x d : AluOut) : Effect :=
  aluEffect (fun k => (single rs d.r k).or (single ra x.r k)) (x.f.or d.f)

/-! ## The effects of the operations -/

theorem setReg_single (t : State) (e : Elem) (n k : RegNum) (v : Ext) :
    (t.setReg e n v).reg e k = (single n v k).getD (t.reg e k) := by
  unfold single
  split
  · next h => rw [h, State.setReg_reg]; rfl
  · next h => exact State.setReg_reg_ne t (fun c => h c.2) v

theorem setMr_reg (t : State) (e : Elem) (b : Bool) (v : Acc) (k : RegNum) : (t.setMr e b v).reg e k = t.reg e k := by
  unfold State.reg State.altReg
  simp only [State.setMr_mode1]
  unfold State.setMr
  cases b ^^ t.mode1 2 <;> simp

theorem setMr_single (t : State) (e : Elem) (b bg : Bool) (v : Acc) :
    (t.setMr e b v).mr e bg = (single b v bg).getD (t.mr e bg) := by
  unfold single
  split
  · next h => rw [h, State.setMr_mr]; rfl
  · next h =>
    unfold State.mr
    rw [State.setMr_mode1]
    unfold State.setMr
    cases t.mode1 2 <;> cases bg <;> cases b <;> simp_all

theorem view_putAlu (e : Elem) (n : RegNum) (o : AluOut) (t : State) :
    viewOf (putAlu e n o t) e = (aluEffect (single n o.r) o.f).on (viewOf t e) := by
  ext <;> simp [viewOf, Machine.putAlu, writeAluFlags, Effect.on, aluEffect, setReg_single]

theorem view_putDual (e : Elem) (ra rs : RegNum) (x d : AluOut) (t : State) :
    viewOf (putDual e ra rs x d t) e = (dualEffect ra rs x d).on (viewOf t e) := by
  ext k
  · cases h : single rs d.r k <;>
      simp [viewOf, Machine.putDual, writeAluFlags, Effect.on, dualEffect, aluEffect, setReg_single, h]
  all_goals simp [viewOf, Machine.putDual, writeAluFlags, Effect.on, dualEffect, aluEffect]

theorem view_mulReg (e : Elem) (n : RegNum) (v : Ext) (f : MulFlags) (t : State) :
    viewOf (writeMulFlags e f (t.setReg e n v)) e = (mulEffect (single n v) (fun _ => none) f).on (viewOf t e) := by
  ext <;> simp [viewOf, writeMulFlags, Effect.on, mulEffect, setReg_single]

theorem view_mulAcc (e : Elem) (b : Bool) (v : Acc) (f : MulFlags) (t : State) :
    viewOf (writeMulFlags e f (t.setMr e b v)) e = (mulEffect (fun _ => none) (single b v) f).on (viewOf t e) := by
  ext <;> simp [viewOf, writeMulFlags, Effect.on, mulEffect, setMr_single, setMr_reg]

/-! ## Instructions by their effects -/

/-- A compute without a condition leaves in each running element what `f` makes of the view before it. -/
theorem gives_view {i : Instr} {c : Compute} {f : Elem → ElemView → ElemView} (hexec : exec i s = computeOnly c s)
    (hwf : c.wellFormed = true) (hc : ∀ e t, viewOf (Machine.computeElem s e c t) e = f e (viewOf t e)) :
    gives i s fun t => onRunning s fun e => viewOf t e = f e (viewOf s e) :=
  gives_compute hexec hwf fun e t u ht hu => by rw [hu.view, hc, ht.view]

theorem mergeBits_and_mask (old new k : Word) : mergeBits old new k &&& k = new &&& k := by
  apply BitVec.eq_of_getLsbD_eq
  intro i _
  simp only [BitVec.getLsbD_and, mergeBits_getLsbD]
  cases k.getLsbD i <;> simp

theorem mergeBits_and_disjoint {k l : Word} (h : k &&& l = 0#32) (old new : Word) :
    mergeBits old new k &&& l = old &&& l := by
  apply BitVec.eq_of_getLsbD_eq
  intro i _
  have hbit : (k.getLsbD i && l.getLsbD i) = false := by rw [← BitVec.getLsbD_and, h, BitVec.getLsbD_zero]
  simp only [BitVec.getLsbD_and, mergeBits_getLsbD]
  cases hk : k.getLsbD i <;> simp_all

/-- A multiplier operation and an ALU operation in one instruction: the effect of the first, then that of the second, each the
one it has alone. -/
theorem parallel_of_views {x y : Effect} {rms ras : List RegNum} (hx : x.mask = mulMask) (hy : y.mask = aluMask)
    (hacc : ∀ bg, y.accs bg = none) (hras : ∀ n, (y.regs n).isSome = true ↔ n ∈ ras)
    (ht : viewOf t e = y.on (x.on (viewOf s e))) (hm : viewOf m e = x.on (viewOf s e))
    (ha : viewOf a e = y.on (viewOf s e)) : Parallel t m a e rms ras := by
  simp only [viewOf, Effect.on, ElemView.mk.injEq, hx, hy, hacc] at ht hm ha
  obtain ⟨htr, htm, htf, hts⟩ := ht
  obtain ⟨hmr, hmm, hmf, hms⟩ := hm
  obtain ⟨har, -, haf, has⟩ := ha
  constructor
  · intro n hn
    obtain ⟨v, hv⟩ := Option.isSome_iff_exists.mp ((hras n).mpr hn)
    simp only [htr, har, hv, Option.getD_some]
  · intro n _ hn
    have hv : y.regs n = none := by rwa [← Option.not_isSome_iff_eq_none, hras]
    simp only [htr, hmr, hv, Option.getD_none]
  · intro bg
    simp only [htm, hmm, Option.getD_none]
  · rw [htf, haf, mergeBits_and_mask, mergeBits_and_mask]
  · rw [htf, hmf, mergeBits_and_disjoint (by decide)]
  · rw [hts, hms, has]
    apply BitVec.eq_of_getLsbD_eq
    intro i _
    simp only [BitVec.getLsbD_or]
    cases (s.stky e).val.getLsbD i <;> simp

/-! ## Dual add and subtract (R700 to R702) -/

/-- The flags of both are the OR where both are fixed-point, or both floating-point. -/
theorem AluFlags.or_word {f g : AluFlags} (h : f.af = g.af) : (f.or g).word = f.word ||| g.word := by
  apply BitVec.eq_of_getLsbD_eq
  intro i _
  simp only [BitVec.getLsbD_or, AluFlags.word_getLsbD, AluFlags.or, h]
  grind

/-- A sum and a difference in one instruction. -/
theorem dual_of_views {ra rs : RegNum} {x d : AluOut} {t a b : State} (hne : ra ≠ rs) (haf : x.f.af = d.f.af)
    (ht : viewOf t e = (dualEffect ra rs x d).on (viewOf s e))
    (ha : viewOf a e = (aluEffect (single ra x.r) x.f).on (viewOf s e))
    (hb : viewOf b e = (aluEffect (single rs d.r) d.f).on (viewOf s e)) :
    t.reg e ra = a.reg e ra ∧ t.reg e rs = b.reg e rs ∧
      (t.astat e).val &&& aluMask = ((a.astat e).val ||| (b.astat e).val) &&& aluMask ∧
      (t.stky e).val = (a.stky e).val ||| (b.stky e).val := by
  simp only [viewOf, Effect.on, dualEffect, aluEffect, ElemView.mk.injEq] at ht ha hb
  obtain ⟨htr, -, htf, hts⟩ := ht
  obtain ⟨har, -, haf', has⟩ := ha
  obtain ⟨hbr, -, hbf, hbs⟩ := hb
  refine ⟨by simp [htr, har, single, hne], by simp [htr, hbr, single], ?_, ?_⟩
  · rw [htf, haf', hbf, AluFlags.or_word haf, BitVec.and_or_distrib_right]
    simp only [mergeBits_and_mask, BitVec.and_or_distrib_right]
  · rw [hts, has, hbs]
    apply BitVec.eq_of_getLsbD_eq
    intro i _
    simp only [AluFlags.or, BitVec.getLsbD_or]
    cases (s.stky e).val.getLsbD i <;> simp

/-- A dual add and subtract against the sum and the difference alone. -/
theorem gives_dual {i ia id : Instr} {c ca cd : Compute} {ra rs : RegNum} (x d : Elem → AluOut)
    (hi : exec i s = computeOnly c s) (hia : exec ia s = computeOnly ca s) (hid : exec id s = computeOnly cd s)
    (hwf : c.wellFormed = true ∧ ca.wellFormed = true ∧ cd.wellFormed = true) (hne : ra ≠ rs)
    (haf : ∀ e, (x e).f.af = (d e).f.af)
    (hc : ∀ e t, Machine.computeElem s e c t = putDual e ra rs (x e) (d e) t)
    (hca : ∀ e t, Machine.computeElem s e ca t = putAlu e ra (x e) t)
    (hcd : ∀ e t, Machine.computeElem s e cd t = putAlu e rs (d e) t) :
    ∃ a b, exec ia s = .next a ∧ exec id s = .next b ∧ gives i s fun t => onRunning s fun e =>
      t.reg e ra = a.reg e ra ∧ t.reg e rs = b.reg e rs ∧
        (t.astat e).val &&& aluMask = ((a.astat e).val ||| (b.astat e).val) &&& aluMask ∧
        (t.stky e).val = (a.stky e).val ||| (b.stky e).val := by
  obtain ⟨hwf, hwfa, hwfd⟩ := hwf
  obtain ⟨a, ha, hav⟩ := gives_view hia hwfa fun e t => (congrArg (viewOf · e) (hca e t)).trans (view_putAlu e ra (x e) t)
  obtain ⟨b, hb, hbv⟩ := gives_view hid hwfd fun e t => (congrArg (viewOf · e) (hcd e t)).trans (view_putAlu e rs (d e) t)
  obtain ⟨t, ht, htv⟩ := gives_view hi hwf fun e t =>
    (congrArg (viewOf · e) (hc e t)).trans (view_putDual e ra rs (x e) (d e) t)
  exact ⟨a, b, ha, hb, t, ht, dual_of_views hne (haf .x) htv.1 hav.1 hbv.1,
    fun hs => dual_of_views hne (haf .y) (htv.2 hs) (hav.2 hs) (hbv.2 hs)⟩

theorem FpOut.out_af (o : FpOut) : o.out.f.af = true := rfl

theorem addOut_af (x : AddOut) : (addOut x).f.af = false := rfl

/-- Settles O22: the effect of each is that of its halves (`dual_of_views`). -/
theorem dualAddSubtract : Obligations.DualAddSubtract := by
  unfold Obligations.DualAddSubtract
  intro s ra rs rx ry hne
  have hwf : (ra != rs) = true := by simpa using hne
  simp only [List.forall_mem_cons, List.not_mem_nil, IsEmpty.forall_iff, implies_true, and_true]
  exact ⟨gives_dual (ca := .fix2 .add ra rx ry) (cd := .fix2 .sub rs rx ry)
      (fun e => fix2 (aluMode s e) .add (s.reg32 e rx) (s.reg32 e ry))
      (fun e => fix2 (aluMode s e) .sub (s.reg32 e rx) (s.reg32 e ry)) rfl rfl rfl ⟨hwf, rfl, rfl⟩ hne
      (fun _ => (addOut_af _).trans (addOut_af _).symm) (fun _ _ => rfl) (fun _ _ => rfl) (fun _ _ => rfl),
    gives_dual (ca := .flt2 .add ra rx ry) (cd := .flt2 .sub rs rx ry)
      (fun e => flt2 (aluMode s e) .add (s.reg e rx) (s.reg e ry))
      (fun e => flt2 (aluMode s e) .sub (s.reg e rx) (s.reg e ry)) rfl rfl rfl ⟨hwf, rfl, rfl⟩ hne
      (fun _ => (FpOut.out_af _).trans (FpOut.out_af _).symm) (fun _ _ => rfl) (fun _ _ => rfl) (fun _ _ => rfl)⟩

/-! ## A multiplier operation with an ALU operation (R704 to R711) -/

/-- The compute is a multiplier operation on each element, of the state `s` before the instruction. -/
def IsMultiply (s : State) (c : Compute) : Prop :=
  c.wellFormed = true ∧ ∃ x : Elem → Effect, (∀ e, (x e).mask = mulMask) ∧
    ∀ e t, viewOf (Machine.computeElem s e c t) e = (x e).on (viewOf t e)

/-- The compute is an ALU operation on each element, which writes the data registers `ras`. -/
def IsAlu (s : State) (c : Compute) (ras : List RegNum) : Prop :=
  c.wellFormed = true ∧ ∃ y : Elem → Effect,
    (∀ e, (y e).mask = aluMask ∧ (∀ bg, (y e).accs bg = none) ∧ ∀ n, ((y e).regs n).isSome = true ↔ n ∈ ras) ∧
    ∀ e t, viewOf (Machine.computeElem s e c t) e = (y e).on (viewOf t e)

theorem isMultiply_mulReg (s : State) (op : MulRegOp) (md : MulMod) (n x y : RegNum) : IsMultiply s (.mulReg op md n x y) :=
  ⟨rfl, _, fun _ => rfl, fun e t => view_mulReg e n _ _ t⟩

theorem isMultiply_mulAcc (s : State) (op : MulAccOp) (md : MulMod) (x y : RegNum) : IsMultiply s (.mulAcc op md x y) := by
  refine ⟨rfl, ?_⟩
  cases op <;> exact ⟨_, fun _ => rfl, fun e t => view_mulAcc e _ _ _ t⟩

theorem isMultiply_fmul (s : State) (n x y : RegNum) : IsMultiply s (.fmul n x y) :=
  ⟨rfl, _, fun _ => rfl, fun e t => view_mulReg e n _ _ t⟩

theorem single_isSome {α β : Type} [DecidableEq α] (n k : α) (v : β) : (single n v k).isSome = true ↔ k ∈ [n] := by
  unfold single
  split <;> simp [*]

/-- An operation that leaves one result and its flags. -/
theorem isAlu_of_putAlu {c : Compute} {n : RegNum} {o : Elem → AluOut} (hwf : c.wellFormed = true)
    (hc : ∀ e t, Machine.computeElem s e c t = putAlu e n (o e) t) : IsAlu s c [n] :=
  ⟨hwf, fun e => aluEffect (single n (o e).r) (o e).f, fun e => ⟨rfl, fun _ => rfl, fun k => single_isSome n k _⟩,
    fun e t => by rw [hc, view_putAlu]⟩

/-- A dual add and subtract. -/
theorem isAlu_of_putDual {c : Compute} {ra rs : RegNum} {x d : Elem → AluOut} (hwf : c.wellFormed = true)
    (hc : ∀ e t, Machine.computeElem s e c t = putDual e ra rs (x e) (d e) t) : IsAlu s c [ra, rs] :=
  ⟨hwf, fun e => dualEffect ra rs (x e) (d e), fun e => ⟨rfl, fun _ => rfl, fun k => by
    simp only [dualEffect, aluEffect, Option.isSome_or, Bool.or_eq_true, single_isSome, List.mem_cons, List.not_mem_nil,
      or_false]
    exact or_comm⟩, fun e t => by rw [hc, view_putDual]⟩

/-- An instruction that does a multiplier operation and then an ALU operation on each element. -/
theorem gives_parallel {i im ia : Instr} {c cm ca : Compute} {ras : List RegNum} (rms : List RegNum)
    (hm : IsMultiply s cm) (ha : IsAlu s ca ras) (hwf : c.wellFormed = true)
    (hc : ∀ e t, Machine.computeElem s e c t = Machine.computeElem s e ca (Machine.computeElem s e cm t))
    (hi : exec i s = computeOnly c s) (him : exec im s = computeOnly cm s) (hia : exec ia s = computeOnly ca s) :
    ∃ m a, exec im s = .next m ∧ exec ia s = .next a ∧
      gives i s fun t => onRunning s fun e => Parallel t m a e rms ras := by
  obtain ⟨hwfm, x, hx, hcm⟩ := hm
  obtain ⟨hwfa, y, hy, hca⟩ := ha
  have hboth (e : Elem) (t : State) : viewOf (Machine.computeElem s e c t) e = (y e).on ((x e).on (viewOf t e)) := by
    rw [hc, hca, hcm]
  have hpar {t m a : State} (e : Elem) (ht : viewOf t e = (y e).on ((x e).on (viewOf s e)))
      (hm : viewOf m e = (x e).on (viewOf s e)) (ha : viewOf a e = (y e).on (viewOf s e)) : Parallel t m a e rms ras := by
    obtain ⟨hmask, haccs, hregs⟩ := hy e
    exact parallel_of_views (hx e) hmask haccs hregs ht hm ha
  obtain ⟨m, hm, hmv⟩ := gives_view him hwfm hcm
  obtain ⟨a, ha, hav⟩ := gives_view hia hwfa hca
  obtain ⟨t, ht, htv⟩ := gives_view (f := fun e v => (y e).on ((x e).on v)) hi hwf hboth
  exact ⟨m, a, hm, ha, t, ht, hpar .x htv.1 hmv.1 hav.1, fun hs => hpar .y (htv.2 hs) (hmv.2 hs) (hav.2 hs)⟩

/-- With the multiplier's result in a data register. -/
theorem gives_mulAluReg {i im ia : Instr} (op : ParMul) (al : ParOp) {rm ra : RegNum} {xm ym xa ya : BitVec 2}
    (hi : exec i s = computeOnly (.mulAluReg op al rm ra xm ym xa ya) s)
    (him : exec im s = computeOnly (.mulReg (parMulReg op) .ssfr rm (mulX xm) (mulY ym)) s)
    (hia : exec ia s = computeOnly (.fix2 (parFix al) ra (aluX xa) (aluY ya)) s) :
    ∃ m a, exec im s = .next m ∧ exec ia s = .next a ∧
      gives i s fun t => onRunning s fun e => Parallel t m a e [rm] [ra] :=
  gives_parallel [rm] (isMultiply_mulReg ..) (isAlu_of_putAlu rfl fun _ _ => rfl) rfl (fun _ _ => rfl) hi him hia

/-- With the multiplier's result in MRF. -/
theorem gives_mulAluAcc {i im ia : Instr} (sub : Bool) (al : ParOp) {ra : RegNum} {xm ym xa ya : BitVec 2}
    (rms : List RegNum) (hi : exec i s = computeOnly (.mulAluAcc sub al ra xm ym xa ya) s)
    (him : exec im s = computeOnly (.mulAcc (if sub then .subF else .addF) .ssf (mulX xm) (mulY ym)) s)
    (hia : exec ia s = computeOnly (.fix2 (parFix al) ra (aluX xa) (aluY ya)) s) :
    ∃ m a, exec im s = .next m ∧ exec ia s = .next a ∧
      gives i s fun t => onRunning s fun e => Parallel t m a e rms [ra] :=
  gives_parallel rms (isMultiply_mulAcc ..) (isAlu_of_putAlu rfl fun _ _ => rfl) rfl (fun _ _ => rfl) hi him hia

/-- Settles O23: each half has the effect that it has alone (`gives_parallel`). -/
theorem fixedMultifunction : Obligations.FixedMultifunction := by
  unfold Obligations.FixedMultifunction
  intro s rs rm ra xm ym xa ya mx my ax ay
  simp only [List.forall_mem_cons, List.not_mem_nil, IsEmpty.forall_iff, implies_true, and_true]
  refine ⟨⟨gives_mulAluReg .mul .add rfl rfl rfl, gives_mulAluReg .mul .sub rfl rfl rfl,
    gives_mulAluReg .mul .avg rfl rfl rfl, gives_mulAluAcc false .add _ rfl rfl rfl,
    gives_mulAluAcc false .sub _ rfl rfl rfl, gives_mulAluAcc false .avg _ rfl rfl rfl,
    gives_mulAluReg .add .add rfl rfl rfl, gives_mulAluReg .add .sub rfl rfl rfl,
    gives_mulAluReg .add .avg rfl rfl rfl, gives_mulAluAcc true .add _ rfl rfl rfl,
    gives_mulAluAcc true .sub _ rfl rfl rfl, gives_mulAluAcc true .avg _ rfl rfl rfl,
    gives_mulAluReg .sub .add rfl rfl rfl, gives_mulAluReg .sub .sub rfl rfl rfl,
    gives_mulAluReg .sub .avg rfl rfl rfl⟩, fun hne => ?_⟩
  have hwf : (ra != rs) = true := by simpa using hne
  exact gives_parallel (c := .mulDualFix rs rm ra xm ym xa ya) [rm] (isMultiply_mulReg s .mul .ssfr rm (mulX xm) (mulY ym))
    (isAlu_of_putDual (c := .dualFix ra rs (aluX xa) (aluY ya)) hwf fun _ _ => rfl) hwf (fun _ _ => rfl) rfl rfl rfl

/-- A floating-point multiply with an ALU operation of two operands. -/
theorem gives_fmulAlu {i ia : Instr} (al : FParOp) {rm ra : RegNum} {xm ym xa ya : BitVec 2}
    (hi : exec i s = computeOnly (.fmulAlu al rm ra xm ym xa ya) s)
    (hia : exec ia s = computeOnly (.flt2 (fparFlt al) ra (aluX xa) (aluY ya)) s) :
    ∃ m a, exec (.fMul rm (mulX xm) (mulY ym)) s = .next m ∧ exec ia s = .next a ∧
      gives i s fun t => onRunning s fun e => Parallel t m a e [rm] [ra] :=
  gives_parallel [rm] (isMultiply_fmul ..) (isAlu_of_putAlu rfl fun _ _ => rfl) rfl (fun _ _ => rfl) hi rfl hia

/-- Settles O24: as for fixed point. -/
theorem floatMultifunction : Obligations.FloatMultifunction := by
  unfold Obligations.FloatMultifunction
  intro s rs rm ra xm ym xa ya mx my ax ay
  simp only [List.forall_mem_cons, List.not_mem_nil, IsEmpty.forall_iff, implies_true, and_true]
  have habs := gives_parallel (i := .fMulAbs rm ra xm ym xa) (ia := .fAbs ra ax) [rm]
    (isMultiply_fmul s rm (mulX xm) (mulY ym)) (isAlu_of_putAlu (c := .flt1 .abs ra (aluX xa)) rfl fun _ _ => rfl) rfl
    (c := .fmulAbs rm ra xm ym xa) (im := .fMul rm mx my) (fun _ _ => rfl) rfl rfl rfl
  refine ⟨⟨gives_fmulAlu .add rfl rfl, gives_fmulAlu .sub rfl rfl, gives_fmulAlu .floatBy rfl rfl,
    gives_fmulAlu .fixBy rfl rfl, gives_fmulAlu .avg rfl rfl, habs, gives_fmulAlu .max rfl rfl,
    gives_fmulAlu .min rfl rfl⟩, fun hne => ?_⟩
  have hwf : (ra != rs) = true := by simpa using hne
  exact gives_parallel (c := .mulDualFlt rs rm ra xm ym xa ya) [rm] (isMultiply_fmul s rm (mulX xm) (mulY ym))
    (isAlu_of_putDual (c := .dualFlt ra rs (aluX xa) (aluY ya)) hwf fun _ _ => rfl) hwf (fun _ _ => rfl) rfl rfl rfl

end Sys2Proof.Safety
end

section
/-! What a transfer between memory and a register adds to the notes of its instruction (O55, O56): the sticky bits of illegal
accesses and of wraps, the events asked for, and the accesses seen on the buses; and that it is made where `Served` says so. -/

namespace Sys2Proof.Machine

open Sys2Proof.Safety

variable {s t u v : State}

/-! ## Notes -/

/-- What a part of an instruction adds: bits of STKYx, events, and accesses on the buses. -/
structure Notes where
  sticky : Word
  events : BitVec 42
  accesses : List DataAccess

def Notes.nothing : Notes := ⟨0, 0, []⟩

/-- The notes of one part, then those of another. -/
def Notes.both (x y : Notes) : Notes := ⟨x.sticky ||| y.sticky, x.events ||| y.events, x.accesses ++ y.accesses⟩

/-- From `t` to `t'` the notes `x` are added. Of STKYx the bits below 10 are the units' own. -/
structure Adds (x : Notes) (t t' : State) : Prop where
  sticky : ∀ b, 10 ≤ b → t'.sys.stkyx.val.getLsbD b = (t.sys.stkyx.val.getLsbD b || x.sticky.getLsbD b)
  events : t'.scratch.events = t.scratch.events ||| x.events
  accesses : t'.scratch.accesses = t.scratch.accesses ++ x.accesses

@[simp] theorem Notes.both_nothing (x : Notes) : x.both .nothing = x := by simp [both, nothing]

@[simp] theorem Notes.nothing_both (x : Notes) : Notes.nothing.both x = x := by simp [both, nothing]

theorem Adds.trans {x y : Notes} (h : Adds x s t) (k : Adds y t u) : Adds (x.both y) s u where
  sticky b hb := by rw [k.sticky b hb, h.sticky b hb, Notes.both, BitVec.getLsbD_or, Bool.or_assoc]
  events := by rw [k.events, h.events, Notes.both, BitVec.or_assoc]
  accesses := by rw [k.accesses, h.accesses, Notes.both, List.append_assoc]

/-- A part that touches neither STKYx nor the notes. -/
theorem Adds.of_eq (hsys : t.sys.stkyx.val = s.sys.stkyx.val) (hev : t.scratch.events = s.scratch.events)
    (hacc : t.scratch.accesses = s.scratch.accesses) : Adds .nothing s t where
  sticky b _ := by simp [hsys, Notes.nothing]
  events := by simp [hev, Notes.nothing]
  accesses := by simp [hacc, Notes.nothing]

theorem Adds.refl (s : State) : Adds .nothing s s := .of_eq rfl rfl rfl

/-- A computation that answers, and adds the notes `x` to `t`. -/
def Makes (x : Notes) (t : State) (r : Res State) : Prop := ∃ t', r = .next t' ∧ Adds x t t'

theorem Makes.next {x : Notes} (h : Adds x s t) : Makes x s (.next t) := ⟨t, rfl, h⟩

theorem Makes.refl (s : State) : Makes .nothing s (.next s) := .next (.refl s)

theorem Makes.bind {x y : Notes} {r : Res State} {f : State → Res State} (h : Makes x s r)
    (hf : ∀ t, Adds x s t → Makes y t (f t)) : Makes (x.both y) s (Res.bind r f) := by
  obtain ⟨t, rfl, ht⟩ := h
  obtain ⟨u, hu, hadd⟩ := hf t ht
  exact ⟨u, hu, ht.trans hadd⟩

/-- A part before which nothing is noted. -/
theorem Makes.after_nothing {x : Notes} {r : Res State} {f : State → Res State} (h : Makes .nothing s r)
    (hf : ∀ t, Makes x t (f t)) : Makes x s (Res.bind r f) :=
  Notes.nothing_both x ▸ h.bind fun t _ => hf t

/-- A part after which nothing is noted. -/
theorem Makes.then_nothing {x : Notes} {r : Res State} {f : State → Res State} (h : Makes x s r)
    (hf : ∀ t, Makes .nothing t (f t)) : Makes x s (Res.bind r f) :=
  Notes.both_nothing x ▸ h.bind fun t _ => hf t

theorem Makes.map {x y : Notes} {r : Res State} {f : State → State} (h : Makes x s r) (hf : ∀ t, Adds y t (f t)) :
    Makes (x.both y) s (Res.map f r) := h.bind fun t _ => .next (hf t)

theorem Makes.ite {x y : Notes} {c : Bool} {r r' : Res State} (h : c = true → Makes x s r) (h' : c = false → Makes y s r') :
    Makes (if c then x else y) s (if c then r else r') := by
  cases c with
  | true => exact h rfl
  | false => exact h' rfl

/-- A part that is made or not, and adds nothing. -/
theorem Makes.ite_nothing {c : Bool} {r r' : Res State} (h : Makes .nothing s r) (h' : Makes .nothing s r') :
    Makes .nothing s (if c then r else r') := by
  cases c with
  | true => exact h
  | false => exact h'

/-! ## Registers -/

/-- An explicit write of STKYx is pending until the end of the step. -/
theorem writeSReg_adds (x : SReg) (v : Word) (t : State) : Adds .nothing t (writeSReg x v t) := by
  cases x <;> exact .of_eq rfl rfl rfl

theorem setReg_adds (t : State) (e : Elem) (n : RegNum) (v : Ext) : Adds .nothing t (t.setReg e n v) :=
  .of_eq (by rw [State.setReg_sys]) (by rw [State.setReg_scratch]) (by rw [State.setReg_scratch])

theorem setDagOf_adds (t : State) (n : RegNum) (d : Dag) : Adds .nothing t (t.setDagOf n d) := by
  rw [State.setDagOf_eq]
  exact .of_eq rfl rfl rfl

theorem setLaddr_adds (t : State) (v : Word) : Adds .nothing t (t.setLaddr v) := by
  unfold State.setLaddr
  split <;> exact .of_eq rfl rfl rfl

theorem setCurlcntr_adds (t : State) (v : Word) : Adds .nothing t (t.setCurlcntr v).syncLce := by
  unfold State.setCurlcntr
  split <;> exact .of_eq rfl rfl rfl

theorem writePcstk_adds (v : Word) : Res.Yields (Adds .nothing t) (writePcstk v t) := fun t' h => by
  unfold writePcstk at h
  obtain ⟨d, -, h⟩ := Res.bind_eq_next.mp h
  split at h <;> cases h <;> exact .of_eq rfl rfl rfl

/-- A write of a universal register adds no note. -/
theorem writeUReg_adds (u : UReg) (v : Word) : Res.Yields (Adds .nothing t) (writeUReg u v t) := fun t' h => by
  cases u <;> simp only [writeUReg] at h
  case r | s => cases h; exact setReg_adds t _ _ _
  case i | m | l | b => cases h; exact setDagOf_adds t _ _
  case pcstk => exact writePcstk_adds v t' h
  case pcstkp => split at h <;> cases h <;> exact .of_eq rfl rfl rfl
  case laddr => split at h <;> cases h; exact setLaddr_adds t v
  case curlcntr => split at h <;> cases h; exact setCurlcntr_adds t v
  case lcntr => cases h; split <;> exact .of_eq rfl rfl rfl
  case sys x => cases h; exact writeSReg_adds x v t
  all_goals cases h; exact .of_eq rfl rfl rfl

theorem writeUReg_makes {u : UReg} (h : usable t u) (v : Word) : Makes .nothing t (writeUReg u v t) := by
  obtain ⟨t', ht⟩ := writeUReg_usable h v
  exact ⟨t', ht, writeUReg_adds u v t' ht⟩

/-- A load of a usable register is made, whatever its width. -/
theorem loadUReg_makes {u : UReg} (h : usable t u) (d : LoadData) : Makes .nothing t (loadUReg u d t) := by
  cases d with
  | v32 v =>
    unfold loadUReg
    dsimp only
    split
    · exact writeUReg_makes (by simp [usable]) v
    · exact writeUReg_makes h v
  | v48 v => exact .next (.of_eq rfl rfl rfl)
  | v40 v =>
    unfold loadUReg
    dsimp only
    split
    · exact .next (setReg_adds ..)
    · exact .refl t
  | v64 lo hi =>
    unfold loadUReg
    dsimp only
    split
    · exact .next (.of_eq rfl rfl rfl)
    · refine (writeUReg_makes h lo).then_nothing fun t' => ?_
      split
      · next n hn => exact writeUReg_makes (neighbour_usable hn t') hi
      · exact .refl t'

/-! ## Accesses -/

theorem notePm_adds (pm : Bool) (t : State) : Adds .nothing t (notePm pm t) := .of_eq rfl rfl rfl

theorem performStore_adds (addr : Word) (a : Access) (d : StoreData) (t : State) :
    Adds .nothing t (performStore addr a d t) := by
  rcases performStore_eq addr a d t with ⟨-, h⟩ | ⟨-, h⟩ <;> rw [h]
  · rw [writeIop_eq]
    exact .of_eq rfl rfl rfl
  · exact .of_eq rfl rfl rfl

/-- An access on a bus. -/
def onBus (pm write : Bool) (addr : Word) : Notes := ⟨0, 0, [⟨pm, write, addr⟩]⟩

theorem noteBus_adds (pm write : Bool) (addr : Word) (t : State) : Adds (onBus pm write addr) t (noteBus pm write addr t) := by
  have h : Adds (onBus pm write addr) t
      (notePm pm (t.setScratch { t.scratch with accesses := t.scratch.accesses ++ [⟨pm, write, addr⟩] })) :=
    ⟨fun b _ => by rw [show (onBus pm write addr).sticky = 0#32 from rfl, BitVec.getLsbD_zero, Bool.or_false]; rfl,
      BitVec.or_zero.symm, rfl⟩
  unfold noteBus
  dsimp only
  split
  · refine Notes.both_nothing (onBus pm write addr) ▸ h.trans ?_
    rw [noteIopRead_eq]
    exact .of_eq rfl rfl rfl
  · exact h

/-- What is noted of an access of IOP space under IIRAE, or of a forced long word at an odd address under U64MAE (R353). -/
def illegal (s : State) (lw : Bool) (addr : Word) : Notes :=
  let a := addr.toNat
  if a < 0x40000 then (if s.sys.mode2.val.getLsbD 20 then ⟨0x00080000, 4, []⟩ else .nothing)
  else if 0x80000 ≤ a ∧ a < 0x100000 ∧ lw ∧ a % 2 = 1 then
    (if s.sys.mode2.val.getLsbD 21 then ⟨0x00100000, 4, []⟩ else .nothing)
  else .nothing

theorem stickX_raise_adds (bits : Word) (p : Nat) (t : State) : Adds ⟨bits, 1#42 <<< p, []⟩ t ((t.stickX bits).raise p) :=
  ⟨fun _ _ => BitVec.getLsbD_or, rfl, (List.append_nil _).symm⟩

theorem noteIllegal_adds (s : State) (lw : Bool) (addr : Word) (t : State) :
    Adds (illegal s lw addr) t (noteIllegal s lw addr t) := by
  unfold noteIllegal illegal
  dsimp only
  split
  · split
    · exact stickX_raise_adds _ 2 t
    · exact .refl t
  · split
    · split
      · exact stickX_raise_adds _ 2 t
      · exact .refl t
    · exact .refl t

/-- What an access on a bus adds; `made` is that it is the explicit transfer. -/
def accessNotes (s : State) (pm write lw : Bool) (addr : Word) (made : Bool) : Notes :=
  (onBus pm write addr).both (if made then illegal s lw addr else .nothing)

theorem accessNotes_second (s : State) (pm write lw : Bool) (addr : Word) :
    accessNotes s pm write lw addr false = onBus pm write addr := Notes.both_nothing _

theorem noteAccess_adds (s : State) (pm write lw : Bool) (addr : Word) (t : State) :
    Adds (accessNotes s pm write lw addr true) t (noteAccess s pm write lw addr t) :=
  (noteBus_adds pm write addr t).trans (noteIllegal_adds s lw addr _)

/-! ## Transfers -/

/-- The access is one that exists, in SIMD mode with the one beside it, and no conditional store of a pair to IOP space. -/
structure Served (s : State) (x : Transfer) (k : RegClass) (pair write : Bool) : Prop where
  class_next : ∃ a, classify s x.addr k x.lw x.dual = .next a
  beside_next : pair = true → s.simd = true → ∃ o, implicitAccess s x.addr k x.lw = .next o
  pairs : write = true → pair = true → pairToIop s x = false

theorem implicitly_makes {x : Transfer} {k : RegClass} {f : Access → State → Res State}
    (h : s.simd = true → ∃ o, implicitAccess s x.addr k x.lw = .next o) (hf : ∀ a t, Makes .nothing t (f a t)) (go : Bool)
    (t : State) : Makes .nothing t (implicitly s go x k f t) := by
  unfold implicitly
  split
  · next hg =>
    obtain ⟨o, ho⟩ := h (by simp at hg; exact hg.1)
    rw [ho, Res.bind_next]
    cases o with
    | none => exact .refl t
    | some a => exact (hf a t).then_nothing fun t' => .next (notePm_adds x.pm t')
  · exact .refl t

theorem accessStore_makes {x : Transfer} {k : RegClass} {dc : Option StoreData} (h : Served s x k dc.isSome true) (g : Gates)
    (d : StoreData) (t : State) :
    Makes (if g.cx then accessNotes s x.pm true x.lw x.addr true else .nothing) t (accessStore s g x k d dc t) := by
  have hpair : (g.any && dc.isSome && pairToIop s x) = false := by
    cases hd : dc.isSome with
    | false => simp
    | true => simp [h.pairs rfl hd]
  obtain ⟨a, ha⟩ := h.class_next
  unfold accessStore
  rw [hpair, if_neg Bool.false_ne_true, ha]
  refine (Makes.ite (fun _ => .next ?_) fun _ => .refl t).then_nothing fun t' => ?_
  · exact Notes.nothing_both (accessNotes ..) ▸ (performStore_adds x.addr a d t).trans (noteAccess_adds ..)
  · cases dc with
    | none => exact .refl t'
    | some dc => exact implicitly_makes (h.beside_next rfl) (fun a t => .next (performStore_adds ..)) g.cy t'

/-- The access appears on the bus: the explicit transfer is performed, or the second element alone takes a broadcast load. -/
def onBusWhen (s : State) (g : Gates) (x : Transfer) (write : Bool) (u : UReg) : Bool :=
  performed write u g || (!write && u.dreg.isSome && g.cy && broadcasts s x)

/-- What the transfer of a universal register adds. -/
def transferNotes (s : State) (g : Gates) (x : Transfer) (write : Bool) (u : UReg) : Notes :=
  if onBusWhen s g x write u then accessNotes s x.pm write x.lw x.addr (performed write u g) else .nothing

theorem storeUReg_makes {g : Gates} {x : Transfer} {u : UReg} (h : Served s x u.cls u.complement.isSome true)
    (hs : usable s u) (t : State) : Makes (transferNotes s g x true u) t (storeUReg s g x u t) := by
  obtain ⟨d, hd⟩ := storeData_usable hs
  have hnotes : transferNotes s g x true u = if g.cx then accessNotes s x.pm true x.lw x.addr true else .nothing := by
    unfold transferNotes onBusWhen performed
    cases g.cx <;> rfl
  rw [hnotes]
  unfold storeUReg
  cases hc : u.complement with
  | some c =>
    obtain ⟨dc, hdc⟩ := storeData_usable (complement_usable hc s)
    rw [hc] at h
    dsimp only
    rw [hd, hdc, Res.bind_next, Res.bind_next]
    exact accessStore_makes (dc := some dc) h g d t
  | none =>
    rw [hc] at h
    dsimp only
    rw [hd, Res.bind_next]
    have hstore := accessStore_makes (dc := none) h g d t
    cases hcx : g.cx with
    | true => rw [hcx] at hstore; exact hstore
    | false => exact .refl t

theorem loadTransfer_makes {g : Gates} {x : Transfer} {u : UReg} (h : Served s x u.cls u.complement.isSome false)
    (ht : usable t u) : Makes (transferNotes s g x false u) t (loadTransfer s g x u t) := by
  obtain ⟨a, ha⟩ := h.class_next
  have hseen : onBusWhen s g x false u =
      ((if u.complement.isSome then g.cx else g.any) || (u.dreg.isSome && broadcasts s x && g.cy)) := by
    unfold onBusWhen performed
    cases u.dreg.isSome <;> cases broadcasts s x <;> cases g.cy <;> rfl
  have hmade : performed false u g = if u.complement.isSome then g.cx else g.any := by unfold performed; rfl
  unfold transferNotes
  rw [hseen, hmade]
  unfold loadTransfer
  dsimp only
  generalize (if u.complement.isSome then g.cx else g.any) = ex
  generalize (u.dreg.isSome && broadcasts s x) = both
  refine Makes.then_nothing (Makes.ite (fun _ => ?_) fun _ => .refl t) fun t' => ?_
  · rw [ha, Res.bind_next]
    refine (Makes.ite_nothing (loadUReg_makes ht _) (.refl t)).after_nothing fun t1 => ?_
    refine Makes.after_nothing (f := fun t => .next _) ?_ fun t2 => .next ?_
    · split
      · next c hc => exact .ite_nothing (loadUReg_makes (complement_usable hc t1) _) (.refl t1)
      · exact .refl t1
    · cases ex with
      | true => exact noteAccess_adds ..
      | false =>
        rw [accessNotes_second]
        exact noteBus_adds ..
  · split
    · next c hc =>
      exact .ite_nothing (.refl t')
        (implicitly_makes (h.beside_next (by rw [hc]; rfl)) (fun a t => loadUReg_makes (complement_usable hc t) _) g.cy t')
    · exact .refl t'

/-- The transfer of a register that can be read and written is made, and adds its notes. -/
theorem access_makes {g : Gates} {x : Transfer} {write : Bool} {u : UReg} (h : Served s x u.cls u.complement.isSome write)
    (hs : usable s u) (ht : usable t u) : Makes (transferNotes s g x write u) t (access s g x write u t) := by
  unfold access
  cases write with
  | true => exact storeUReg_makes h hs t
  | false => exact loadTransfer_makes h ht

end Sys2Proof.Machine
end

section
/-! Where instructions and steps stop (O60), the spec leaving the case undefined. -/

namespace Sys2Proof.Machine

open Sys2Proof.Safety

variable {s t u : State} {i : Instr} {len : Nat} {addr : Word} {k : RegClass} {r : RegNum} {lw dual : Bool}

/-! ## Accesses that exist, and others -/

theorem served_normalWord {x : Transfer} {pair : Bool} (h : normalWord s x.addr)
    (hy : s.simd = true → pair = true → normalWord s (x.addr + 1)) (hl : x.lw = false) (hk : k ≠ .px) (write : Bool) :
    Served s x k pair write where
  class_next := ⟨_, hl ▸ classify_normalWord h hk x.dual⟩
  beside_next hp hs := ⟨_, hl ▸ implicitAccess_normalWord h (hy hs hp) hk⟩
  pairs _ _ := by
    have h0 : ¬ x.addr.toNat < 0x40000 := by have := h.1; omega
    simp [pairToIop, h0]

theorem classify_iop_refused (h : addr.toNat < 0x40000) (hf : (lw || dual) = true) :
    classify s addr k lw dual = .refused .iopAccessForm := by
  unfold classify
  dsimp only
  rw [if_pos h, if_pos hf]

theorem classify_long_unmapped (h0 : 0x40000 ≤ addr.toNat) (h1 : addr.toNat < 0x80000)
    (hm : mappedSpan (4 * addr.toNat) 4 = false) : classify s addr k lw dual = .fault (.unmappedData addr) := by
  unfold classify
  dsimp only
  rw [if_neg (by omega), if_pos h1, hm]
  rfl

theorem classify_normal_unmapped (h0 : 0x80000 ≤ addr.toNat) (h1 : addr.toNat < 0x100000)
    (hm : mappedSpan (2 * addr.toNat) 2 = false) (hw : lw = true ∨ imdw s (2 * addr.toNat) = false) :
    classify s addr .dreg lw dual = .fault (.unmappedData addr) := by
  unfold classify
  dsimp only
  rw [if_neg (by omega), if_neg (by omega), if_pos h1, hm]
  cases lw with
  | true => rfl
  | false =>
    have hi : imdw s (2 * addr.toNat) = false := hw.resolve_left (by decide)
    rw [hi]
    rfl

theorem classify_short_unmapped (h0 : 0x100000 ≤ addr.toNat) (h1 : addr.toNat < 0x200000)
    (hm : cellMapped addr.toNat = false) : classify s addr .dreg false dual = .fault (.unmappedData addr) := by
  unfold classify
  dsimp only
  rw [if_neg (by omega), if_neg (by omega), if_neg (by omega), if_pos h1, hm]
  rfl

/-- A part without external memory has no cells from 0x200000 up. -/
theorem cellMapped_of_ge {c : Nat} (h : 0x200000 ≤ c) : cellMapped c = false := by
  have hi : cellInternal c = false := by simp [cellInternal]; omega
  rw [cellMapped, hi, cellExternal_eq_false, Bool.or_false]

theorem classify_external (h : 0x200000 ≤ addr.toNat) : classify s addr k lw dual = .fault (.unmappedData addr) := by
  have hm : mappedSpan (2 * addr.toNat) 2 = false := by
    rw [mappedSpan, cellMapped_of_ge (by omega), Bool.false_and, Bool.false_and]
  unfold classify
  dsimp only
  rw [if_neg (by omega), if_neg (by omega), if_neg (by omega), if_neg (by omega), hm]
  rfl

/-- An unconditional transfer of a data register begins with what the access is. -/
theorem access_dreg_classify {x : Transfer} (hc : x.conditional = false) (write : Bool) (n : RegNum) (t : State) :
    ∃ f, access s .open x write (.r n) t = Res.bind (classify s x.addr .dreg x.lw x.dual) f := by
  cases write with
  | true =>
    have hp : pairToIop s x = false := by simp [pairToIop, hc]
    change ∃ f, accessStore s .open x .dreg _ (some _) t = Res.bind _ f
    unfold accessStore
    rw [hp]
    exact ⟨_, Res.bind_assoc _ _ _⟩
  | false => exact ⟨_, Res.bind_assoc _ _ _⟩

theorem access_dreg_refused {x : Transfer} {e : Refusal} (hc : x.conditional = false)
    (h : classify s x.addr .dreg x.lw x.dual = .refused e) (write : Bool) (n : RegNum) (t : State) :
    access s .open x write (.r n) t = .refused e := by
  obtain ⟨f, hf⟩ := access_dreg_classify (s := s) hc write n t
  exact hf.trans (congrArg (Res.bind · f) h)

theorem memDirect14a_fault {e : Fault} (h : classify s addr .dreg lw false = .fault e) (pm write : Bool) (n : RegNum) :
    exec (.memDirect14a pm write lw (.r n) addr) s = .fault e := by
  change access s .open (directTransfer pm lw addr) write (.r n) s = _
  obtain ⟨f, hf⟩ := access_dreg_classify (s := s) (x := directTransfer pm lw addr) rfl write n s
  exact hf.trans (congrArg (Res.bind · f) h)

/-! ## Type 1 -/

/-- The address is one of IOP space, or of a word of memory that a type 1 instruction can move. -/
def DualReached (s : State) (a : Word) : Prop :=
  a.toNat < 0x40000 ∨ (normalWord s a ∧ (s.simd = true → normalWord s (a + 1)))

/-- Of the two transfers of type 1 one of IOP space is refused. -/
theorem dualAccess_iop (h : (postAddr s r).toNat < 0x40000) (pm write : Bool) (n : RegNum) (t : State) :
    access s .open (dualTransfer s pm r) write (.r n) t = .refused .iopAccessForm :=
  access_dreg_refused rfl (classify_iop_refused h rfl) write n t

/-- One of memory is made. -/
theorem dualAccess_memory (h : DualReached s (postAddr s r)) (hm : ¬ (postAddr s r).toNat < 0x40000) (pm write : Bool)
    (n : RegNum) (t : State) : ∃ t', access s .open (dualTransfer s pm r) write (.r n) t = .next t' := by
  obtain ⟨hn, hy⟩ := h.resolve_left hm
  have hx : Served s (dualTransfer s pm r) .dreg true write :=
    served_normalWord hn (fun hs _ => hy hs) rfl (by decide) write
  obtain ⟨t', ht, -⟩ := access_makes (t := t) (g := .open) (u := .r n) hx (by simp [usable]) (by simp [usable])
  exact ⟨t', ht⟩

/-- The first of the two transfers to reach IOP space stops the instruction. -/
theorem dualMove_iop {dmd pmd : Bool} {dmi dmm pmi pmm : DagNum} {dn pn : RegNum} {c : Compute} (hc : c.wellFormed = true)
    (hd : DualReached s (postAddr s (dagReg false dmi))) (hp : DualReached s (postAddr s (dagReg true pmi)))
    (h : (postAddr s (dagReg false dmi)).toNat < 0x40000 ∨ (postAddr s (dagReg true pmi)).toNat < 0x40000) :
    dualMove dmd dmi dmm pmd dn pmi pmm pn c s = .refused .iopAccessForm := by
  unfold dualMove
  dsimp only
  rw [doCompute_wellFormed hc, Res.bind_next]
  cases dmd with
  | true =>
    by_cases hda : (postAddr s (dagReg false dmi)).toNat < 0x40000
    · rw [if_pos rfl, dualAccess_iop hda]
      rfl
    · obtain ⟨t, ht⟩ := dualAccess_memory hd hda false true dn (onElems s .open (fun e => computeElem s e c) s)
      rw [if_pos rfl, ht, Res.bind_next, dualAccess_iop (h.resolve_left hda)]
      rfl
  | false =>
    rw [if_neg Bool.false_ne_true, Res.bind_next]
    by_cases hpa : (postAddr s (dagReg true pmi)).toNat < 0x40000
    · rw [dualAccess_iop hpa]
      rfl
    · obtain ⟨t, ht⟩ := dualAccess_memory hp hpa true pmd pn (onElems s .open (fun e => computeElem s e c) s)
      rw [ht, Res.bind_next, if_neg Bool.false_ne_true, dualAccess_iop (h.resolve_right hpa)]
      rfl

/-! ## Other instructions -/

/-- A load of a register of the DAG that makes the address. -/
theorem indexedMove_sameDag {g : Gates} {pm : Bool} {u : UReg} (hg : g.any = true) (h : sameDag pm u = true) (i : DagNum)
    (mod : Word) (post lw conditional : Bool) (c : Compute) :
    indexedMove s g pm i mod post lw false u conditional c = .refused .sameDagLoad := by
  unfold indexedMove
  rw [hg, h]
  rfl

theorem doLoop_refused {rel : Addr24} (h : (t.seq.pc + rel).toNat < (t.seq.pc + lengthAt t.seq.pc 3).toNat) (term : Term)
    (count : Word) : doLoop rel term count t = .refused .loopEndBeforeStart := by
  unfold doLoop
  exact if_pos h

/-- LCNTR can be written, and the PC is the same after. -/
theorem writeUReg_lcntr (v : Word) (s : State) : ∃ t, writeUReg .lcntr v s = .next t ∧ t.seq.pc = s.seq.pc :=
  ⟨_, rfl, by split <;> rfl⟩

/-- An operation field that is not assigned (R283). -/
theorem decodeGroup0_unassigned {x n : Nat} (h : x / 2 ^ 40 % 32 = n)
    (hn : n ∈ [3, 5, 0x15, 0x1A, 0x1B, 0x1C, 0x1D, 0x1E, 0x1F]) : decodeGroup0 x = none := by
  unfold decodeGroup0
  rw [h]
  fin_cases hn <;> rfl

theorem decode48_unassigned {w : BitVec 48} (h0 : w.extractLsb' 45 3 = 0)
    (hop : w.extractLsb' 40 5 ∈ [3#5, 5#5, 0x15#5, 0x1A#5, 0x1B#5, 0x1C#5, 0x1D#5, 0x1E#5, 0x1F#5]) : decode48 w = none := by
  have hhead : w.toNat / 2 ^ 45 = 0 := by
    have := congrArg BitVec.toNat h0
    simp [Nat.shiftRight_eq_div_pow] at this
    omega
  have hfield : w.toNat / 2 ^ 40 % 32 = (w.extractLsb' 40 5).toNat := by
    simp [Nat.shiftRight_eq_div_pow]
  have hmem : (w.extractLsb' 40 5).toNat ∈ [3, 5, 0x15, 0x1A, 0x1B, 0x1C, 0x1D, 0x1E, 0x1F] :=
    List.mem_map_of_mem (f := BitVec.toNat) hop
  unfold decode48 decodeWord48
  rw [hhead]
  exact decodeGroup0_unassigned hfield hmem

/-! ## Steps -/

/-- A branch that may not stand in the delay slot. -/
theorem step_branchInDelaySlot {d : Delayed} (h : executesFrom s i len u t) (hd : s.seq.db = some d)
    (hb : t.scratch.br ≠ none ∨ (t.scratch.dbReq ≠ none ∧ d.count = 1)) : step s = .refused .branchInDelaySlot := by
  obtain ⟨hr, hu, hf, he, ht⟩ := h
  have hdb : u.seq.db = some d := by rw [loopTests_same hu]; exact hd
  have hno : branchAllowed (some d) t = false := by
    unfold branchAllowed
    rcases hb with hb | ⟨hreq, hcount⟩
    · simp [hb]
    · simp [Option.isSome_iff_ne_none.mpr hreq, hcount]
  rw [step_of_tests hr hu hf he, ht, Res.bind_next]
  unfold advance
  rw [hdb, hno]
  rfl

/-- What is fetched after the loop tests, and whether it may be executed, goes by the state before them. -/
theorem runInstr_of_fetch (hu : Res.bind (loopTest 7 s) arithTest = .next u) (hf : fetch s.mem s.seq.pc = .next (i, len)) :
    runInstr s = if modifiedAt s.stale s.seq.pc len then .refused (.modifiedCode s.seq.pc)
      else if s.cacheHold && usesPm i then .refused .pmAccessAfterCacheChange
      else Res.bind (exec i u) fun t => advance u s.curlcntr len t := by
  have hsame := loopTests_same hu
  unfold runInstr
  rw [hu, Res.bind_next, show u.mem = s.mem by rw [hsame], show u.seq.pc = s.seq.pc by rw [hsame], hf, Res.bind_next]
  dsimp only
  rw [show u.stale = s.stale by rw [hsame], show u.cacheHold = s.cacheHold by rw [hsame]]

theorem step_modifiedCode (hr : running s) (hu : Res.bind (loopTest 7 s.takeInput) arithTest = .next u)
    (hf : fetch s.takeInput.mem s.seq.pc = .next (i, len)) (hm : modifiedAt s.takeInput.stale s.seq.pc len = true) :
    step s = .refused (.modifiedCode s.seq.pc) := by
  rw [step_of_running hr, runInstr_of_fetch hu hf, show s.takeInput.seq.pc = s.seq.pc from rfl, hm]
  rfl

theorem step_pmAfterCacheChange (hr : running s) (hu : Res.bind (loopTest 7 s.takeInput) arithTest = .next u)
    (hf : fetch s.takeInput.mem s.seq.pc = .next (i, len)) (hm : modifiedAt s.takeInput.stale s.seq.pc len = false)
    (hc : s.cacheHold = true) (hp : usesPm i = true) : step s = .refused .pmAccessAfterCacheChange := by
  rw [step_of_running hr, runInstr_of_fetch hu hf, show s.takeInput.seq.pc = s.seq.pc from rfl, hm,
    show s.takeInput.cacheHold = true from hc, hp]
  rfl

/-- Settles O60: each clause by the lemma about what stops. -/
theorem stops : Obligations.Stops := by
  unfold Obligations.Stops
  intro s
  refine ⟨?_, ?_, ?_, ?_, ?_, ?_, fun g d l n a h => memDirect14a_fault (classify_external h) g d n, ?_,
    fun w h0 hop => decode48_unassigned h0 hop, fun i len u t d h hd hb => step_branchInDelaySlot h hd hb,
    fun i len u hr hu hf hm => step_modifiedCode hr hu hf hm,
    fun i len u hr hu hf hm hc hp => step_pmAfterCacheChange hr hu hf hm hc hp⟩
  · intro r m x y a b c d
    have hwf (c : Compute) (h : c.wellFormed = false) : computeOnly c s = .refused .dualSameResult := by
      unfold computeOnly doCompute
      rw [h]
      rfl
    simp only [List.forall_mem_cons, List.not_mem_nil, IsEmpty.forall_iff, implies_true, and_true]
    refine ⟨hwf (.dualFix r r x y) ?_, hwf (.dualFlt r r x y) ?_, hwf (.mulDualFix r m r a b c d) ?_,
      hwf (.mulDualFlt r m r a b c d) ?_⟩ <;> simp [Compute.wellFormed]
  · intro post pm lw i m u data h
    simp only [List.forall_mem_cons, List.not_mem_nil, IsEmpty.forall_iff, implies_true, and_true]
    exact ⟨indexedMove_sameDag rfl h .., indexedMove_sameDag rfl h .., indexedMove_sameDag rfl h ..,
      indexedMove_sameDag rfl h ..⟩
  · intro lpu lpo spu spo ppu ppo fc hpush hpop
    exact if_pos (by rw [hpush, hpop]; rfl)
  · intro g d n a h
    exact access_dreg_refused (x := directTransfer g true a) rfl (classify_iop_refused h rfl) d n s
  · intro dmd pmd dmi dmm pmi pmm dn pn c da pa reached hc hd hp h
    simp only [List.forall_mem_cons, List.not_mem_nil, IsEmpty.forall_iff, implies_true, and_true]
    exact ⟨dualMove_iop hc hd hp h, dualMove_iop (c := .none) rfl hd hp h⟩
  · rintro g d l n a (⟨h0, h1, hm⟩ | ⟨h0, h1, hm, hw⟩ | ⟨h0, h1, hm, rfl⟩)
    · exact memDirect14a_fault (classify_long_unmapped h0 h1 hm) g d n
    · exact memDirect14a_fault (classify_normal_unmapped h0 h1 hm hw) g d n
    · exact memDirect14a_fault (classify_short_unmapped h0 h1 hm) g d n
  · intro term data u v rel hv h
    have hload (w : Word) (count : Word) :
        (Res.bind (writeUReg .lcntr w s) fun t => doLoop rel .lce count t) = .refused .loopEndBeforeStart := by
      obtain ⟨t, ht, hpc⟩ := writeUReg_lcntr w s
      rw [ht, Res.bind_next, doLoop_refused (hpc ▸ h)]
    simp only [List.forall_mem_cons, List.not_mem_nil, IsEmpty.forall_iff, implies_true, and_true]
    refine ⟨doLoop_refused h term _, hload _ _, ?_⟩
    change execDoUreg12a u rel s = _
    unfold execDoUreg12a
    rw [hv, Res.bind_next, hload]

end Sys2Proof.Machine
end

section
/-! Interrupt entries (O54): which interrupt is taken, and the entry as one change of the state (`State.entered`). -/

namespace Sys2Proof.Machine

open Sys2Proof.Safety

variable {s t u : State} {p q : Nat}

/-! ## Which interrupt is taken -/

/-- An interrupt is let in where all in service are of lower priority, under NESTM, or none is. -/
theorem allowed_iff (s : State) (p : Nat) :
    allowed s p = true ↔ s.mode1 12 = true ∧ maskOf s.sys.imask.eff s.sys.lirptl.eff p = true ∧
      ∀ r < 42, maskpOf s.sys.imaskp.eff s.sys.lirptl.eff r = true → s.mode1 11 = true ∧ p < r := by
  unfold allowed
  rw [Bool.and_eq_true, Bool.and_eq_true, and_assoc]
  refine and_congr_right fun _ => and_congr_right fun _ => ?_
  unfold inService
  cases h : (List.range 42).find? (maskpOf s.sys.imaskp.eff s.sys.lirptl.eff) with
  | none =>
    have hnone := List.find?_range_eq_none.mp h
    exact ⟨fun _ r hr hm => absurd hm (by simpa using hnone r hr), fun _ => rfl⟩
  | some k =>
    obtain ⟨hk, hmem, hleast⟩ := List.find?_range_eq_some.mp h
    dsimp only
    rw [Bool.and_eq_true, decide_eq_true_eq]
    refine ⟨fun ⟨hn, hp⟩ r _ hm => ⟨hn, Nat.lt_of_lt_of_le hp (Nat.le_of_not_lt fun hlt => ?_)⟩,
      fun hall => hall k (List.mem_range.mp hmem) hk⟩
    have hno := hleast r hlt
    simp [hm] at hno

/-- The interrupt can be taken now, priorities aside. -/
def irqReady (s : State) (q : Nat) : Prop :=
  2 ≤ q ∧ q < 42 ∧ q ≠ 7 ∧ latchOf s.sys.irptl.eff s.sys.lirptl.eff q = true ∧
    maskOf s.sys.imask.eff s.sys.lirptl.eff q = true ∧
    ∀ r < 42, maskpOf s.sys.imaskp.eff s.sys.lirptl.eff r = true → s.mode1 11 = true ∧ q < r

/-- The next interrupt is the first that can be taken. -/
theorem nextIrq_eq_some (s : State) (p : Nat) :
    nextIrq s = some p ↔ s.mode1 12 = true ∧ irqReady s p ∧ ∀ q < p, ¬ irqReady s q := by
  have htest (q : Nat) : (decide (2 ≤ q) && q != 7 && latchOf s.sys.irptl.eff s.sys.lirptl.eff q && allowed s q) = true ↔
      2 ≤ q ∧ q ≠ 7 ∧ latchOf s.sys.irptl.eff s.sys.lirptl.eff q = true ∧ allowed s q = true := by
    simp only [Bool.and_eq_true, decide_eq_true_eq, bne_iff_ne, and_assoc]
  unfold nextIrq
  rw [List.find?_range_eq_some, htest, allowed_iff, List.mem_range]
  constructor
  · rintro ⟨⟨h2, h7, hl, hi, hm, hr⟩, hp, hleast⟩
    refine ⟨hi, ⟨h2, hp, h7, hl, hm, hr⟩, fun q hq ⟨h2q, _, h7q, hlq, hmq, hrq⟩ => ?_⟩
    have hno := hleast q hq
    rw [Bool.not_eq_true', ← Bool.not_eq_true, htest, allowed_iff] at hno
    exact hno ⟨h2q, h7q, hlq, hi, hmq, hrq⟩
  · rintro ⟨hi, ⟨h2, hp, h7, hl, hm, hr⟩, hleast⟩
    refine ⟨⟨h2, h7, hl, hi, hm, hr⟩, hp, fun q hq => ?_⟩
    rw [Bool.not_eq_true', ← Bool.not_eq_true, htest, allowed_iff]
    rintro ⟨h2q, h7q, hlq, -, hmq, hrq⟩
    exact hleast q hq ⟨h2q, by omega, h7q, hlq, hmq, hrq⟩

theorem interruptNow_eq_some (s : State) (p : Nat) :
    interruptNow s = some p ↔ s.seq.db = none ∧ s.seq.irqHold = false ∧ nextIrq s = some p := by
  unfold interruptNow
  split
  · next h => simp [h]
  · next h => simpa [not_and] using fun hdb hh => absurd ⟨hdb, hh⟩ h

/-! ## Latches and mask pointers -/

/-- IMASKP with the bit of interrupt `p` set, where it has one there. -/
def markedBit (w : Word) (p : Nat) : Word := if inLirptl p then w else putBit w (latchBit p) true

/-- LIRPTL with the latch of interrupt `p` cleared and its mask pointer set, where it has them there. -/
def servedPair (w : Word) (p : Nat) : Word :=
  if inLirptl p then putBit (putBit w (latchBit p) false) (latchBit p + 20) true else w

theorem markedBit_getLsbD (hp : p < 42) (hq : q < 42) (hl : inLirptl q = false) (w : Word) :
    (markedBit w p).getLsbD (latchBit q) = (w.getLsbD (latchBit q) || q == p) := by
  unfold markedBit
  cases hlp : inLirptl p with
  | false =>
    rw [if_neg Bool.false_ne_true, putBit_getLsbD (latchBit_lt hp)]
    by_cases h : q = p
    · simp [h]
    · simp [h, (latchBit_eq_iff hp hq (hl.trans hlp.symm)).not.mpr h]
  | true =>
    have : q ≠ p := fun h => by rw [h, hlp] at hl; cases hl
    simp [this]

/-- Of the three bits of an interrupt in LIRPTL the latch is cleared and the mask pointer set, the mask is as it was. -/
theorem servedPair_getLsbD (hp : p < 42) (hq : q < 42) (hl : inLirptl q = true) (w : Word) :
    (servedPair w p).getLsbD (latchBit q) = (w.getLsbD (latchBit q) && q != p) ∧
      (servedPair w p).getLsbD (latchBit q + 10) = w.getLsbD (latchBit q + 10) ∧
      (servedPair w p).getLsbD (latchBit q + 20) = (w.getLsbD (latchBit q + 20) || q == p) := by
  have hq10 := latchBit_lt_ten hl
  unfold servedPair
  cases hlp : inLirptl p with
  | false =>
    have : q ≠ p := fun h => by rw [h, hlp] at hl; cases hl
    simp [this]
  | true =>
    have hp10 := latchBit_lt_ten hlp
    have heq := latchBit_eq_iff hp hq (hl.trans hlp.symm)
    have heq20 : latchBit q + 20 = latchBit p + 20 ↔ q = p := Nat.add_right_cancel_iff.trans heq
    rw [if_pos rfl]
    simp only [putBit_getLsbD (show latchBit p < 32 by omega), putBit_getLsbD (show latchBit p + 20 < 32 by omega),
      heq, heq20, if_neg (show latchBit q ≠ latchBit p + 20 by omega),
      if_neg (show latchBit q + 10 ≠ latchBit p + 20 by omega), if_neg (show latchBit q + 10 ≠ latchBit p by omega),
      if_neg (show latchBit q + 20 ≠ latchBit p by omega)]
    by_cases h : q = p <;> simp [h]

theorem latchOf_served (hp : p < 42) (hq : q < 42) (i l : Word) :
    latchOf (clearedBit i p) (servedPair l p) q = (latchOf i l q && q != p) := by
  unfold latchOf
  cases hl : inLirptl q
  · simp only [clearedBit_getLsbD hp hq hl, Bool.false_eq_true, if_false, Bool.and_assoc]
  · simp only [(servedPair_getLsbD hp hq hl l).1, if_true, Bool.and_assoc]

theorem maskpOf_served (hp : p < 42) (h7 : p ≠ 7) (hq : q < 42) (i l : Word) :
    maskpOf (markedBit i p) (servedPair l p) q = (maskpOf i l q || q == p) := by
  have h7q : (q != 7) = false → (q == p) = false := by simp only [bne_eq_false_iff_eq]; rintro rfl; simpa using h7.symm
  unfold maskpOf
  cases hl : inLirptl q
  · simp only [markedBit_getLsbD hp hq hl, Bool.false_eq_true, if_false]
    cases h : q != 7 <;> simp [h7q, h]
  · simp only [(servedPair_getLsbD hp hq hl l).2.2, if_true]
    cases h : q != 7 <;> simp [h7q, h]

theorem maskOf_served (hp : p < 42) (hq : q < 42) (i l : Word) : maskOf i (servedPair l p) q = maskOf i l q := by
  unfold maskOf
  cases hl : inLirptl q
  · simp only [Bool.false_eq_true, if_false]
  · simp only [(servedPair_getLsbD hp hq hl l).2.1, if_true]

/-! ## The entry -/

/-- The entry pushes the status on a full stack. -/
def statusLost (s : State) (p : Nat) : Bool := pushesStatus p && decide (15 ≤ s.seq.sts.length)

/-- What an entry makes of the state after its push on the PC stack. -/
def State.entered (u : State) (p : Nat) (vector : Addr24) : State :=
  { u with
    seq := { u.seq with
      pc := vector
      irqHold := true
      sts := if pushesStatus p && !statusLost u p then
          ⟨u.sys.mode1.val, readSReg u .astatx, readSReg u .astaty⟩ :: u.seq.sts
        else u.seq.sts }
    sys := { u.sys with
      mode1 := u.sys.mode1.hw (if pushesStatus p then u.sys.mode1.val &&& ~~~u.sys.mmask.eff else u.sys.mode1.val)
      stkyx := u.sys.stkyx.hw (if statusLost u p then u.sys.stkyx.val ||| 0x00800000 else u.sys.stkyx.val)
      irptl := u.sys.irptl.hw (clearedBit u.sys.irptl.val p)
      imaskp := u.sys.imaskp.hw (markedBit u.sys.imaskp.val p)
      lirptl := u.sys.lirptl.hw (servedPair u.sys.lirptl.val p) }
    scratch := { u.scratch with events := if statusLost u p then u.scratch.events ||| 8 else u.scratch.events } }

theorem setLatch_setMaskp_eq (u : State) (p : Nat) :
    (u.setLatch p false).setMaskp p true = u.setSys { u.sys with
      irptl := u.sys.irptl.hw (clearedBit u.sys.irptl.val p)
      imaskp := u.sys.imaskp.hw (markedBit u.sys.imaskp.val p)
      lirptl := u.sys.lirptl.hw (servedPair u.sys.lirptl.val p) } := by
  unfold State.setLatch State.setMaskp clearedBit markedBit servedPair
  cases inLirptl p <;> rfl

theorem entered_eq {v : State} (hv : v = ((if pushesStatus p then pushStatus u else u).setLatch p false).setMaskp p true)
    (vector : Addr24) : v.setSeq { v.seq with pc := vector, irqHold := true } = u.entered p vector := by
  rw [hv, setLatch_setMaskp_eq]
  unfold State.entered statusLost
  cases pushesStatus p with
  | false => rfl
  | true =>
    unfold pushStatus
    rw [saveStatus_eq]
    by_cases h : u.seq.sts.length < 15
    · have h15 : decide (15 ≤ u.seq.sts.length) = false := by simpa using h
      rw [if_pos rfl, if_pos h, h15]
      rfl
    · have h15 : decide (15 ≤ u.seq.sts.length) = true := by simpa using h
      rw [if_pos rfl, if_neg h, h15]
      rfl

/-- The push that an entry begins with. -/
def entryPush (s : State) : Res State := pushPc (pcEntry s.seq.pc false true) (s.setSeq { s.seq with idle := false })

theorem takeInterrupt_entered : takeInterrupt p s = .next t ↔
    ∃ u, entryPush s = .next u ∧ t = u.entered p (ivtBase s + .ofNat 24 (4 * p)) := by
  rw [takeInterrupt_eq_next]
  exact exists_congr fun u => and_congr_right fun _ => by rw [← entered_eq rfl]

/-- The push changes the PC stack, and may raise SOVFI; its pointer has no explicit write pending that it had not. -/
theorem entryPush_same (h : entryPush s = .next u) :
    u = { s with
      seq := { s.seq with idle := false, pcstack := u.seq.pcstack, pcstkp := u.seq.pcstkp }
      scratch := u.scratch } ∧ u.seq.pcstkp.wr = s.seq.pcstkp.wr := by
  obtain ⟨d, -, rfl⟩ := pushPc_eq_next.mp h
  rw [bumpPc_eq]
  split <;> exact ⟨rfl, rfl⟩

theorem entryPush_of_has {d : Nat} (hp : pcHas s d) (h : d < 30) :
    entryPush s = .next (pcPushed (s.setSeq { s.seq with idle := false }) d h (1#1 ++ 0#1 ++ s.seq.pc)) :=
  pushPc_of_has (s := s.setSeq { s.seq with idle := false }) _ hp h

/-! ## What it leaves -/

theorem Latent.hw_ite {w : Nat} (l : Latent w) (c : Bool) (v : BitVec w) :
    l.hw (if c then v else l.val) = if c then l.hw v else l := by
  cases c <;> rfl

/-- SOVFI is asked for by either stack. -/
theorem sovfi_either (e : BitVec 42) (c : Prop) [Decidable c] (b : Bool) :
    (if b then (e ||| if c then 8 else 0) ||| 8 else e ||| if c then 8 else 0) = e ||| if c ∨ b = true then 8 else 0 := by
  cases b <;> by_cases h : c <;> simp [h, BitVec.or_assoc]

/-- The entry, after a push that changes the PC stack and asks for `events`. -/
theorem entered_eq_of_push {events : BitVec 42} (u : State)
    (hu : u = { s with seq := { s.seq with idle := false, pcstack := u.seq.pcstack, pcstkp := u.seq.pcstkp }
                       scratch := { s.scratch with events := u.scratch.events } })
    (hev : (if statusLost s p then u.scratch.events ||| 8 else u.scratch.events) = events) (vector : Addr24) :
    let t := u.entered p vector
    t = { s with
      seq := { s.seq with
        pc := vector
        idle := false
        irqHold := true
        pcstack := t.seq.pcstack
        pcstkp := t.seq.pcstkp
        sts := if pushesStatus p && !statusLost s p then
            ⟨s.sys.mode1.val, readSReg s .astatx, readSReg s .astaty⟩ :: s.seq.sts
          else s.seq.sts }
      sys := { s.sys with
        mode1 := if pushesStatus p then s.sys.mode1.hw (s.sys.mode1.val &&& ~~~s.sys.mmask.eff) else s.sys.mode1
        stkyx := if statusLost s p then s.sys.stkyx.hw (s.sys.stkyx.val ||| 0x00800000) else s.sys.stkyx
        irptl := t.sys.irptl
        imaskp := t.sys.imaskp
        lirptl := t.sys.lirptl }
      scratch := { s.scratch with events := events } } := by
  generalize u.seq.pcstack = a, u.seq.pcstkp = b, u.scratch.events = e at hu hev
  subst hu hev
  rw [← Latent.hw_ite, ← Latent.hw_ite]
  rfl

theorem entered_latches (h2 : p < 42) (h7 : p ≠ 7) (hq : q < 42) (u : State) (vector : Addr24) :
    let y := (u.entered p vector).sys
    latchOf y.irptl.val y.lirptl.val q = (latchOf u.sys.irptl.val u.sys.lirptl.val q && q != p) ∧
      maskpOf y.imaskp.val y.lirptl.val q = (maskpOf u.sys.imaskp.val u.sys.lirptl.val q || q == p) ∧
      maskOf y.imask.val y.lirptl.val q = maskOf u.sys.imask.val u.sys.lirptl.val q :=
  ⟨latchOf_served h2 hq _ _, maskpOf_served h2 h7 hq _ _, maskOf_served h2 hq _ _⟩

/-! ## The step of an entry -/

/-- `LatchUpdate` leaves the bits of LIRPTL that are no latches. -/
theorem latchUpdate_lirptl {k : Nat} (hk : 10 ≤ k) (events : BitVec 42) (imaskp maskpl irptl lirptl : Word) :
    (latchUpdate events imaskp maskpl irptl lirptl).2.getLsbD k = lirptl.getLsbD k := by
  rw [latchUpdate_eq_foldl]
  have hstep (a : Word × Word) (q : Nat) : (updateLatch events imaskp maskpl a q).2.getLsbD k = a.2.getLsbD k := by
    unfold updateLatch
    split
    · split
      · next hl =>
        have hq := latchBit_lt_ten hl
        rw [putBit_getLsbD (by omega), if_neg (by omega)]
      · rfl
    · rfl
  have hfold (l : List Nat) (a : Word × Word) :
      (l.foldl (updateLatch events imaskp maskpl) a).2.getLsbD k = a.2.getLsbD k := by
    induction l generalizing a with
    | nil => rfl
    | cons q l ih => exact (ih _).trans (hstep a q)
  exact hfold _ _

theorem Latent.commit_of_none {w : Nat} {l : Latent w} (h : l.wr = none) :
    l.commit.val = l.val ∧ l.commit.eff = l.val ∧ l.commit.wr = none :=
  ⟨by rw [Latent.commit, h]; rfl, rfl, rfl⟩

theorem latch_lirptl {k : Nat} (hk : 10 ≤ k) (events : BitVec 42) (y : SysRegs) :
    (y.latch events).lirptl.val.getLsbD k = y.lirptl.val.getLsbD k :=
  latchUpdate_lirptl hk events y.imaskp.eff y.lirptl.eff y.irptl.val y.lirptl.val

/-- LIRPTL but for its latches, at the end of a step. -/
theorem endStep_lirptl {k : Nat} (hk : 10 ≤ k) (s : State) (inp : EnvInput) (ran : Option Addr24) (t : State) :
    (endStep s inp ran t).sys.lirptl.val.getLsbD k = t.sys.lirptl.commit.val.getLsbD k := by
  have hend : ∀ u, ticked inp ran t = u → ∃ events, (endStep s inp ran t).sys = u.sys.commit.latch events := by
    rintro u rfl
    exact ⟨_, rfl⟩
  obtain ⟨c, e, x, l, a, b, v, ht⟩ := ticked_eq inp ran t
  obtain ⟨events, hsys⟩ := hend _ ht
  rw [hsys, latch_lirptl hk]
  rfl

/-- The memory-mapped registers at the end of a step: those of the breakpoint unit, moved on by their latencies. -/
theorem endStep_iop (s : State) (inp : EnvInput) (ran : Option Addr24) (t : State) :
    (endStep s inp ran t).iop = (ticked inp ran t).iop.commit := rfl

/-- Without an instruction the breakpoint unit does nothing. -/
theorem ticked_none_iop (inp : EnvInput) (t : State) : (ticked inp none t).iop = t.iop := by
  obtain ⟨c, e, v, ht⟩ := tickTimer_eq (inp.moreTicks + 1) t
  unfold ticked
  rw [ht]
  rfl

/-- An entry leaves all but the sequencer, MODE1, STKYx, the latches and the mask pointers, and makes no explicit write. -/
theorem takeInterrupt_same (h : takeInterrupt p s = .next t) :
    t = { s with seq := t.seq, sys := t.sys, scratch := t.scratch } ∧
      t.sys = { s.sys with
        mode1 := s.sys.mode1.hw t.sys.mode1.val
        stkyx := s.sys.stkyx.hw t.sys.stkyx.val
        irptl := s.sys.irptl.hw t.sys.irptl.val
        imaskp := s.sys.imaskp.hw t.sys.imaskp.val
        lirptl := s.sys.lirptl.hw t.sys.lirptl.val } ∧ t.seq.pcstkp.wr = s.seq.pcstkp.wr := by
  obtain ⟨u, hu, rfl⟩ := takeInterrupt_entered.mp h
  obtain ⟨hsame, hwr⟩ := entryPush_same hu
  refine ⟨?_, ?_, hwr⟩ <;> rw [hsame] <;> rfl

theorem takeInterrupt_settled (h : takeInterrupt p s = .next t) (hs : Settled s) : Settled t := by
  obtain ⟨hall, hsys, hwr⟩ := takeInterrupt_same h
  have hiop : t.iop = s.iop := by rw [hall]
  unfold Settled
  rw [hsys, hwr, hiop]
  exact hs

/-- The bits of LIRPTL from 10 to 29 are the masks and mask pointers. -/
theorem lirptl_masks {v w : Word} (h : ∀ k, 10 ≤ k → v.getLsbD k = w.getLsbD k) :
    v &&& 0x3FFFFC00 = w &&& 0x3FFFFC00 := by
  apply BitVec.eq_of_getLsbD_eq
  intro k _
  have hlow : ∀ k < 10, (0x3FFFFC00 : Word).getLsbD k = false := by decide
  rw [BitVec.getLsbD_and, BitVec.getLsbD_and]
  by_cases hk : k < 10
  · rw [hlow k hk, Bool.and_false, Bool.and_false]
  · rw [h k (by omega)]

/-- The interrupt that is entered is in service from the next step on. -/
theorem takeInterrupt_maskp (h : takeInterrupt p s = .next t) (hp : p < 42) (h7 : p ≠ 7) :
    maskpOf t.sys.imaskp.val t.sys.lirptl.val p = true := by
  obtain ⟨u, -, rfl⟩ := takeInterrupt_entered.mp h
  obtain ⟨-, hmaskp, -⟩ := entered_latches hp h7 hp u (ivtBase s + .ofNat 24 (4 * p))
  simpa using hmaskp

/-- A step that enters an interrupt is the end of what the entry left. -/
theorem step_of_interrupt (hreset : s.input.reset = false) (hsoft : s.iop.sysctl.eff.getLsbD 0 = false)
    (hirq : interruptNow s.takeInput = some p) (ht : takeInterrupt p s.takeInput = .next t) :
    step s = .next (endStep s.takeInput s.input none t) := by
  unfold step stepWith
  rw [State.takeInput_sysctl, hreset, hsoft, if_neg (by decide), hirq]
  exact congrArg (Res.map _) ht

/-- Settles O54: the choice by `nextIrq_eq_some`, the entry by `State.entered`, and its step by `Ended`. -/
theorem interruptEntry : Obligations.InterruptEntry := by
  unfold Obligations.InterruptEntry
  refine ⟨fun s p => ?_, fun s p d hp hd => ?_, fun s t p hinv hreset hsoft hirq ht => ?_⟩
  · rw [interruptNow_eq_some, nextIrq_eq_some]
    exact Iff.rfl
  · refine ⟨_, takeInterrupt_entered.mpr ⟨_, entryPush_of_has hp hd, rfl⟩, pushedPc_of hd rfl rfl, ?_,
      fun q hq _ _ hp42 hp7 => entered_latches hp42 hp7 hq _ _⟩
    exact entered_eq_of_push _ rfl (sovfi_either s.scratch.events (29 ≤ d + 1) (statusLost s p)) _
  · refine ⟨_, step_of_interrupt hreset hsoft hirq ht, ?_⟩
    obtain ⟨-, -, hnext⟩ := (interruptNow_eq_some _ _).mp hirq
    obtain ⟨-, ⟨h2, hp, h7, -⟩, -⟩ := (nextIrq_eq_some _ _).mp hnext
    obtain ⟨hall, hsys, -⟩ := takeInterrupt_same ht
    have hiop : t.iop = s.takeInput.iop := by rw [hall]
    obtain ⟨hmode1, hmode2, hmmask, hflags, hastatx, hastaty, hstkyx, hstkyy, -, himask, himaskp, hlirptl, hpcstkp, hsysctl,
      hbrkctl, hbrk⟩ := takeInterrupt_settled ht hinv.settled
    have he := endStep_ended s.takeInput s.input none t
    have hw : (endStep s.takeInput s.input none t).iop = s.takeInput.iop.commit := by
      rw [endStep_iop, ticked_none_iop, hiop]
    have hmasks := lirptl_masks fun k hk => (endStep_lirptl hk s.takeInput s.input none t).trans
      (by rw [(Latent.commit_of_none hlirptl).1])
    have hlatch := endStep_latch h2 hp h7 s.takeInput s.input none t
    rw [takeInterrupt_maskp ht hp h7, Bool.not_true, Bool.and_false] at hlatch
    rw [hiop] at hsysctl hbrkctl hbrk
    generalize endStep s.takeInput s.input none t = w at he hw hmasks hlatch ⊢
    have hptr : w.seq.pcstkp = t.seq.pcstkp.commit := by rw [he.seq]
    obtain ⟨hval, heff, -⟩ := Latent.commit_of_none hpcstkp
    refine ⟨by rw [he.seq], by rw [hptr, hval], by rw [hptr, heff], by rw [he.pex, hall]; rfl, by rw [he.pey, hall]; rfl,
      by rw [he.dag, hall]; rfl, by rw [he.dagAlt, hall]; rfl, by rw [he.px, hall]; rfl, by rw [he.tperiod, hall]; rfl,
      by rw [he.mem, hall], by rw [hw]; rfl, by rw [hw]; rfl, by rw [hw]; rfl, he.scratch, ?_, fun k => ?_,
      by rw [he.sys, hsys]; rfl, by rw [he.sys, hsys]; rfl, by rw [he.sys, hsys]; rfl, by rw [he.sys, hsys]; rfl,
      hmasks, hlatch⟩
    · simp only [List.forall_mem_cons, List.not_mem_nil, IsEmpty.forall_iff, implies_true, and_true]
      rw [he.sys, hw]
      exact ⟨Latent.commit_of_none hmode1, Latent.commit_of_none hmode2, Latent.commit_of_none hmmask,
        Latent.commit_of_none hflags, Latent.commit_of_none hastatx, Latent.commit_of_none hastaty,
        Latent.commit_of_none hstkyx, Latent.commit_of_none hstkyy, Latent.commit_of_none himask,
        Latent.commit_of_none himaskp, Latent.commit_of_none hsysctl, Latent.commit_of_none hbrkctl⟩
    · have hk : w.iop.brk[k] = (s.iop.brk[k]).commit := by
        rw [hw]
        exact Vector.getElem_map ..
      rw [hk]
      exact (Latent.commit_of_none (hbrk k)).1

end Sys2Proof.Machine
end

section
/-! The instructions with a single transfer (O55, O56): each makes its compute, its transfer and its post-modify, and adds what
these note (`Move.notes`). -/

namespace Sys2Proof.Machine

open Sys2Proof.Safety

variable {s t v : State} {x : Move} {cond : Cond} {conditional : Bool} {c : Compute} {r : Res State}

/-! ## A compute or shift before the transfer -/

theorem StackFlags.shiftImmElem (h : StackFlags s t) (v : State) (e : Elem) (sh : ShiftImm) :
    StackFlags s (shiftImmElem v e sh t) := by
  cases sh with
  | by8 => exact h.putShf _ _ _
  | btst8 => exact h.shfFlags _ _ _ _
  | field => exact h.putShf _ _ _
  | bitdep12 => exact h.bitDeposit _ _ _ _
  | bitext12 => exact h.bitExtract _ _ _ _ _
  | bffwrp7 => exact (h.setFifo _ _ _).shfFlags _ _ _ _

theorem doShift_computed (s : State) (g : Gates) (sh : ShiftImm) : Computed s (doShift s g sh s) :=
  ⟨doShift_units s g sh s, StackFlags.onElems (fun e _ hw => hw.shiftImmElem s e sh) (StackFlags.refl s) s g⟩

theorem Computed.refl (s : State) : Computed s s := ⟨onlyUnits.refl s, StackFlags.refl s⟩

/-- A compute notes nothing of a transfer. -/
theorem Computed.adds (h : Computed s v) : Adds .nothing s v where
  sticky b hb := by rw [h.flags b hb]; simp [Notes.nothing]
  events := by rw [h.units]; simp [Notes.nothing]
  accesses := by rw [h.units]; simp [Notes.nothing]

/-- A register that can be used before the compute can be used after it. -/
theorem Computed.usable {u : UReg} (h : Computed s v) (hu : usable s u) : usable v u := by
  unfold Safety.usable
  rw [h.loopLost, h.seq]
  exact hu

theorem Makes.of_computed {n : Notes} (h : Computed s v) (hr : Makes n v r) : Makes n s r := by
  obtain ⟨t, rfl, ht⟩ := hr
  exact ⟨t, rfl, Notes.nothing_both n ▸ h.adds.trans ht⟩

end Sys2Proof.Machine

namespace Sys2Proof.Safety

open Sys2Proof.Machine

variable {s t v : State} {x : Move} {cond : Cond} {conditional : Bool} {c : Compute} {r : Res State} {a : RegNum} {k : Word}

/-! ## The transfer and the post-modify of a move -/

def Move.transfer (x : Move) (conditional : Bool) : Transfer :=
  { pm := x.pm, addr := x.addr, lw := x.lw, dual := false, conditional := conditional, index := x.index }

/-- What the post-modify of the move adds. -/
def Move.wrapNotes (s : State) (x : Move) : Notes := ⟨x.stepping 0 (wrapSticky s), x.stepping 0 (wrapEvent s), []⟩

/-- What the move adds. -/
def Move.notes (s : State) (x : Move) : Notes :=
  (transferNotes s x.gates (x.transfer false) x.write x.reg).both (x.wrapNotes s)

theorem cls_ne_px {u : UReg} (h : u ≠ .px) : u.cls ≠ .px := by
  cases u <;> simp_all [UReg.cls]

theorem Move.completes.served (h : x.completes s cond) (hc : conditional = true → cond ≠ .always) :
    Served s (x.transfer conditional) x.reg.cls x.reg.complement.isSome x.write := by
  have hpairs (h0 : ¬ x.addr.toNat < 0x40000) : pairToIop s (x.transfer conditional) = false := by
    simp [pairToIop, Move.transfer, h0]
  obtain ⟨-, -, ⟨hlw, hpx, hn, hy⟩ | ⟨hlw, h0, h1, hm⟩ | ⟨hlw, h0, hs⟩⟩ := h
  · exact served_normalWord hn hy hlw (cls_ne_px hpx) x.write
  · exact ⟨⟨_, classify_long (lw := x.lw) (.inr ⟨h0, h1, hlw, rfl, rfl, hm⟩) _⟩,
      fun _ _ => ⟨_, implicitAccess_wide (.inr (.inl hlw))⟩, fun _ _ => hpairs (by omega)⟩
  · have hlow : x.addr.toNat < 0x80000 := by omega
    refine ⟨⟨.iop, ?_⟩, fun _ _ => ⟨_, implicitAccess_wide (.inl hlow)⟩, fun hw _ => ?_⟩
    · show classify s x.addr x.reg.cls x.lw false = _
      rw [hlw]
      exact classify_iop h0 _
    · cases hsimd : s.simd with
      | false => simp [pairToIop, hsimd]
      | true =>
        have hno : conditional = false := by
          cases conditional with
          | false => rfl
          | true => exact absurd (hs hw hsimd) (hc rfl)
        simp [pairToIop, Move.transfer, hno]

theorem postMod_adds (s : State) (a : RegNum) (k : Word) (t : State) :
    Adds ⟨wrapSticky s a k, wrapEvent s a k, []⟩ t (postMod s true a k t) := by
  rw [postMod_eq]
  refine ⟨fun b _ => ?_, rfl, (List.append_nil _).symm⟩
  show ((t.setI a (stepped s a k)).sys.stkyx.val ||| wrapSticky s a k).getLsbD b = _
  rw [State.setI_sys, BitVec.getLsbD_or]

/-- A move without a post-modify. -/
theorem Move.wrapNotes_none (h : x.index = none ∨ x.step = none) : x.wrapNotes s = .nothing := by
  unfold Move.wrapNotes Move.stepping
  rcases h with h | h
  · rw [h]; rfl
  · rw [h]
    cases x.index <;> rfl

/-- A move with one, which is made where the instruction executes. -/
theorem Move.wrapNotes_some (hi : x.index = some a) (hs : x.step = some k) :
    x.wrapNotes s = if x.gates.any then ⟨wrapSticky s a k, wrapEvent s a k, []⟩ else .nothing := by
  unfold Move.wrapNotes Move.stepping
  rw [hi, hs]
  dsimp only
  split <;> rfl

/-- The post-modify of an instruction that has one when `post`. -/
theorem Move.postMod_adds {post : Bool} (hi : x.index = some a) (hs : x.step = if post then some k else none) (t : State) :
    Adds (x.wrapNotes s) t (postMod s (post && x.gates.any) a k t) := by
  cases post with
  | false =>
    rw [x.wrapNotes_none (.inr hs)]
    exact .refl t
  | true =>
    rw [x.wrapNotes_some hi hs, Bool.true_and]
    cases x.gates.any with
    | false => exact .refl t
    | true => exact Safety.postMod_adds s a k t

theorem noteAborted_adds (g : Gates) (t : State) : Adds .nothing t (noteAborted g t) := .of_eq rfl rfl rfl

theorem noteBranch_adds (take ran : Bool) (t : State) : Adds .nothing t (noteBranch take ran t) := .of_eq rfl rfl rfl

/-- A transfer that can be completed is made, after what the instruction computes; then follows what the post-modify notes. -/
theorem Move.makes (hx : x.completes s cond) (hc : conditional = true → cond ≠ .always) (hv : Computed s v)
    {tail : State → Res State} (htail : ∀ t, Makes (x.wrapNotes s) t (tail t)) :
    Makes (x.notes s) s (Res.bind (access s x.gates (x.transfer conditional) x.write x.reg v) tail) := by
  obtain ⟨hu, -⟩ := id hx
  exact .of_computed hv ((access_makes (hx.served hc) hu (hv.usable hu)).bind fun t _ => htail t)

/-! ## The forms -/

/-- Bit 3 of the number of an index register tells its DAG. -/
theorem dagReg_getLsbD (pm : Bool) (i : DagNum) : (dagReg pm i).getLsbD 3 = pm := by
  revert pm i
  decide

/-- The forms with an index register: types 3, 4 and 15. -/
theorem indexedMove_makes {i : DagNum} {post : Bool} (hwf : c.wellFormed = true) (hx : x.completes s cond)
    (hc : conditional = true → cond ≠ .always) (hindex : x.index = some (dagReg x.pm i))
    (haddr : x.addr = if post then postAddr s (dagReg x.pm i) else preAddr s (dagReg x.pm i) k)
    (hstep : x.step = if post then some k else none)
    (hexec : exec x.instr s = indexedMove s x.gates x.pm i k post x.lw x.write x.reg conditional c) :
    Makes (x.notes s) s (exec x.instr s) := by
  have hdag : (x.gates.any && !x.write && sameDag x.pm x.reg) = false := by
    cases hw : x.write with
    | true => simp
    | false =>
      obtain ⟨-, hno, -⟩ := hx
      have := hno hw _ (by rw [hindex]; rfl)
      rw [dagReg_getLsbD] at this
      simp [this]
  obtain ⟨v, hv, hcomputed⟩ := doCompute_computed hwf s x.gates
  have htail (t : State) : Makes (x.wrapNotes s) t
      (.next (noteAborted x.gates (postMod s (post && x.gates.any) (dagReg x.pm i) k t))) :=
    .next (Notes.both_nothing (x.wrapNotes s) ▸ (x.postMod_adds hindex hstep t).trans (noteAborted_adds ..))
  rw [hexec]
  unfold indexedMove
  dsimp only
  rw [hdag, if_neg Bool.false_ne_true, hv, Res.bind_next, ← haddr, ← hindex]
  exact Move.makes hx hc hcomputed htail

theorem unconditional : false = true → cond ≠ .always := nofun

theorem not_always (h : (cond != .always) = true) : cond ≠ .always := by simpa using h

/-- The single transfers of a universal register. -/
theorem uregMoves_makes (d l : Bool) (u : UReg) (post pm : Bool) (i m : DagNum) (data : Word) (data7 : BitVec 7)
    (hwf : c.wellFormed = true) : ∀ x ∈ uregMoves s d l u post pm i m cond c data data7, x.completes s cond →
      Makes (x.notes s) s (exec x.instr s) := by
  simp only [uregMoves, List.forall_mem_cons, List.not_mem_nil, IsEmpty.forall_iff, implies_true, and_true]
  refine ⟨fun h => indexedMove_makes hwf h not_always rfl rfl rfl rfl,
    fun h => indexedMove_makes (c := .none) rfl h not_always rfl rfl rfl rfl, fun h => ?_,
    fun h => indexedMove_makes (post := false) (c := .none) rfl h unconditional rfl rfl rfl rfl,
    fun h => indexedMove_makes (post := false) (c := .none) rfl h unconditional rfl rfl rfl rfl⟩
  obtain ⟨hu, -⟩ := id h
  unfold Move.notes
  rw [Move.wrapNotes_none (.inl rfl), Notes.both_nothing]
  exact access_makes (h.served (conditional := false) unconditional) hu hu

theorem gates_always (s : State) (branch : Bool) : gates s branch .always = .open := by
  simp [gates, condHolds, Gates.open]

theorem exec_memDreg3c (i m : DagNum) (d : Bool) (n : RegNum) :
    exec (.memDreg3c i m d n) s =
      indexedMove s .open false i (s.mreg (dagReg false m)) true false d (.r n) false .none := by
  rw [← gates_always s false]
  rfl

/-- The move of type 10, where the jump is not taken, by instruction `j`. -/
def elseMove (s : State) (d : Bool) (n : RegNum) (i m : DagNum) (cond : Cond) (aft : Res State) (j : Instr) : Move :=
  { instr := j, reg := .r n, write := d, pm := false, lw := false, gates := (gates s true cond).negate, after := aft
    addr := postAddr s (dagReg false i), index := some (dagReg false i), step := some (s.mreg (dagReg false m)) }

/-- Type 10, where the jump is not taken. -/
theorem elseMove_makes {d : Bool} {n : RegNum} {i m : DagNum} {aft : Res State} {j : Instr} {target : Addr24}
    (hwf : c.wellFormed = true) (hboth : (gates s true cond).both = false)
    (hx : (elseMove s d n i m cond aft j).completes s cond) (hexec : exec j s = jumpElseMove d i m cond target n c s) :
    Makes ((elseMove s d n i m cond aft j).notes s) s (exec j s) := by
  obtain ⟨v, hv, hcomputed⟩ := doCompute_computed hwf s (gates s true cond).negate
  rw [hexec]
  unfold jumpElseMove
  dsimp only
  rw [hv, Res.bind_next, hboth]
  exact Move.makes hx not_always hcomputed fun t => .next
    (Notes.both_nothing (Move.wrapNotes ..) ▸ (Move.postMod_adds (post := true) rfl rfl t).trans (noteBranch_adds ..))

/-- The single transfers of a data register. -/
theorem dregMoves_makes (d : Bool) (n : RegNum) (post pm : Bool) (i m : DagNum) (sh : ShiftImm) (data6 : BitVec 6)
    (hwf : c.wellFormed = true) : ∀ x ∈ dregMoves s d n post pm i m cond c sh data6, x.completes s cond →
      Makes (x.notes s) s (exec x.instr s) := by
  unfold dregMoves
  dsimp only
  simp only [List.forall_mem_append, List.forall_mem_cons, List.not_mem_nil, IsEmpty.forall_iff, implies_true, and_true]
  refine ⟨⟨fun h => indexedMove_makes (post := true) (c := .none) rfl h unconditional rfl rfl rfl (exec_memDreg3c i m d n),
    fun h => indexedMove_makes hwf h not_always rfl rfl rfl rfl,
    fun h => indexedMove_makes (c := .none) rfl h not_always rfl rfl rfl rfl, fun h => ?_⟩, fun x hmem h => ?_⟩
  · exact Move.makes h not_always (doShift_computed s _ sh) fun t => .next
      (Notes.both_nothing (Move.wrapNotes ..) ▸ (Move.postMod_adds (post := true) rfl rfl t).trans (noteAborted_adds ..))
  · split at hmem
    · cases hmem
    · next hboth =>
      have hboth : (gates s true cond).both = false := by simpa using hboth
      simp only [List.mem_cons, List.not_mem_nil, or_false] at hmem
      rcases hmem with rfl | rfl <;> exact elseMove_makes hwf hboth h rfl

theorem immediateMove_makes {pm : Bool} {i m : DagNum} {w : Word} {j : Instr} (hexec : exec j s = storeImmediate i m pm w s)
    (hx : (immediateMove s pm i m j).completes s cond) :
    Makes ((immediateMove s pm i m j).notes s) s (exec j s) := by
  have hs : Served s ((immediateMove s pm i m j).transfer false) .dreg true true := hx.served unconditional
  rw [hexec]
  exact (accessStore_makes (dc := some (immediateData w)) hs .open (immediateData w) s).map fun t =>
    Move.postMod_adds (x := immediateMove s pm i m j) (post := true) rfl rfl t

/-- The stores of an immediate. -/
theorem immediateMoves_makes (pm : Bool) (i m : DagNum) (data : Word) (data16 : BitVec 16) :
    ∀ x ∈ immediateMoves s pm i m data data16, x.completes s cond → Makes (x.notes s) s (exec x.instr s) := by
  simp only [immediateMoves, List.forall_mem_cons, List.not_mem_nil, IsEmpty.forall_iff, implies_true, and_true]
  exact ⟨immediateMove_makes rfl, immediateMove_makes rfl⟩

/-- The instructions with a single transfer, each where it can be completed. -/
theorem moves_makes (d l : Bool) (u : UReg) (n : RegNum) (post pm : Bool) (i m : DagNum) (sh : ShiftImm) (data : Word)
    (data6 : BitVec 6) (data7 : BitVec 7) (data16 : BitVec 16) (hwf : c.wellFormed = true) :
    ∀ x ∈ uregMoves s d l u post pm i m cond c data data7 ++ dregMoves s d n post pm i m cond c sh data6 ++
        immediateMoves s pm i m data data16, x.completes s cond → Makes (x.notes s) s (exec x.instr s) := by
  simp only [List.forall_mem_append]
  exact ⟨⟨uregMoves_makes d l u post pm i m data data7 hwf, dregMoves_makes d n post pm i m sh data6 hwf⟩,
    immediateMoves_makes pm i m data data16⟩

end Sys2Proof.Safety
end

section
/-! Interrupt sources (O55): the events that the end of a step latches, and those that a single transfer asks for. -/

namespace Sys2Proof.Machine

open Sys2Proof.Safety

variable {s t : State} {p : Nat}

/-! ## The events of a step -/

theorem eventIf_bit {n : Nat} (hn : n < 42) (b : Bool) (p : Nat) : (eventIf b n).getLsbD p = (p == n && b) := by
  rw [eventIf_getLsbD, decide_eq_true hn, Bool.and_true, Bool.and_comm, Bool.beq_comm]

theorem progEvents_getLsbD (hp : p < 42) (prog : BitVec 19) :
    (progEvents prog).getLsbD p = (decide (11 ≤ p) && decide (p ≤ 29) && prog.getLsbD (p - 11)) := by
  unfold progEvents
  rw [BitVec.getLsbD_shiftLeft, BitVec.getLsbD_setWidth]
  by_cases h : 29 < p
  · simp [BitVec.getLsbD_of_ge prog (p - 11) (by omega)]
  · simp only [hp, show p - 11 < 42 by omega, show p ≤ 29 by omega, decide_true, Bool.true_and, Bool.and_true]
    by_cases h : p < 11 <;> simp [h]
    omega

/-- The timer raises no events but its own. -/
theorem tickTimer_events (h4 : p ≠ 4) (h32 : p ≠ 32) (k : Nat) (t : State) :
    (tickTimer k t).scratch.events.getLsbD p = t.scratch.events.getLsbD p := by
  unfold tickTimer
  split
  · dsimp only
    split
    · rw [State.raise_events (by decide), State.raise_events (by decide), beq_eq_false_iff_ne.mpr h4,
        beq_eq_false_iff_ne.mpr h32, Bool.or_false, Bool.or_false]
    · rfl
  · rfl

/-- Nor does the breakpoint unit. -/
theorem ticked_events (h4 : p ≠ 4) (h6 : p ≠ 6) (h32 : p ≠ 32) (inp : EnvInput) (ran : Option Addr24) (t : State) :
    (ticked inp ran t).scratch.events.getLsbD p = t.scratch.events.getLsbD p := by
  unfold ticked
  cases ran with
  | none => exact tickTimer_events h4 h32 _ t
  | some n => exact (breakpoints_events h6 n _).trans (tickTimer_events h4 h32 _ t)

/-- The inputs and the sticky bits whose events a step latches (60_exceptions.md R770, R778, R788, R790). -/
theorem outerEvents_getLsbD (hp : p < 42) (s : State) (inp : EnvInput) (t : State) :
    let sticky (k : Nat) : Bool := s.sys.stkyx.val.getLsbD k || s.sys.stkyy.val.getLsbD k
    let irq (x : Nat) : Bool := !inp.irq.getLsbD x && (!t.sys.mode2.eff.getLsbD x || s.irqPins.getLsbD x)
    (outerEvents s inp t).getLsbD p =
      ((p == 5 && inp.sperri) || (p == 8 && irq 2) || (p == 9 && irq 1) || (p == 10 && irq 0) ||
      (decide (11 ≤ p) && decide (p ≤ 29) && inp.prog.getLsbD (p - 11)) ||
      (p == 33 && (sticky 2 || sticky 6)) || (p == 34 && (sticky 1 || sticky 7)) || (p == 35 && (sticky 0 || sticky 8)) ||
      (p == 36 && (sticky 5 || sticky 9))) := by
  have hpin (m old new : Bool) : (if m then old && !new else !new) = (!new && (!m || old)) := by
    cases m <;> cases old <;> cases new <;> rfl
  have hsperri : Config.hasSperri = true := by decide
  unfold outerEvents arithmeticEvents irqEvents
  simp only [BitVec.getLsbD_or, progEvents_getLsbD hp, eventIf_bit (show 5 < 42 by decide),
    eventIf_bit (show 8 < 42 by decide), eventIf_bit (show 9 < 42 by decide), eventIf_bit (show 10 < 42 by decide),
    eventIf_bit (show 33 < 42 by decide), eventIf_bit (show 34 < 42 by decide), eventIf_bit (show 35 < 42 by decide),
    eventIf_bit (show 36 < 42 by decide), hpin, hsperri, Bool.true_and]
  ac_rfl

/-- The latch of an interrupt at the end of a step, but for those of the timer and the breakpoint unit. -/
theorem endStep_latch_sources (h2 : 2 ≤ p) (hp : p < 42) (hno : p ∉ [4, 6, 7, 32]) (s : State) (inp : EnvInput)
    (ran : Option Addr24) (t : State) :
    let w := endStep s inp ran t
    latchOf w.sys.irptl.val w.sys.lirptl.val p =
      ((latchOf (t.sys.irptl.wr.getD t.sys.irptl.val) (t.sys.lirptl.wr.getD t.sys.lirptl.val) p ||
        t.scratch.events.getLsbD p || (outerEvents s inp t).getLsbD p) && !maskpOf t.sys.imaskp.val t.sys.lirptl.val p) := by
  simp only [List.mem_cons, List.not_mem_nil, or_false, not_or] at hno
  obtain ⟨h4, h6, h7, h32⟩ := hno
  refine (endStep_latch h2 hp h7 s inp ran t).trans ?_
  rw [BitVec.getLsbD_or, ticked_events h4 h6 h32, Bool.or_assoc]

end Sys2Proof.Machine

namespace Sys2Proof.Safety

open Sys2Proof.Machine

variable {s : State} {x : Move} {cond : Cond}

/-! ## The events of a transfer -/

/-- The explicit transfer reaches IOP space under IIRAE. -/
def Move.iopError (s : State) (x : Move) : Bool := x.made && decide (x.addr.toNat < 0x40000) && s.sys.mode2.val.getLsbD 20

/-- It is a forced long word at an odd address under U64MAE. -/
def Move.oddError (s : State) (x : Move) : Bool := x.made && x.lw && x.addr.getLsbD 0 && s.sys.mode2.val.getLsbD 21

/-- The post-modify of index register `r` is made, and wraps. -/
def Move.wrapped (s : State) (r : RegNum) (x : Move) : Bool := x.stepping false fun b k => b == r && wraps s b k

theorem wrapSticky_eq (s : State) (a : RegNum) (k : Word) :
    wrapSticky s a k = bitIf (a == 7 && wraps s a k) 17 ||| bitIf (a == 15 && wraps s a k) 18 := by
  unfold wrapSticky
  cases wraps s a k with
  | false => simp [bitIf]
  | true =>
    by_cases h7 : a = 7
    · subst h7; rfl
    · by_cases h15 : a = 15
      · subst h15; rfl
      · rw [if_pos rfl, if_neg h7, if_neg h15, beq_eq_false_iff_ne.mpr h7, beq_eq_false_iff_ne.mpr h15]; rfl

theorem wrapEvent_eq (s : State) (a : RegNum) (k : Word) :
    wrapEvent s a k = eventIf (a == 7 && wraps s a k) 30 ||| eventIf (a == 15 && wraps s a k) 31 := by
  unfold wrapEvent
  cases wraps s a k with
  | false => simp [eventIf]
  | true =>
    by_cases h7 : a = 7
    · subst h7; rfl
    · by_cases h15 : a = 15
      · subst h15; rfl
      · rw [if_pos rfl, if_neg h7, if_neg h15, beq_eq_false_iff_ne.mpr h7, beq_eq_false_iff_ne.mpr h15]; rfl

theorem Move.wrapNotes_eq (s : State) (x : Move) :
    x.wrapNotes s = ⟨bitIf (x.wrapped s 7) 17 ||| bitIf (x.wrapped s 15) 18,
      eventIf (x.wrapped s 7) 30 ||| eventIf (x.wrapped s 15) 31, []⟩ := by
  unfold Move.wrapNotes Move.wrapped Move.stepping
  split
  · split
    · rw [wrapSticky_eq, wrapEvent_eq]
    · rfl
  · rfl

/-- What is noted of an illegal access, by its two causes. -/
theorem illegal_eq {lw : Bool} {addr : Word} (h : lw = true → 0x80000 ≤ addr.toNat ∧ addr.toNat < 0x100000) (s : State) :
    let iop := decide (addr.toNat < 0x40000) && s.sys.mode2.val.getLsbD 20
    let odd := lw && addr.getLsbD 0 && s.sys.mode2.val.getLsbD 21
    illegal s lw addr = ⟨bitIf iop 19 ||| bitIf odd 20, eventIf (iop || odd) 2, []⟩ := by
  have hodd : addr.getLsbD 0 = decide (addr.toNat % 2 = 1) := by
    rw [← BitVec.testBit_toNat, Nat.testBit_zero]
  dsimp only
  unfold illegal
  dsimp only
  generalize s.sys.mode2.val.getLsbD 20 = m, s.sys.mode2.val.getLsbD 21 = n
  by_cases h0 : addr.toNat < 0x40000
  · have hlw : lw = false := by
      cases lw with
      | false => rfl
      | true => have := h rfl; omega
    rw [if_pos h0, hlw, decide_eq_true h0, Bool.false_and, Bool.false_and]
    cases m <;> rfl
  · have hforced : (0x80000 ≤ addr.toNat ∧ addr.toNat < 0x100000 ∧ lw ∧ addr.toNat % 2 = 1) ↔
        (lw && addr.getLsbD 0) = true := by
      rw [hodd, Bool.and_eq_true, decide_eq_true_eq]
      exact ⟨fun hc => hc.2.2, fun hc => ⟨(h hc.1).1, (h hc.1).2, hc⟩⟩
    rw [if_neg h0, decide_eq_false h0, Bool.false_and]
    simp only [hforced]
    cases lw && addr.getLsbD 0 <;> cases n <;> rfl

theorem onBusWhen_of_performed {g : Gates} {y : Transfer} {write : Bool} {u : UReg} (h : performed write u g = true) :
    onBusWhen s g y write u = true := by
  unfold onBusWhen
  rw [h, Bool.true_or]

/-- What the transfer of the move adds: its causes of interrupts, and its access where it is seen. -/
theorem Move.transferNotes_eq (h : x.completes s cond) :
    transferNotes s x.gates (x.transfer false) x.write x.reg =
      ⟨bitIf (x.iopError s) 19 ||| bitIf (x.oddError s) 20, eventIf (x.iopError s || x.oddError s) 2,
        if x.seen s then [⟨x.pm, x.write, x.addr⟩] else []⟩ := by
  have hlw : x.lw = true → 0x80000 ≤ x.addr.toNat ∧ x.addr.toNat < 0x100000 := by
    obtain ⟨-, -, ⟨hlw, -⟩ | ⟨-, h0, h1, -⟩ | ⟨hlw, -⟩⟩ := h
    · simp [hlw]
    · exact fun _ => ⟨h0, h1⟩
    · simp [hlw]
  have hseen : onBusWhen s x.gates (x.transfer false) x.write x.reg = x.seen s := rfl
  unfold transferNotes accessNotes Move.iopError Move.oddError
  rw [hseen]
  cases hmade : x.made with
  | true =>
    have hs : x.seen s = true := hseen ▸ onBusWhen_of_performed hmade
    rw [hs, if_pos rfl, show performed x.write x.reg x.gates = true from hmade, if_pos rfl, Move.transfer, illegal_eq hlw]
    simp [Notes.both, onBus]
  | false =>
    rw [show performed x.write x.reg x.gates = false from hmade]
    cases x.seen s <;> simp [Move.transfer, onBus, Notes.nothing, Notes.both, bitIf, eventIf]

/-- What a single transfer adds. -/
theorem Move.notes_eq (h : x.completes s cond) :
    x.notes s =
      ⟨(bitIf (x.iopError s) 19 ||| bitIf (x.oddError s) 20) |||
        (bitIf (x.wrapped s 7) 17 ||| bitIf (x.wrapped s 15) 18),
      eventIf (x.iopError s || x.oddError s) 2 ||| (eventIf (x.wrapped s 7) 30 ||| eventIf (x.wrapped s 15) 31),
      if x.seen s then [⟨x.pm, x.write, x.addr⟩] else []⟩ := by
  unfold Move.notes
  rw [Move.transferNotes_eq h, Move.wrapNotes_eq, Notes.both, List.append_nil]

/-- Settles O55: the latches by `endStep_latch_sources`, the single transfers by `moves_makes`. -/
theorem interruptSources : Obligations.InterruptSources := by
  unfold Obligations.InterruptSources
  refine ⟨fun s t h => ?_, ?_⟩
  · obtain ⟨ran, hstep⟩ := step_of_beforeEnd h
    refine ⟨_, hstep, fun p h2 hp hno => ?_⟩
    rw [endStep_latch_sources h2 hp hno, outerEvents_getLsbD hp]
    rfl
  · intro s d l u n post pm i m cond c sh data data6 data7 data16 hwf x hx hc
    obtain ⟨t, ht, hsticky, hevents, -⟩ := moves_makes d l u n post pm i m sh data data6 data7 data16 hwf x hx hc
    rw [Move.notes_eq hc] at hsticky hevents
    unfold Move.wrapped Move.iopError Move.oddError at hsticky hevents
    refine ⟨t, ht, ?_, ?_⟩
    · simp only [List.forall_mem_cons, List.not_mem_nil, IsEmpty.forall_iff, implies_true,
        hsticky 17 (by decide), hsticky 18 (by decide), hsticky 19 (by decide), hsticky 20 (by decide),
        BitVec.getLsbD_or, bitIf_getLsbD, Nat.reduceLT, Nat.reduceEqDiff, decide_true, decide_false, Bool.and_true,
        Bool.and_false, Bool.or_false, Bool.false_or, and_self]
    · simp only [List.forall_mem_cons, List.not_mem_nil, IsEmpty.forall_iff, implies_true, hevents,
        BitVec.getLsbD_or, eventIf_bit, Nat.reduceLT, Nat.reduceBEq, Bool.true_and, Bool.false_and, Bool.or_false,
        Bool.false_or, and_self]

end Sys2Proof.Safety
end

section
/-! The user breakpoint unit (O56): what its ranges, groups and count come to, and its part in the end of a step. -/

namespace Sys2Proof.Machine

open Sys2Proof.Safety

variable {s t u : State} {y : CoreIop} {l : List DataAccess} {n : Addr24} {aborted : Bool}

/-! ## The individual breakpoints -/

/-- The address lies in the range in force of registers `k` and `k + 1`, or with its NEG bit outside it. -/
def brkInside (y : CoreIop) (k : Fin 15) (neg : Nat) (a : Word) : Prop :=
  let lo := y.brk[k.val].eff.toNat
  let hi := y.brk[k.val + 1].eff.toNat
  lo ≤ hi ∧ if y.brkctl.eff.getLsbD neg then a.toNat < lo ∨ hi < a.toNat else lo ≤ a.toNat ∧ a.toNat ≤ hi

/-- A data access of the kind of the breakpoint, in its range. -/
def dataHit (y : CoreIop) (l : List DataAccess) (pm : Bool) (k : Fin 15) (mode neg : Nat) : Prop :=
  ∃ a ∈ l, a.pm = pm ∧ y.brkctl.eff.getLsbD (if a.write then mode else mode + 1) = true ∧ brkInside y k neg a.addr

/-- The breakpoints that fire, by their places in EEMUSTAT (60_exceptions.md R786). -/
def brkFires (y : CoreIop) (l : List DataAccess) (n : Addr24) (aborted : Bool) (b : Nat) : Prop :=
  match b with
  | 0 => aborted = false ∧ dataHit y l true 14 0 10
  | 1 => aborted = false ∧ dataHit y l false 10 2 11
  | 2 => aborted = false ∧ dataHit y l false 12 4 12
  | 3 => aborted = false ∧ brkInside y 0 13 (n.setWidth 32)
  | 4 => aborted = false ∧ brkInside y 2 14 (n.setWidth 32)
  | 5 => aborted = false ∧ brkInside y 4 15 (n.setWidth 32)
  | 6 => aborted = false ∧ brkInside y 6 16 (n.setWidth 32)
  | _ => False

theorem brkRange_iff (lo hi a : Word) (neg : Bool) :
    brkRange lo hi a neg = true ↔ lo.toNat ≤ hi.toNat ∧
      if neg then a.toNat < lo.toNat ∨ hi.toNat < a.toNat else lo.toNat ≤ a.toNat ∧ a.toNat ≤ hi.toNat := by
  unfold brkRange
  cases neg <;> simp [or_comm]

theorem brkInstr_iff (k : Fin 4) :
    brkInstr y n k = true ↔ brkInside y ⟨2 * k.val, by omega⟩ (13 + k.val) (n.setWidth 32) := brkRange_iff ..

/-- The two bits of a MODE field: writes by the lower, reads by the upper. -/
theorem brkMode_extract (w : Word) (m : Nat) (write : Bool) :
    brkMode (w.extractLsb' m 2) write = w.getLsbD (if write then m else m + 1) := by
  unfold brkMode
  cases write <;> simp

theorem brkData_iff (pm : Bool) (i : Fin 15) (m g : Nat) : brkData y l pm i m g = true ↔ dataHit y l pm i m g := by
  unfold brkData dataHit
  rw [List.any_eq_true]
  refine exists_congr fun a => and_congr_right fun _ => ?_
  rw [Bool.and_eq_true, Bool.and_eq_true, beq_iff_eq, brkMode_extract, brkRange_iff, and_assoc]
  rfl

/-- A bit in its place. -/
theorem place_getLsbD (b : Bool) {k : Nat} (hk : k < 7) (j : Nat) :
    (if b then 1#7 <<< k else 0).getLsbD j = (b && j == k) := by
  cases b with
  | false => simp
  | true => rw [if_pos rfl, one_shiftLeft_getLsbD hk, Bool.true_and]

theorem brkFired_getLsbD (b : Nat) : (brkFired y l n aborted).getLsbD b = true ↔ brkFires y l n aborted b := by
  have hbits : (brkFired y l n aborted).getLsbD b =
      ((((((((!aborted && brkData y l true 14 0 10) && b == 0) || ((!aborted && brkData y l false 10 2 11) && b == 1)) ||
        ((!aborted && brkData y l false 12 4 12) && b == 2)) || ((!aborted && brkInstr y n 0) && b == 3)) ||
        ((!aborted && brkInstr y n 1) && b == 4)) || ((!aborted && brkInstr y n 2) && b == 5)) ||
        ((!aborted && brkInstr y n 3) && b == 6)) := by
    unfold brkFired
    simp only [BitVec.getLsbD_or, place_getLsbD _ (show 0 < 7 by decide), place_getLsbD _ (show 1 < 7 by decide),
      place_getLsbD _ (show 2 < 7 by decide), place_getLsbD _ (show 3 < 7 by decide),
      place_getLsbD _ (show 4 < 7 by decide), place_getLsbD _ (show 5 < 7 by decide),
      place_getLsbD _ (show 6 < 7 by decide)]
  have hcode (k : Fin 4) {i : Fin 15} {g : Nat} (hi : i = ⟨2 * k.val, by omega⟩) (hg : g = 13 + k.val) :
      brkInstr y n k = true ↔ brkInside y i g (n.setWidth 32) := hi ▸ hg ▸ brkInstr_iff k
  rw [hbits]
  match b with
  | 0 | 1 | 2 => simp [brkFires, brkData_iff]
  | 3 => simp [brkFires, hcode 0 (i := 0) (g := 13) rfl rfl]
  | 4 => simp [brkFires, hcode 1 (i := 2) (g := 14) rfl rfl]
  | 5 => simp [brkFires, hcode 2 (i := 4) (g := 15) rfl rfl]
  | 6 => simp [brkFires, hcode 3 (i := 6) (g := 16) rfl rfl]
  | b + 7 => simp [brkFires]

/-! ## The event -/

/-- The enabled groups, `f` telling which individual breakpoints fired (60_exceptions.md R786). -/
def brkGroups (ctl : Word) (f : Nat → Prop) : Prop :=
  let pa : Prop := f 0
  let da : Prop := f 1 ∨ f 2
  let ia : Prop := f 3 ∨ f 4 ∨ f 5 ∨ f 6
  let on (k : Nat) : Prop := ctl.getLsbD k = true
  if ctl.getLsbD 24 then
    (on 19 ∨ on 20 ∨ on 21) ∧ (on 19 → pa) ∧ (on 20 → da) ∧ (on 21 → ia) ∧ ¬ on 26 ∧ ¬ on 27
  else (on 19 ∧ pa) ∨ (on 20 ∧ da) ∨ (on 21 ∧ ia)

/-- A field of four bits is not 0 where one of them is set. -/
theorem field4_ne_zero (f : BitVec 7) :
    (f.extractLsb' 3 4 != 0) = (f.getLsbD 3 || f.getLsbD 4 || f.getLsbD 5 || f.getLsbD 6) := by
  revert f
  decide

theorem brkEvent_iff (ctl : Word) (f : BitVec 7) : brkEvent ctl f = true ↔ brkGroups ctl fun b => f.getLsbD b = true := by
  unfold brkEvent brkGroups
  dsimp only
  rw [field4_ne_zero]
  split
  · simp only [Bool.and_eq_true, Bool.or_eq_true, Bool.not_eq_true', ← Bool.not_eq_true, imp_iff_not_or, not_or, and_assoc,
      or_assoc]
  · simp only [Bool.and_eq_true, Bool.or_eq_true, or_assoc]

/-- The event of the unit: UMODE is on, and the enabled groups ask for it. -/
def brkAsks (t : State) (n : Addr24) : Prop :=
  t.iop.brkctl.eff.getLsbD 25 = true ∧
    brkGroups t.iop.brkctl.eff (brkFires t.iop t.scratch.accesses n t.scratch.aborted)

theorem brkAsks_iff (t : State) (n : Addr24) :
    (t.iop.brkctl.eff.getLsbD 25 &&
      brkEvent t.iop.brkctl.eff (brkFired t.iop t.scratch.accesses n t.scratch.aborted)) = true ↔ brkAsks t n := by
  rw [Bool.and_eq_true, brkEvent_iff]
  unfold brkAsks
  simp only [brkFired_getLsbD]

/-! ## The unit at the end of a step -/

theorem breakpoints_idle (h : ¬ brkAsks t n) : breakpoints n t = t := by
  unfold breakpoints
  exact if_neg fun hc => h ((brkAsks_iff t n).mp hc)

theorem breakpoints_count (h : brkAsks t n) (h0 : t.iop.emun ≠ 0) :
    breakpoints n t = t.setIop { t.iop with emun := t.iop.emun - 1 } := by
  unfold breakpoints
  exact (if_pos ((brkAsks_iff t n).mpr h)).trans (if_neg h0)

theorem breakpoints_signal (h : brkAsks t n) (h0 : t.iop.emun = 0) :
    breakpoints n t = (t.setIop { t.iop with
      eemustat := t.iop.eemustat |||
        (brkFired t.iop t.scratch.accesses n t.scratch.aborted).setWidth 32 }).raise 6 := by
  unfold breakpoints
  exact (if_pos ((brkAsks_iff t n).mpr h)).trans (if_pos h0)

/-- A status bit is set for each individual breakpoint that fired. -/
theorem brkFired_status (b : Nat) :
    ((brkFired y l n aborted).setWidth 32).getLsbD b = true ↔ brkFires y l n aborted b := by
  rw [BitVec.getLsbD_setWidth, ← brkFired_getLsbD, Bool.and_eq_true, decide_eq_true_eq]
  refine and_iff_right_of_imp fun h => ?_
  have := BitVec.lt_of_getLsbD h
  omega

/-- What the unit finds at the end of a step: the timer leaves it as the instruction did. -/
theorem tickTimer_unit (k : Nat) (t : State) :
    let u := tickEmuclk k (tickTimer k t)
    u.iop = t.iop ∧ u.scratch.accesses = t.scratch.accesses ∧ u.scratch.aborted = t.scratch.aborted ∧
      u.scratch.events.getLsbD 6 = t.scratch.events.getLsbD 6 := by
  have hevents := tickTimer_events (p := 6) (by decide) (by decide) k t
  obtain ⟨c, e, v, ht⟩ := tickTimer_eq k t
  rw [ht] at hevents
  dsimp only
  rw [ht]
  exact ⟨rfl, rfl, rfl, hevents⟩

/-- BKPI is latched by what was latched, asked for or signalled, where it is not in service. -/
theorem endStep_bkpi (s : State) (inp : EnvInput) (n : Addr24) (t : State) :
    latchOf (endStep s inp (some n) t).sys.irptl.val (endStep s inp (some n) t).sys.lirptl.val 6 = true ↔
      (latchOf (t.sys.irptl.wr.getD t.sys.irptl.val) (t.sys.lirptl.wr.getD t.sys.lirptl.val) 6 = true ∨
        (ticked inp (some n) t).scratch.events.getLsbD 6 = true) ∧ maskpOf t.sys.imaskp.val t.sys.lirptl.val 6 = false := by
  have houter : (outerEvents s inp t).getLsbD 6 = false := by
    rw [outerEvents_getLsbD (by decide)]
    simp
  have hlatch := endStep_latch (p := 6) (by decide) (by decide) (by decide) s inp (some n) t
  dsimp only at hlatch
  rw [hlatch, BitVec.getLsbD_or, houter, Bool.or_false, Bool.and_eq_true, Bool.or_eq_true, Bool.not_eq_true']

/-- What the breakpoint unit makes of EEMUSTAT, EMUN and BKPI after the instruction at `n`, which left `t`. -/
theorem endStep_breakpoints (s : State) (inp : EnvInput) (n : Addr24) (t : State) :
    let w := endStep s inp (some n) t
    let latched : Prop :=
      latchOf (t.sys.irptl.wr.getD t.sys.irptl.val) (t.sys.lirptl.wr.getD t.sys.lirptl.val) 6 = true ∨
        t.scratch.events.getLsbD 6 = true
    let free : Prop := maskpOf t.sys.imaskp.val t.sys.lirptl.val 6 = false
    let bkpi : Prop := latchOf w.sys.irptl.val w.sys.lirptl.val 6 = true
    (¬ brkAsks t n → w.iop.eemustat = t.iop.eemustat ∧ w.iop.emun = t.iop.emun ∧ (bkpi ↔ latched ∧ free)) ∧
    (brkAsks t n → t.iop.emun ≠ 0 →
      w.iop.eemustat = t.iop.eemustat ∧ w.iop.emun = t.iop.emun - 1 ∧ (bkpi ↔ latched ∧ free)) ∧
    (brkAsks t n → t.iop.emun = 0 → w.iop.emun = 0 ∧ (bkpi ↔ free) ∧
      ∀ b, w.iop.eemustat.getLsbD b = true ↔
        t.iop.eemustat.getLsbD b = true ∨ brkFires t.iop t.scratch.accesses n t.scratch.aborted b) := by
  dsimp only
  rw [endStep_bkpi, show (endStep s inp (some n) t).iop.eemustat = (ticked inp (some n) t).iop.eemustat from rfl,
    show (endStep s inp (some n) t).iop.emun = (ticked inp (some n) t).iop.emun from rfl]
  rw [show ticked inp (some n) t = breakpoints n (tickEmuclk (inp.moreTicks + 1) (tickTimer (inp.moreTicks + 1) t)) from rfl]
  obtain ⟨hiop, hacc, haborted, hevents⟩ := tickTimer_unit (inp.moreTicks + 1) t
  generalize tickEmuclk (inp.moreTicks + 1) (tickTimer (inp.moreTicks + 1) t) = u at hiop hacc haborted hevents ⊢
  have hasks : brkAsks t n ↔ brkAsks u n := by
    unfold brkAsks
    rw [hiop, hacc, haborted]
  rw [hasks, ← hiop, ← hacc, ← haborted, ← hevents]
  refine ⟨fun h => ?_, fun h h0 => ?_, fun h h0 => ?_⟩
  · rw [breakpoints_idle h]
    exact ⟨rfl, rfl, Iff.rfl⟩
  · rw [breakpoints_count h h0]
    exact ⟨rfl, rfl, Iff.rfl⟩
  · rw [breakpoints_signal h h0]
    refine ⟨h0, ?_, fun b => ?_⟩
    · rw [State.raise_events (by decide)]
      simp
    · show (u.iop.eemustat ||| (brkFired u.iop u.scratch.accesses n u.scratch.aborted).setWidth 32).getLsbD b = true ↔ _
      rw [BitVec.getLsbD_or, Bool.or_eq_true, brkFired_status]

/-- Settles O56: the unit by `endStep_breakpoints`, the accesses of single transfers by `moves_makes`. -/
theorem breakpointUnit : Obligations.BreakpointUnit := by
  unfold Obligations.BreakpointUnit
  refine ⟨fun s t hr hrun => ?_, ?_⟩
  · have hstep : step s = .next (endStep s.takeInput s.input (some s.seq.pc) t) := by
      rw [step_of_running hr, hrun]
      rfl
    exact ⟨_, hstep, endStep_breakpoints s.takeInput s.input s.seq.pc t⟩
  · intro s d l u n post pm i m cond c sh data data6 data7 data16 hwf x hx hc
    obtain ⟨t, ht, -, -, haccesses⟩ := moves_makes d l u n post pm i m sh data data6 data7 data16 hwf x hx hc
    rw [Move.notes_eq hc] at haccesses
    exact ⟨t, ht, haccesses⟩

end Sys2Proof.Machine
end
